-- ==== Sys2Proof/Word.lean ====
section
/-! DEFINITION. The widths of the Migbel FS4: bytes of a telegram, words of table memory, track positions, and the
numbers of lanes, places, fold stations, lot ring entries and piece records (00_scope.md, Conventions, Numbering). -/
namespace Sys2Proof

/-- A byte of a telegram (R193). -/
abbrev Byte := BitVec 8

/-- A word of table memory, a data word of a response, a 16-bit counter that wraps (00_scope.md; R196). -/
abbrev Word := BitVec 16

/-- A track position: a 32-bit count of encoder pulses that wraps (R1). -/
abbrev Pos := BitVec 32

/-- Lanes 0 to 3. -/
abbrev LaneId := Fin 4

/-- Stack places P0 to P7. -/
abbrev PlaceId := Fin 8

/-- Fold stations F0 to F5 of a lane. -/
abbrev StationId := Fin 6

/-- Lot ring entries 0 to 63. -/
abbrev EntryId := Fin 64

/-- Piece records 0 to 63 of the pool (R48). -/
abbrev RecordNo := Fin 64

end Sys2Proof
end

