-- ==== Sys2Proof/Syntax.lean ====
section
/-! DEFINITION. The commands the block takes: one constructor of `Instr` for each row of spec/opcode_table.json, in the
table's order, with the operands a row's event brings from outside (a lane, a pin level, the bytes of a telegram).
A row that is a REQUEST has no operand of its own: its parameters lie in the REQUEST telegram at the head of the request
queue, from which the Request Processor takes it (R176). -/
namespace Sys2Proof

/-- The level of an eye: COVERED means a piece breaks the beam (chapter 2, section 2.1). -/
inductive Level where
  | clear
  | covered
  deriving DecidableEq, Repr

/-- The line a window drives: a fold output F0 to F5 or GATE of a lane (chapter 5). -/
inductive Output where
  | fold (station : StationId)
  | gate
  deriving DecidableEq, Repr

/-- A telegram on the line ring (chapter 12, section 12.1). The body length byte of the header is the length of `body`;
`crc` is the CRC-16 that travels with it. -/
structure Telegram where
  kind : Byte
  dest : Byte
  src : Byte
  flags : Byte
  body : List Byte
  crc : Word
  deriving DecidableEq, Repr

/-- One constructor for each row of the table of operations and events. -/
inductive Instr where
  /-- POWER_ON (R191): supply rises. -/
  | powerOn
  /-- WARM_RESET (R192): RESET_N goes low. A warm reset ordered by STATION RESET begins inside TELEGRAM_SENT (R172). -/
  | warmReset
  /-- ENCODER_PULSE (R1). -/
  | encoderPulse
  /-- MOTION_SAMPLE_CLOSE (R4): 10 ms have passed since the last close or the end of the last reset. -/
  | motionSampleClose
  /-- SET_MOTION_MODE (R8), a request. -/
  | setMotionMode
  /-- ENTRY_EYE_CHANGE (R12): the raw level of ENTRY_EYE of the lane becomes `level`. -/
  | entryEyeChange (lane : LaneId) (level : Level)
  /-- WIDTH_BEAM_CHANGE (R16): the sixteen WIDTH inputs of the lane become `beams`, bit n being 1 when beam n is covered. -/
  | widthBeamChange (lane : LaneId) (beams : BitVec 16)
  /-- ENTRY_EYE_CONFIRM (R13). -/
  | entryEyeConfirm (lane : LaneId)
  /-- BLOCKED_TARGET_REACHED (R18). -/
  | blockedTargetReached (lane : LaneId)
  /-- TOKEN_EXPIRY (R35): the oldest expired token of the lane is taken. -/
  | tokenExpiry (lane : LaneId)
  /-- RETIRE_POSITION_REACHED (R58): the first gated record of the lane's list that has reached its retire position. -/
  | retirePositionReached (lane : LaneId)
  /-- WINDOW_OPEN (R76): the lane's WAITING window of `output` whose start is reached. -/
  | windowOpen (lane : LaneId) (output : Output)
  /-- WINDOW_END (R77): the lane's window of `output` whose end is reached. -/
  | windowEnd (lane : LaneId) (output : Output)
  /-- EXIT_EYE_CHANGE (R87): the raw level of EXIT_EYE of the lane becomes `level`. -/
  | exitEyeChange (lane : LaneId) (level : Level)
  /-- EXIT_EYE_CONFIRM (R87). -/
  | exitEyeConfirm (lane : LaneId)
  /-- MISSING_TARGET_REACHED (R91). -/
  | missingTargetReached (lane : LaneId)
  /-- EXIT_BLOCKED_TARGET_REACHED (R93). -/
  | exitBlockedTargetReached (lane : LaneId)
  /-- CLOSE_PLACE (R107), a request. -/
  | closePlace
  /-- DISCHARGE_START (R113). -/
  | dischargeStart
  /-- OUTFEED_EYE_CHANGE (R116): the raw level of OUTFEED_EYE becomes `level`. -/
  | outfeedEyeChange (level : Level)
  /-- OUTFEED_EYE_CONFIRM (R116): the raw level has stayed different for 2 ms. -/
  | outfeedEyeConfirm
  /-- OUTFEED_TIMEOUT (R118): the outfeed timer runs out. -/
  | outfeedTimeout
  /-- RELEASE_OUTFEED (R120), a request. -/
  | releaseOutfeed
  /-- RECEIVE_START (R168): a start mark arrives on RING_IN. -/
  | receiveStart
  /-- TELEGRAM_RECEIVED (R163): the telegram in hand has arrived whole; `telegram` is what came, its CRC as received. -/
  | telegramReceived (telegram : Telegram)
  /-- SEND_START (R171): the arbiter looks, with RING_RDY_IN at the level `ready`. -/
  | sendStart (ready : Bool)
  /-- TELEGRAM_SENT (R172): the last byte of the telegram being sent leaves the port. -/
  | telegramSent
  /-- IDENTIFY (R182), a request. -/
  | identify
  /-- READ_STATUS (R183), a request. -/
  | readStatus
  /-- SET_POINTER (R184), a request. -/
  | setPointer
  /-- WRITE_TABLE (R185), a request. -/
  | writeTable
  /-- READ_TABLE (R186), a request. -/
  | readTable
  /-- BEGIN_MODIFY (R187), a request. -/
  | beginModify
  /-- END_MODIFY (R188), a request. -/
  | endModify
  /-- CLEAR_COUNTERS (R189), a request. -/
  | clearCounters
  /-- STATION_RESET (R190), a request. -/
  | stationReset
  /-- LANE_START (R149), a request. -/
  | laneStart
  /-- LANE_SUSPEND (R150), a request. -/
  | laneSuspend
  /-- LANE_RESUME (R152), a request. -/
  | laneResume
  /-- LANE_RELEASE (R153), a request. -/
  | laneRelease
  /-- LANE_STOP (R155), a request. -/
  | laneStop
  /-- CLEAR_FAULT (R160), a request. -/
  | clearFault
  /-- RESET_END (R173, R175): a reset ends, with the five ADDR straps at `straps`; also one that STATION RESET ordered (log entry 9). -/
  | resetEnd (straps : BitVec 5)
  /-- UNKNOWN_REQUEST (R177): a request whose code names none of the eighteen. -/
  | unknownRequest
  deriving DecidableEq, Repr

end Sys2Proof
end

