-- ==== Sys2Proof/Config.lean ====
section
/-! DEFINITION. What one FS4 fixes for good: the sizes of its queues and lists, its part code, the strap value the model takes
for State.reset (log entry 1), and the one value the spec leaves open (log entry 7). -/
namespace Sys2Proof.Config

/-- Tokens a lane's queue holds (R34). -/
def tokenQueueCap : Nat := 8

/-- Window slots of a lane's fire schedule (chapter 5). -/
def windowSlots : Nat := 16

/-- Items of a lane's open-entry list (R128). -/
def openListCap : Nat := 16

/-- Telegrams of the forward queue (R168). -/
def forwardCap : Nat := 8

/-- Telegrams of the request queue (R169). -/
def requestCap : Nat := 4

/-- Reports of the report queue (R170). -/
def reportCap : Nat := 16

/-- Longest telegram body the receive check passes (R163). -/
def maxBody : Nat := 40

/-- Part code of the FS4 (R195). -/
def partCode : Word := 0x46A4#16

/-- Revision number (R195). -/
def revision : Word := 0x0001#16

/-- The ADDR straps in State.reset. DESIGN CHOICE, log entry 1: the straps are wired by the machine builder and the spec gives no
value; 1 is the lowest address of a working station (R173). -/
def resetStraps : BitVec 5 := 1#5

/-- FREE VALUE, log entry 7: R80 takes the records of different lanes "in any order" at a stop notice. `laneChoice k n` picks the
next lane among the `n + 1` still to be taken at the notice numbered `k`. It has no body: nothing can be proved of its value. -/
opaque laneChoice : Nat → Nat → Nat

end Sys2Proof.Config
end

