-- ==== Sys2Proof/Machine/State.lean ====
section
/-! DEFINITION. The state of the FS4, block by block, as plain data; its value after reset; and the reasons a step could stop.
INVENTORY.md lists every field with the rule that names it. -/
namespace Sys2Proof.Machine

/-! ## Reasons to stop -/

/-- The spec gives every command an effect in every state, so the machine has no fault: a lane fault or an outfeed timeout is a
state of the block (R156, R118). Nobody raises one. -/
inductive Fault where
  deriving DecidableEq, Repr

/-- Why a command was not run. -/
inductive Refusal where
  /-- Raised by `exec` alone, for a command that has no meaning yet (safe). No command is left without one. -/
  | notModelled (mnemonic : String)
  deriving DecidableEq, Repr

/-! ## Track Monitor (chapter 1) -/

/-- The motion states. -/
inductive Motion where
  | running
  | stopped
  deriving DecidableEq, Repr

/-- The motion modes (R6). -/
inductive MotionMode where
  | auto
  | forceRunning
  | forceStopped
  deriving DecidableEq, Repr

/-- The state table of chapter 1. -/
structure Track where
  position : Pos
  pulseSeen : Bool
  movingCount : Nat
  stillCount : Nat
  computed : Motion
  mode : MotionMode
  presented : Motion
  deriving DecidableEq, Repr

/-! ## Entry Sensor (chapter 2) -/

/-- A raw change an eye filter has not yet accepted: its start position and its confirmation position (R12). -/
structure PendingChange where
  start : Pos
  confirm : Pos
  deriving DecidableEq, Repr

/-- The spacing states (R21). -/
inductive Spacing where
  | normal
  | crowded
  deriving DecidableEq, Repr

/-- The state table of chapter 2, with the raw pins ENTRY_EYE and WIDTH and the blocked check that waits on a pending change
(R18). -/
structure EntrySensor where
  rawLevel : Level
  beams : BitVec 16
  level : Level
  pendingChange : Option PendingChange
  widthMax : Nat
  openPiece : Option Pos
  blockedTarget : Option Pos
  blockedWaits : Bool
  lastTrailing : Option Pos
  spacing : Spacing
  shortCount : Nat
  goodCount : Nat
  feedSlow : Bool
  deriving DecidableEq, Repr

/-! ## Token Intake (chapter 3) -/

/-- A piece announcement as a record carries it (chapters 3 and 4). -/
structure Token where
  serial : Word
  article : Nat
  marked : Bool
  entry : EntryId
  mismatch : Bool
  deriving DecidableEq, Repr

/-- A token in a lane's queue, with its arrival and expiry positions (chapter 3). -/
structure QueuedToken where
  token : Token
  arrival : Pos
  expiry : Pos
  deriving DecidableEq, Repr

/-! ## Piece Tracker (chapter 4) -/

/-- The article snapshot (R52). -/
structure Snapshot where
  minLength : Nat
  maxLength : Nat
  minWidth : Nat
  maxWidth : Nat
  program : Nat
  deriving DecidableEq, Repr

/-- Where a piece is on its way (chapter 4). -/
inductive Phase where
  | entering
  | travelling
  | atExit
  deriving DecidableEq, Repr

/-- The reject reasons, in the order of their codes (R198, Table 12.4). -/
inductive RejectReason where
  | marked
  | article
  | noEntry
  | stray
  | double
  | short
  | long
  | width
  | late
  | crowd
  | spoiled
  deriving DecidableEq, Repr

/-- The verdict; a reject reason is present while the verdict is REJECT (chapter 4). -/
inductive Verdict where
  | accept
  | acceptOverflow
  | reject (reason : RejectReason)
  deriving DecidableEq, Repr

/-- Where a piece goes at the exit, and what ROUTE shows (chapter 4; R95). -/
inductive Destination where
  | place (p : PlaceId)
  | overflow
  deriving DecidableEq, Repr

/-- A piece record in use (chapter 4). A record with a retire position is gated. -/
structure PieceRecord where
  number : RecordNo
  lane : LaneId
  tokens : List Token
  snapshot : Option Snapshot
  lead : Pos
  expectedExit : Pos
  length : Option Nat
  widthClass : Option Nat
  phase : Phase
  verdict : Option Verdict
  forceOverflow : Bool
  retirePosition : Option Pos
  destination : Option Destination
  deriving DecidableEq, Repr

/-- The outcomes of a retirement (chapter 4, section 4.5). -/
inductive Retirement where
  | delivered
  | rejected
  | overflowed
  | lost
  deriving DecidableEq, Repr

/-! ## Fold Scheduler (chapter 5) -/

/-- Whether a window's start has been reached (chapter 5). -/
inductive WindowState where
  | waiting
  | opened
  deriving DecidableEq, Repr

/-- A placed window; `piece` is the record a fold window folds, absent for a gate window (chapter 5). -/
structure Window where
  output : Output
  start : Pos
  stop : Pos
  state : WindowState
  piece : Option RecordNo
  deriving DecidableEq, Repr

/-- A lane's part of the Fold Scheduler. The fire schedule is the list of its placed windows, at most 16; which slot a window
occupies has no effect (R70; log entry 17). -/
structure FoldLane where
  windows : List Window
  folds : Vector Bool 6
  gate : Bool
  gateHold : Bool
  deriving DecidableEq, Repr

/-! ## Exit Unit (chapter 6) -/

/-- What the Exit Unit takes to be under the eye (chapter 6). -/
inductive Arrival where
  | absent
  | matched (number : RecordNo)
  | phantom
  deriving DecidableEq, Repr

/-- The state table of section 6.1, with the raw pin EXIT_EYE and the two checks that may wait on a pending change (R91, R93). -/
structure ExitUnit where
  rawLevel : Level
  level : Level
  pendingChange : Option PendingChange
  arrival : Arrival
  blockedTarget : Option Pos
  blockedWaits : Bool
  missingWaits : Bool
  route : Destination
  deriving DecidableEq, Repr

/-! ## Stack Place Controller (chapter 6) -/

/-- The place states (section 6.3). -/
inductive PlaceState where
  | free
  | filling
  | full
  | discharging
  | blocked
  deriving DecidableEq, Repr

/-- A place record (section 6.3). -/
structure Place where
  state : PlaceState
  lane : Option LaneId
  customer : Word
  article : Nat
  target : Nat
  count : Nat
  serial : Word
  firstEntry : Option EntryId
  lastEntry : Option EntryId
  firstSerial : Word
  lastSerial : Word
  short : Bool
  inbound : Bool
  closePending : Bool
  deriving DecidableEq, Repr

/-! ## Discharge Unit (chapter 7) -/

/-- The outfeed states (chapter 7). -/
inductive Outfeed where
  | idle
  | moving
  | stalled
  deriving DecidableEq, Repr

/-- The state table of chapter 7, with the raw pin OUTFEED_EYE. The timer, when it runs, holds the time in ms it was started with
(log entry 6). -/
structure Discharge where
  queue : List PlaceId
  outfeed : Outfeed
  current : Option PlaceId
  timer : Option Nat
  rawLevel : Level
  level : Level
  changePending : Bool
  seenCovered : Bool
  push : Vector Bool 8
  run : Bool
  deriving DecidableEq, Repr

/-! ## Lot Sequencer (chapter 8) -/

/-- The statuses of a lot ring entry (section 8.1). -/
inductive EntryStatus where
  | pending
  | active
  | closing
  | drained
  | complete
  | aborted
  deriving DecidableEq, Repr

/-- An item of an open-entry list: the entry and its resolved target (chapter 8). -/
structure OpenItem where
  entry : EntryId
  target : Nat
  deriving DecidableEq, Repr

/-- A lot accumulator (section 8.5). -/
structure Lot where
  inProgress : Bool
  customer : Word
  firstEntry : EntryId
  lastEntry : EntryId
  entries : Word
  delivered : Word
  rejected : Word
  overflowed : Word
  lost : Word
  stacksClosed : Word
  unmarkedStart : Bool
  unterminated : Bool
  stopped : Bool
  deriving DecidableEq, Repr

/-! ## Lane Controller (chapter 9) -/

/-- The lane states (R145). -/
inductive LaneMode where
  | idle
  | running
  | dry
  | wait
  | suspending
  | suspended
  | faulted
  deriving DecidableEq, Repr

/-- The lane faults (section 9.6). -/
inductive LaneFault where
  | eyeBlocked
  | poolEmpty
  | gateFull
  | jam
  deriving DecidableEq, Repr

/-- All the state that belongs to one lane. -/
structure Lane where
  entry : EntrySensor
  tokens : List QueuedToken
  inFlight : List PieceRecord
  sched : FoldLane
  exit : ExitUnit
  held : List PlaceId
  starved : Bool
  ringStart : EntryId
  cursor : EntryId
  openList : List OpenItem
  lot : Lot
  waitPending : Bool
  mode : LaneMode
  faultCode : Option LaneFault
  returnToWait : Bool
  feedHold : Bool
  deriving DecidableEq, Repr

/-! ## Ring Port (chapter 10) -/

/-- A telegram of the forward queue; `ordersReset` marks the forwarded copy of a broadcast STATION RESET that was taken (R166). -/
structure Forwarded where
  telegram : Telegram
  ordersReset : Bool
  deriving DecidableEq, Repr

/-- The response buffer's telegram; `ordersReset` marks the response of a STATION RESET that was carried out (R190). -/
structure Response where
  telegram : Telegram
  ordersReset : Bool
  deriving DecidableEq, Repr

/-- The receive in hand: none, one that holds a slot of the forward queue, or one begun while RING_RDY_OUT was deasserted (R168). -/
inductive Receive where
  | none
  | withSlot
  | withoutSlot
  deriving DecidableEq, Repr

/-- Which telegram is being sent: the head of the forward queue, the response, or the head of the report queue (R171). -/
inductive SendSource where
  | forwarded
  | response
  | report
  deriving DecidableEq, Repr

/-- The state table of chapter 10, with the straps and RING_RDY_IN. -/
structure Ring where
  address : BitVec 5
  straps : BitVec 5
  forwardQueue : List Forwarded
  requestQueue : List Telegram
  response : Option Response
  reportQueue : List Telegram
  run : Nat
  receive : Receive
  sending : Option SendSource
  readyOut : Bool
  readyIn : Bool
  deriving DecidableEq, Repr

/-! ## Table Store and Request Processor (chapter 11) -/

/-- Table memory: the words that differ from their power-on value, by rising address 1024 × page + offset (log entry 16). -/
abbrev Mem := List (Nat × Word)

/-- A place in table memory: page 0 to 7 and offset 0 to 1023. -/
structure Pointer where
  page : Fin 8
  offset : Fin 1024
  deriving DecidableEq, Repr

/-- The nine warnings (R180). -/
inductive Warning where
  | stray
  | phantom
  | tokenLost
  | unplannedToken
  | overflow
  | badEntry
  | secondFault
  | badTelegram
  | reportDropped
  deriving DecidableEq, Repr

/-- The latched warning set: which of the nine it holds. -/
structure WarningSet where
  stray : Bool
  phantom : Bool
  tokenLost : Bool
  unplannedToken : Bool
  overflow : Bool
  badEntry : Bool
  secondFault : Bool
  badTelegram : Bool
  reportDropped : Bool
  deriving DecidableEq, Repr

/-- The state table of chapter 11 but for table memory. -/
structure Tables where
  pointer : Pointer
  modify : Bool
  saved : Pointer
  latch : Word
  warnings : WarningSet
  alert : Bool
  deriving DecidableEq, Repr

/-! ## The whole machine -/

/-- The FS4, and the queue of commands that wait for it. -/
structure State where
  track : Track
  lanes : Vector Lane 4
  free : List RecordNo
  places : Vector Place 8
  stackSerial : Word
  discharge : Discharge
  ring : Ring
  tables : Tables
  mem : Mem
  /-- Power-on reset lasts, or RESET_N is low. -/
  resetHeld : Bool
  /-- The model's own: numbers the stop notices for the free value `Config.laneChoice` (log entry 7). -/
  freeCount : Nat
  /-- The commands that wait, first in, first out. -/
  pending : List Instr
  deriving DecidableEq, Repr

/-! ## Values after reset -/

/-- R10, R11. -/
def Track.reset : Track where
  position := 0
  pulseSeen := false
  movingCount := 0
  stillCount := 0
  computed := .stopped
  mode := .auto
  presented := .stopped

/-- R26, R27, with the pins as given. -/
def EntrySensor.reset (rawLevel : Level) (beams : BitVec 16) : EntrySensor where
  rawLevel := rawLevel
  beams := beams
  level := .clear
  pendingChange := none
  widthMax := 0
  openPiece := none
  blockedTarget := none
  blockedWaits := false
  lastTrailing := none
  spacing := .normal
  shortCount := 0
  goodCount := 0
  feedSlow := false

/-- R85. -/
def FoldLane.reset : FoldLane where
  windows := []
  folds := Vector.replicate 6 false
  gate := false
  gateHold := false

/-- R109, with the pin as given. -/
def ExitUnit.reset (rawLevel : Level) : ExitUnit where
  rawLevel := rawLevel
  level := .clear
  pendingChange := none
  arrival := .absent
  blockedTarget := none
  blockedWaits := false
  missingWaits := false
  route := .overflow

/-- R144: a closed accumulator with every field 0 and every flag no. -/
def Lot.reset : Lot where
  inProgress := false
  customer := 0
  firstEntry := 0
  lastEntry := 0
  entries := 0
  delivered := 0
  rejected := 0
  overflowed := 0
  lost := 0
  stacksClosed := 0
  unmarkedStart := false
  unterminated := false
  stopped := false

/-- A lane after reset, with its input pins as given (R26, R46, R63, R85, R109, R110, R144, R162). -/
def Lane.reset (entryRaw : Level) (beams : BitVec 16) (exitRaw : Level) : Lane where
  entry := EntrySensor.reset entryRaw beams
  tokens := []
  inFlight := []
  sched := FoldLane.reset
  exit := ExitUnit.reset exitRaw
  held := []
  starved := false
  ringStart := 0
  cursor := 0
  openList := []
  lot := Lot.reset
  waitPending := false
  mode := .idle
  faultCode := none
  returnToWait := false
  feedHold := true

/-- A FREE place with every field as at reset (R110). -/
def Place.reset : Place where
  state := .free
  lane := none
  customer := 0
  article := 0
  target := 0
  count := 0
  serial := 0
  firstEntry := none
  lastEntry := none
  firstSerial := 0
  lastSerial := 0
  short := false
  inbound := false
  closePending := false

/-- R122, with the pin as given. -/
def Discharge.reset (rawLevel : Level) : Discharge where
  queue := []
  outfeed := .idle
  current := none
  timer := none
  rawLevel := rawLevel
  level := .clear
  changePending := false
  seenCovered := false
  push := Vector.replicate 8 false
  run := false

/-- R175 while the reset is held, with the address, the straps and RING_RDY_IN as given. -/
def Ring.reset (address straps : BitVec 5) (readyIn : Bool) : Ring where
  address := address
  straps := straps
  forwardQueue := []
  requestQueue := []
  response := none
  reportQueue := []
  run := 0
  receive := .none
  sending := none
  readyOut := false
  readyIn := readyIn

/-- The empty latched warning set. -/
def WarningSet.empty : WarningSet where
  stray := false
  phantom := false
  tokenLost := false
  unplannedToken := false
  overflow := false
  badEntry := false
  secondFault := false
  badTelegram := false
  reportDropped := false

/-- R191, R192. -/
def Tables.reset : Tables where
  pointer := ⟨0, 0⟩
  modify := false
  saved := ⟨0, 0⟩
  latch := 0
  warnings := WarningSet.empty
  alert := false

/-- The free list at power-on: all 64 records in number order (R63). -/
def freeAtPowerOn : List RecordNo :=
  [0, 1, 2, 3, 4, 5, 6, 7, 8, 9, 10, 11, 12, 13, 14, 15, 16, 17, 18, 19, 20, 21, 22, 23, 24, 25, 26, 27, 28, 29, 30, 31] ++
  [32, 33, 34, 35, 36, 37, 38, 39, 40, 41, 42, 43, 44, 45, 46, 47, 48, 49, 50, 51, 52, 53, 54, 55, 56, 57, 58, 59, 60, 61, 62, 63]

/-- The machine right after power-on reset has ended (R10, R26, R46, R63, R85, R109, R110, R122, R144, R162, R175, R191), with every
eye CLEAR, no beam covered and RING_RDY_IN low (log entry 2) and the straps at `Config.resetStraps` (log entry 1). -/
def State.reset : State where
  track := Track.reset
  lanes := Vector.replicate 4 (Lane.reset .clear 0 .clear)
  free := freeAtPowerOn
  places := Vector.replicate 8 Place.reset
  stackSerial := 0
  discharge := Discharge.reset .clear
  ring := { Ring.reset Config.resetStraps Config.resetStraps false with readyOut := true }
  tables := Tables.reset
  mem := []
  resetHeld := false
  freeCount := 0
  pending := []

end Sys2Proof.Machine
end

