-- ==== Sys2Proof/Machine/Codes.lean ====
section
/-! DEFINITION. The codes of chapter 12: telegram kinds, request and status codes (R194), lot ring status, lane state, reject reason,
fault and warning codes (R198), and the bytes of a word. -/
namespace Sys2Proof.Machine

/-! ## Bytes and words (R193: high byte first) -/

def byteOf (n : Nat) : Byte := BitVec.ofNat 8 n

def wordOf (n : Nat) : Word := BitVec.ofNat 16 n

def highByte (w : Word) : Byte := w.extractLsb' 8 8

def lowByte (w : Word) : Byte := w.extractLsb' 0 8

def wordBytes (w : Word) : List Byte := [highByte w, lowByte w]

/-- The word whose high byte arrives first (R193). -/
def joinBytes (high low : Byte) : Word := high ++ low

/-! ## Telegram kinds (section 12.1) -/

inductive Kind where
  | piece
  | request
  | response
  | stack
  | entry
  | lot
  | fault
  deriving DecidableEq, Repr

def Kind.code : Kind → Byte
  | .piece => 0x01#8
  | .request => 0x02#8
  | .response => 0x03#8
  | .stack => 0x04#8
  | .entry => 0x05#8
  | .lot => 0x06#8
  | .fault => 0x07#8

/-! ## Requests and response statuses (R194) -/

inductive Request where
  | identify
  | readStatus
  | setPointer
  | writeTable
  | readTable
  | beginModify
  | endModify
  | setMotionMode
  | clearCounters
  | stationReset
  | laneStart
  | laneSuspend
  | laneResume
  | laneRelease
  | laneStop
  | clearFault
  | closePlace
  | releaseOutfeed
  deriving DecidableEq, Repr

def Request.code : Request → Byte
  | .identify => 0x01#8
  | .readStatus => 0x02#8
  | .setPointer => 0x03#8
  | .writeTable => 0x04#8
  | .readTable => 0x05#8
  | .beginModify => 0x06#8
  | .endModify => 0x07#8
  | .setMotionMode => 0x08#8
  | .clearCounters => 0x09#8
  | .stationReset => 0x0A#8
  | .laneStart => 0x10#8
  | .laneSuspend => 0x11#8
  | .laneResume => 0x12#8
  | .laneRelease => 0x13#8
  | .laneStop => 0x14#8
  | .clearFault => 0x15#8
  | .closePlace => 0x18#8
  | .releaseOutfeed => 0x19#8

/-- The eighteen requests. -/
def allRequests : List Request :=
  [.identify, .readStatus, .setPointer, .writeTable, .readTable, .beginModify, .endModify, .setMotionMode, .clearCounters,
   .stationReset, .laneStart, .laneSuspend, .laneResume, .laneRelease, .laneStop, .clearFault, .closePlace, .releaseOutfeed]

/-- The request a code names, if it names one (R177). -/
def Request.ofCode (b : Byte) : Option Request := allRequests.find? fun r => decide (r.code = b)

inductive Status where
  | ok
  | unknownRequest
  | badLength
  | badParam
  | wrongState
  | refusedWrite
  | conflict
  | badConfig
  | modifyActive
  deriving DecidableEq, Repr

def Status.code : Status → Byte
  | .ok => 0x00#8
  | .unknownRequest => 0x01#8
  | .badLength => 0x02#8
  | .badParam => 0x03#8
  | .wrongState => 0x04#8
  | .refusedWrite => 0x05#8
  | .conflict => 0x06#8
  | .badConfig => 0x07#8
  | .modifyActive => 0x08#8

/-! ## Table 12.4 and Table 12.5 (R198) -/

def EntryStatus.code : EntryStatus → Nat
  | .pending => 1
  | .active => 2
  | .closing => 3
  | .drained => 4
  | .complete => 5
  | .aborted => 6

/-- The status a code of three bits names; 0 and 7 name none (R197). -/
def EntryStatus.ofCode : Nat → Option EntryStatus
  | 1 => some .pending
  | 2 => some .active
  | 3 => some .closing
  | 4 => some .drained
  | 5 => some .complete
  | 6 => some .aborted
  | _ => none

def LaneMode.code : LaneMode → Nat
  | .idle => 0
  | .running => 1
  | .dry => 2
  | .wait => 3
  | .suspending => 4
  | .suspended => 5
  | .faulted => 6

def RejectReason.code : RejectReason → Nat
  | .marked => 1
  | .article => 2
  | .noEntry => 3
  | .stray => 4
  | .double => 5
  | .short => 6
  | .long => 7
  | .width => 8
  | .late => 9
  | .crowd => 10
  | .spoiled => 11

def LaneFault.code : LaneFault → Nat
  | .eyeBlocked => 1
  | .poolEmpty => 2
  | .gateFull => 3
  | .jam => 4

/-- OUTFEED_TIMEOUT, a fault of class 2. -/
def outfeedTimeoutCode : Nat := 5

def Warning.code : Warning → Nat
  | .stray => 1
  | .phantom => 2
  | .tokenLost => 3
  | .unplannedToken => 4
  | .overflow => 5
  | .badEntry => 6
  | .secondFault => 7
  | .badTelegram => 8
  | .reportDropped => 9

def PlaceState.code : PlaceState → Nat
  | .free => 0
  | .filling => 1
  | .full => 2
  | .discharging => 3
  | .blocked => 4

def Outfeed.code : Outfeed → Nat
  | .idle => 0
  | .moving => 1
  | .stalled => 2

def MotionMode.code : MotionMode → Nat
  | .auto => 0
  | .forceRunning => 1
  | .forceStopped => 2

/-- The ROUTE lines (R198): the place number, or 15 for OVERFLOW. -/
def Destination.routeCode : Destination → Nat
  | .place p => p.val
  | .overflow => 15

end Sys2Proof.Machine
end

