-- ==== Sys2Proof/Machine/Memory.lean ====
section
/-! DEFINITION. Table memory: 8 pages of 1024 words of 16 bits (chapter 11; R191, R196), as a list of the words that differ from
their power-on value, by rising address. Addresses are 1024 × page + offset. -/
namespace Sys2Proof.Machine

/-- The number of words of table memory. -/
def memWords : Nat := 8192

def pageBase (page : Nat) : Nat := 1024 * page

/-- Page 0 at power-on (R191): lanes enabled none and stray policy REJECT are 0. -/
def powerOnStation : Nat → Word
  | 1 => 4#16
  | 2 => 4000#16
  | 3 => 20#16
  | 4 => 30#16
  | 5 => 30#16
  | 6 => 3#16
  | 7 => 5#16
  | 8 => 50#16
  | _ => 0#16

/-- A word of a lane row at power-on (R191); word 13 to 16 are the place list, none in all four slots. -/
def powerOnRow : Nat → Word
  | 8 => 150#16
  | 9 => 30000#16
  | 10 => 100#16
  | 11 => 4#16
  | 12 => 3#16
  | 13 => 0xFFFF#16
  | 14 => 0xFFFF#16
  | 15 => 0xFFFF#16
  | 16 => 0xFFFF#16
  | _ => 0#16

/-- What a word that is not listed reads as: its power-on value (R191). The four lane rows stand at page 1 offsets 0 to 127. -/
def powerOnWord (a : Nat) : Word :=
  if a < 1024 then powerOnStation a
  else if a < 1152 then powerOnRow ((a - 1024) % 32)
  else 0#16

/-- The word at an address. -/
def Mem.read : Mem → Nat → Word
  | [], a => powerOnWord a
  | (b, w) :: rest, a => if a = b then w else Mem.read rest a

/-- Store a word; storing the power-on value removes the entry. -/
def Mem.write : Mem → Nat → Word → Mem
  | [], a, w => if w = powerOnWord a then [] else [(a, w)]
  | (b, v) :: rest, a, w =>
    if a < b then (if w = powerOnWord a then (b, v) :: rest else (a, w) :: (b, v) :: rest)
    else if a = b then (if w = powerOnWord a then rest else (a, w) :: rest)
    else (b, v) :: Mem.write rest a w

/-- Every word of a page back to its power-on value. -/
def Mem.clearPage (m : Mem) (page : Nat) : Mem :=
  m.filter fun c => !decide (pageBase page ≤ c.1 ∧ c.1 < pageBase (page + 1))

/-- The canonical form: addresses of table memory, strictly rising, and no word listed at its power-on value. -/
abbrev Mem.wf (m : Mem) : Prop :=
  m.Pairwise (fun x y => x.1 < y.1) ∧ ∀ c ∈ m, c.1 < memWords ∧ c.2 ≠ powerOnWord c.1

end Sys2Proof.Machine
end

