-- ==== Sys2Proof/Machine/Ops.lean ====
section
/-! DEFINITION. The named operations that every block uses: comparing track positions (R2), reaching a lane or a place of the state,
reading settings and tables (R191, R196, R197), counting on page 7 and on page 4, the CRC (R163), producing reports (R170) and
raising warnings (R180). The block's outcome type stands here too: a command always answers a next state. -/
namespace Sys2Proof.Machine

/-- The outcome of a command. -/
abbrev Result := Host.Outcome State Fault Refusal

/-! ## Track positions (R2) -/

/-- `now` has reached `target`: the difference, read as a signed number, is zero or positive. A target exactly 2147483648 mm ahead gives
the most negative number and is not reached: the model's choice, where the sentences of R2 differ (log entry 26). -/
def reached (now target : Pos) : Bool := !(now - target).msb

/-- `a` is before `b`: the difference `a - b`, read as a signed number, is negative. -/
def before (a b : Pos) : Bool := (a - b).msb

/-- The earlier of two positions. -/
def earlier (a b : Pos) : Pos := if before a b then a else b

/-- The later of two positions. -/
def later (a b : Pos) : Pos := if before a b then b else a

/-- A distance in mm as a difference of positions. -/
def posOf (n : Nat) : Pos := BitVec.ofNat 32 n

/-! ## Lanes and places -/

def allLanes : List LaneId := [0, 1, 2, 3]

def allPlaces : List PlaceId := [0, 1, 2, 3, 4, 5, 6, 7]

def State.lane (s : State) (l : LaneId) : Lane := s.lanes[l]

def State.modLane (s : State) (l : LaneId) (f : Lane → Lane) : State :=
  { s with lanes := s.lanes.set l (f (s.lane l)) }

/-- The same change on every lane. -/
def State.mapLanes (s : State) (f : Lane → Lane) : State :=
  (((s.modLane 0 f).modLane 1 f).modLane 2 f).modLane 3 f

def State.place (s : State) (p : PlaceId) : Place := s.places[p]

def State.modPlace (s : State) (p : PlaceId) (f : Place → Place) : State :=
  { s with places := s.places.set p (f (s.place p)) }

def State.modEntry (s : State) (l : LaneId) (f : EntrySensor → EntrySensor) : State :=
  s.modLane l fun L => { L with entry := f L.entry }

def State.modExit (s : State) (l : LaneId) (f : ExitUnit → ExitUnit) : State :=
  s.modLane l fun L => { L with exit := f L.exit }

def State.modSched (s : State) (l : LaneId) (f : FoldLane → FoldLane) : State :=
  s.modLane l fun L => { L with sched := f L.sched }

def State.setMode (s : State) (l : LaneId) (m : LaneMode) : State :=
  s.modLane l fun L => { L with mode := m }

def State.setWaitPending (s : State) (l : LaneId) (b : Bool) : State :=
  s.modLane l fun L => { L with waitPending := b }

/-- The states in which edges are passed on (R19, R88): every state but IDLE and FAULTED. -/
def LaneMode.passes : LaneMode → Bool
  | .idle => false
  | .running => true
  | .dry => true
  | .wait => true
  | .suspending => true
  | .suspended => true
  | .faulted => false

/-! ## Table memory -/

/-- The stored word of a page at an offset. -/
def State.word (s : State) (page offset : Nat) : Word := s.mem.read (pageBase page + offset)

def State.setWord (s : State) (page offset : Nat) (w : Word) : State :=
  { s with mem := s.mem.write (pageBase page + offset) w }

/-- Add to a 16-bit count that wraps. -/
def State.addWord (s : State) (page offset n : Nat) : State :=
  s.setWord page offset (s.word page offset + wordOf n)

/-- A number brought into a range. -/
def clamp (low high n : Nat) : Nat := if n < low then low else if high < n then high else n

/-- One more of a count held at 15 (R4, R21). -/
def countUp (n : Nat) : Nat := if n < 15 then n + 1 else 15

/-! ### Station configuration, page 0, as each block reads it for its own use -/

def State.lanesEnabled (s : State) : Word := s.word 0 0

/-- Whether a lane is in lanes enabled: bit n for lane n (R196). -/
def State.laneEnabled (s : State) (l : LaneId) : Bool := s.lanesEnabled.getLsbD l.val

/-- R12, R87: 0 reads as 1, above 31 as 31. -/
def State.eyeFilter (s : State) : Nat := clamp 1 31 (s.word 0 1).toNat

/-- R15: below 100 reads as 100, above 9000 as 9000. -/
def State.maxPieceLength (s : State) : Nat := clamp 100 9000 (s.word 0 2).toNat

/-- R68: above 255 reads as 255. -/
def State.scheduleMargin (s : State) : Nat := clamp 0 255 (s.word 0 3).toNat

/-- R71: above 255 reads as 255. -/
def State.gateLead (s : State) : Nat := clamp 0 255 (s.word 0 4).toNat

/-- R71: above 255 reads as 255. -/
def State.gateTrail (s : State) : Nat := clamp 0 255 (s.word 0 5).toNat

/-- R5: 0 reads as 1, above 15 as 15. -/
def State.motionLock (s : State) : Nat := clamp 1 15 (s.word 0 6).toNat

/-- R5: 0 reads as 1, above 15 as 15. -/
def State.motionUnlock (s : State) : Nat := clamp 1 15 (s.word 0 7).toNat

/-- R118: 0 reads as 1, above 255 as 255; in steps of 100 ms. -/
def State.outfeedTimeoutMs (s : State) : Nat := 100 * clamp 1 255 (s.word 0 8).toNat

/-- R40: only the value that names IDENTIFY_STRAYS selects identification. -/
def State.identifyStrays (s : State) : Bool := decide (s.word 0 9 = 1#16)

/-! ### Lane rows, page 1 -/

/-- Word k of a lane's row. -/
def State.row (s : State) (l : LaneId) (k : Nat) : Word := s.word 1 (32 * l.val + k)

/-- The distance of a fold station of the lane; 0 means the station is absent (R66). -/
def State.stationDistance (s : State) (l : LaneId) (f : StationId) : Nat := (s.row l f.val).toNat

def State.gateDistance (s : State) (l : LaneId) : Nat := (s.row l 6).toNat

def State.exitDistance (s : State) (l : LaneId) : Nat := (s.row l 7).toNat

/-- R89: below 10 reads as 10, above 2000 as 2000. -/
def State.exitWindow (s : State) (l : LaneId) : Nat := clamp 10 2000 (s.row l 8).toNat

/-- R31: below 1000 reads as 1000, above 60000 as 60000. -/
def State.tokenTravelLimit (s : State) (l : LaneId) : Nat := clamp 1000 60000 (s.row l 9).toNat

/-- R20: used as stored. -/
def State.minimumGap (s : State) (l : LaneId) : Nat := (s.row l 10).toNat

/-- R22: 0 reads as 1, above 15 as 15. -/
def State.crowdLock (s : State) (l : LaneId) : Nat := clamp 1 15 (s.row l 11).toNat

/-- R22: 0 reads as 1, above 15 as 15. -/
def State.crowdUnlock (s : State) (l : LaneId) : Nat := clamp 1 15 (s.row l 12).toNat

/-- The four words of the place list. -/
def State.placeSlots (s : State) (l : LaneId) : List Word := [13, 14, 15, 16].map (s.row l)

/-- The place a slot of a place list names, if it names one (R197). -/
def placeOfSlot (w : Word) : Option PlaceId :=
  if h : w.toNat < 8 then some ⟨w.toNat, h⟩ else none

/-- The places a row's place list names, in order of preference; slots reading none are passed over (R97). -/
def State.placeList (s : State) (l : LaneId) : List PlaceId := (s.placeSlots l).filterMap placeOfSlot

/-! ### Articles, page 2 -/

def State.articleWord (s : State) (article k : Nat) : Nat := (s.word 2 (8 * article + k)).toNat

/-- The test of R52. -/
def State.articleValid (s : State) (a : Nat) : Bool :=
  (s.word 2 (8 * a)).getLsbD 0 &&
  decide (1 ≤ s.articleWord a 2 ∧ s.articleWord a 2 ≤ s.articleWord a 1 ∧ s.articleWord a 1 ≤ s.articleWord a 3 ∧
    s.articleWord a 3 ≤ 9000) &&
  decide (s.articleWord a 4 ≤ s.articleWord a 5 ∧ s.articleWord a 5 ≤ 16) &&
  decide (s.articleWord a 6 ≤ 31)

/-- The IDENT flag (R41). -/
def State.articleIdent (s : State) (a : Nat) : Bool := (s.word 2 (8 * a)).getLsbD 1

/-- The snapshot an article entry gives (R52). -/
def State.snapshotOf (s : State) (a : Nat) : Snapshot where
  minLength := s.articleWord a 2
  maxLength := s.articleWord a 3
  minWidth := s.articleWord a 4
  maxWidth := s.articleWord a 5
  program := s.articleWord a 6

/-! ### Lot ring entries, page 4 -/

/-- Word k of an entry. -/
def State.entryWord (s : State) (e : EntryId) (k : Nat) : Word := s.word 4 (12 * e.val + k)

def State.setEntryWord (s : State) (e : EntryId) (k : Nat) (w : Word) : State := s.setWord 4 (12 * e.val + k) w

/-- Add 1 to a runtime count of an entry; the counts wrap (R131). -/
def State.bumpEntry (s : State) (e : EntryId) (k : Nat) : State := s.addWord 4 (12 * e.val + k) 1

/-- The status field of a word 0: bits 0 to 2. -/
def statusField (w : Word) : Option EntryStatus := EntryStatus.ofCode (w.extractLsb' 0 3).toNat

def State.entryStatus (s : State) (e : EntryId) : Option EntryStatus := statusField (s.entryWord e 0)

/-- The statuses of a claimed entry. -/
def isClaimed : Option EntryStatus → Bool
  | some .active => true
  | some .closing => true
  | some .drained => true
  | some .pending => false
  | some .complete => false
  | some .aborted => false
  | none => false

/-- A word 0 with another status; its other bits stay. -/
def withStatus (w : Word) (st : EntryStatus) : Word := (w &&& 0xFFF8#16) ||| wordOf st.code

def State.setEntryStatus (s : State) (e : EntryId) (st : EntryStatus) : State :=
  s.setEntryWord e 0 (withStatus (s.entryWord e 0) st)

/-- Write-back: the status set and VALID, bit 8, cleared (R133, R139, R140). -/
def State.writeBackEntry (s : State) (e : EntryId) (st : EntryStatus) : State :=
  s.setEntryWord e 0 (withStatus (s.entryWord e 0) st &&& 0xFEFF#16)

def State.entryValid (s : State) (e : EntryId) : Bool := (s.entryWord e 0).getLsbD 8

def State.entryWrap (s : State) (e : EntryId) : Bool := (s.entryWord e 0).getLsbD 9

def State.entryLotStart (s : State) (e : EntryId) : Bool := (s.entryWord e 0).getLsbD 10

def State.entryLotEnd (s : State) (e : EntryId) : Bool := (s.entryWord e 0).getLsbD 11

def State.entryHoldAfter (s : State) (e : EntryId) : Bool := (s.entryWord e 0).getLsbD 12

def State.entryNotify (s : State) (e : EntryId) : Bool := (s.entryWord e 0).getLsbD 13

def State.entryArticle (s : State) (e : EntryId) : Nat := (s.entryWord e 1).toNat

def State.entryCustomer (s : State) (e : EntryId) : Word := s.entryWord e 2

def State.entryQuota (s : State) (e : EntryId) : Nat := (s.entryWord e 3).toNat

def State.entryAssigned (s : State) (e : EntryId) : Nat := (s.entryWord e 6).toNat

/-- The word of an entry, and of a lane's counters less 7, that counts an outcome (R196). -/
def Retirement.entryIndex : Retirement → Nat
  | .delivered => 7
  | .rejected => 8
  | .overflowed => 9
  | .lost => 10

/-- The retirements of an entry: its delivered, rejected, overflowed and lost counts together (R130). -/
def State.entryRetired (s : State) (e : EntryId) : Nat :=
  (s.entryWord e 7).toNat + (s.entryWord e 8).toNat + (s.entryWord e 9).toNat + (s.entryWord e 10).toNat

/-! ### Counters, page 7 -/

/-- Word k of a lane's counters (R196). -/
def laneCounterOffset (l : LaneId) (k : Nat) : Nat := 32 * l.val + k

def State.addLaneCounter (s : State) (l : LaneId) (k n : Nat) : State := s.addWord 7 (laneCounterOffset l k) n

/-- The lane word that counts an outcome: 0 to 3. -/
def Retirement.laneIndex : Retirement → Nat
  | .delivered => 0
  | .rejected => 1
  | .overflowed => 2
  | .lost => 3

/-- The lane word that counts a reject reason: 4 to 14. -/
def RejectReason.laneIndex (r : RejectReason) : Nat := 3 + r.code

def strayIndex : Nat := 15

def phantomIndex : Nat := 16

def stacksDischargedOffset : Nat := 128

def bouncedOffset : Nat := 129

def crcErrorOffset : Nat := 130

def State.addStationCounter (s : State) (offset : Nat) : State := s.addWord 7 offset 1

/-! ## Telegrams (R163, R193) -/

/-- One bit into the CRC register, generator x^16 + x^12 + x^5 + 1. -/
def crcBit (r : Word) (b : Bool) : Word :=
  if r.msb != b then (r <<< 1) ^^^ 0x1021#16 else r <<< 1

/-- One byte, most significant bit first. -/
def crcByte (r : Word) (b : Byte) : Word :=
  [7, 6, 5, 4, 3, 2, 1, 0].foldl (fun r i => crcBit r (b.getLsbD i)) r

/-- The CRC of header and body: the register starts at all ones, the remainder is sent as it stands (R163). -/
def crcOf (bytes : List Byte) : Word := bytes.foldl crcByte 0xFFFF#16

/-- The bytes the CRC is computed over. -/
def checkedBytes (t : Telegram) : List Byte :=
  [t.kind, t.dest, t.src, t.flags, byteOf t.body.length] ++ t.body

/-- The telegram with its CRC computed. -/
def withCrc (t : Telegram) : Telegram := { t with crc := crcOf (checkedBytes t) }

/-- BOUNCED, bit 0 of the flags. -/
def isBounced (t : Telegram) : Bool := t.flags.getLsbD 0

/-- A station address as the byte that names it. -/
def addressByte (a : BitVec 5) : Byte := a.setWidth 8

/-- A telegram the FS4 produces itself: flags 00h, this station's address as source (R193). -/
def State.ownTelegram (s : State) (kind : Kind) (dest : Byte) (body : List Byte) : Telegram :=
  withCrc
    { kind := kind.code, dest := dest, src := addressByte s.ring.address, flags := 0x00#8, body := body, crc := 0#16 }

/-! ## Reports (R170, R193) -/

/-- What an ENTRY report carries (R134). -/
structure EntryResult where
  lane : LaneId
  entry : EntryId
  status : EntryStatus
  customer : Word
  article : Nat
  quota : Word
  target : Nat
  assigned : Word
  delivered : Word
  rejected : Word
  overflowed : Word
  lost : Word
  stacksClosed : Word
  deriving DecidableEq, Repr

/-- The reports (R170). -/
inductive Report where
  | stack (p : PlaceId) (place : Place)
  | entry (r : EntryResult)
  | lot (lane : LaneId) (lot : Lot)
  | laneFault (lane : LaneId) (fault : LaneFault) (records tokens : Nat)
  | outfeedTimeout (p : PlaceId)
  | warning (w : Warning) (lane : Option LaneId)
  deriving DecidableEq, Repr

/-- A lane, an entry or a place in one byte, FFh for none (R193; for a STACK report see log entry 20). -/
def optionByte {n : Nat} : Option (Fin n) → Byte
  | some i => byteOf i.val
  | none => 0xFF#8

def flagBit (b : Bool) (n : Nat) : Nat := if b then 2 ^ n else 0

def Report.kind : Report → Kind
  | .stack _ _ => .stack
  | .entry _ => .entry
  | .lot _ _ => .lot
  | .laneFault _ _ _ _ => .fault
  | .outfeedTimeout _ => .fault
  | .warning _ _ => .fault

/-- The body layouts of R193. -/
def Report.body : Report → List Byte
  | .stack p pl =>
    [byteOf p.val, optionByte pl.lane] ++ wordBytes pl.customer ++
    [byteOf pl.article, byteOf pl.target, byteOf pl.count, byteOf (flagBit pl.short 0)] ++
    wordBytes pl.serial ++ wordBytes pl.firstSerial ++ wordBytes pl.lastSerial ++
    [optionByte pl.firstEntry, optionByte pl.lastEntry]
  | .entry r =>
    [byteOf r.lane.val, byteOf r.entry.val, byteOf r.status.code] ++ wordBytes r.customer ++ [byteOf r.article] ++
    wordBytes r.quota ++ [byteOf r.target] ++ wordBytes r.assigned ++ wordBytes r.delivered ++ wordBytes r.rejected ++
    wordBytes r.overflowed ++ wordBytes r.lost ++ wordBytes r.stacksClosed
  | .lot l a =>
    [byteOf l.val] ++ wordBytes a.customer ++ [byteOf a.firstEntry.val, byteOf a.lastEntry.val] ++ wordBytes a.entries ++
    wordBytes a.delivered ++ wordBytes a.rejected ++ wordBytes a.overflowed ++ wordBytes a.lost ++ wordBytes a.stacksClosed ++
    [byteOf (flagBit a.unmarkedStart 0 + flagBit a.unterminated 1 + flagBit a.stopped 2)]
  | .laneFault l f records tokens =>
    [0x01#8, byteOf f.code, byteOf l.val, 0xFF#8] ++ wordBytes (wordOf records) ++ wordBytes (wordOf tokens)
  | .outfeedTimeout p =>
    [0x02#8, byteOf outfeedTimeoutCode, 0xFF#8, byteOf p.val] ++ wordBytes 0#16 ++ wordBytes 0#16
  | .warning w l =>
    [0x03#8, byteOf w.code, optionByte l, 0xFF#8] ++ wordBytes 0#16 ++ wordBytes 0#16

/-- The report as a telegram to the line computer, destination 0 (R170). -/
def State.reportTelegram (s : State) (r : Report) : Telegram := s.ownTelegram r.kind 0x00#8 r.body

/-- A free slot of the report queue. -/
def State.reportRoom (s : State) : Bool := decide (s.ring.reportQueue.length < Config.reportCap)

/-- Append a report at the tail of the report queue. -/
def State.pushReport (s : State) (r : Report) : State :=
  { s with ring := { s.ring with reportQueue := s.ring.reportQueue ++ [s.reportTelegram r] } }

/-! ## Warnings (R180) -/

def WarningSet.has (ws : WarningSet) : Warning → Bool
  | .stray => ws.stray
  | .phantom => ws.phantom
  | .tokenLost => ws.tokenLost
  | .unplannedToken => ws.unplannedToken
  | .overflow => ws.overflow
  | .badEntry => ws.badEntry
  | .secondFault => ws.secondFault
  | .badTelegram => ws.badTelegram
  | .reportDropped => ws.reportDropped

def WarningSet.latch (ws : WarningSet) : Warning → WarningSet
  | .stray => { ws with stray := true }
  | .phantom => { ws with phantom := true }
  | .tokenLost => { ws with tokenLost := true }
  | .unplannedToken => { ws with unplannedToken := true }
  | .overflow => { ws with overflow := true }
  | .badEntry => { ws with badEntry := true }
  | .secondFault => { ws with secondFault := true }
  | .badTelegram => { ws with badTelegram := true }
  | .reportDropped => { ws with reportDropped := true }

def WarningSet.isEmpty (ws : WarningSet) : Bool :=
  !(ws.stray || ws.phantom || ws.tokenLost || ws.unplannedToken || ws.overflow || ws.badEntry || ws.secondFault ||
    ws.badTelegram || ws.reportDropped)

def State.latchWarning (s : State) (w : Warning) : State :=
  { s with tables := { s.tables with warnings := s.tables.warnings.latch w } }

/-- REPORT_DROPPED raised: it enters the set, with its report if there is a slot; a report of its own that finds no slot raises it
again, which finds it in the set (R180). -/
def State.raiseReportDropped (s : State) : State :=
  if s.tables.warnings.has .reportDropped then s
  else if s.reportRoom then (s.latchWarning .reportDropped).pushReport (.warning .reportDropped none)
  else s.latchWarning .reportDropped

/-- A report produced: appended, or dropped with REPORT_DROPPED (R170). -/
def State.produce (s : State) (r : Report) : State :=
  if s.reportRoom then s.pushReport r else s.raiseReportDropped

/-- A warning raised: the first time it enters the set and produces one FAULT report (R180). -/
def State.raise (s : State) (w : Warning) (lane : Option LaneId) : State :=
  if s.tables.warnings.has w then s else (s.latchWarning w).produce (.warning w lane)

end Sys2Proof.Machine
end

