-- ==== Sys2Proof/Machine/Flags.lean ====
section
/-! DEFINITION. The output lines that follow from the rest of the state (FEED_HOLD, FEED_SLOW, PUSH, OUTFEED_RUN, RING_RDY_OUT and ALERT),
brought to their rules' values at the end of each event, and the status words of READ STATUS (R183, R195). FOLD, GATE and
ROUTE are driven where their rules drive them. -/
namespace Sys2Proof.Machine

/-! ## Lines -/

/-- R147: released only while the lane is RUNNING and not starved. -/
def Lane.feedHoldRule (L : Lane) : Bool := !(decide (L.mode = .running) && !L.starved)

/-- R23: asserted while the spacing state is CROWDED. -/
def EntrySensor.feedSlowRule (e : EntrySensor) : Bool := decide (e.spacing = .crowded)

/-- The forward queue, counting a receive in hand that holds a slot (R168). -/
def Ring.forwardCount (r : Ring) : Nat :=
  r.forwardQueue.length + (if r.receive = .withSlot then 1 else 0)

/-- R168, R175: deasserted while a reset is held, and while the forward queue, counting a receive in hand, holds 8. -/
def State.readyOutRule (s : State) : Bool :=
  !s.resetHeld && decide (s.ring.forwardCount < Config.forwardCap)

/-- R115: the PUSH line of the current place while the outfeed is MOVING. -/
def Discharge.pushRule (d : Discharge) : Vector Bool 8 :=
  match d.outfeed, d.current with
  | .moving, some p => (Vector.replicate 8 false).set p true
  | _, _ => Vector.replicate 8 false

/-- R115: asserted while the outfeed is MOVING. -/
def Discharge.runRule (d : Discharge) : Bool := decide (d.outfeed = .moving)

/-- Some lane is FAULTED. -/
def State.anyFaulted (s : State) : Bool := allLanes.any fun l => decide ((s.lane l).mode = .faulted)

/-- R181: the latched warning set is non-empty, a lane is FAULTED, or the outfeed is STALLED. -/
def State.alertRule (s : State) : Bool :=
  !s.tables.warnings.isEmpty || s.anyFaulted || decide (s.discharge.outfeed = .stalled)

/-- The lines of a lane at their rules' values. -/
def Lane.settle (L : Lane) : Lane :=
  { L with feedHold := L.feedHoldRule, entry := { L.entry with feedSlow := L.entry.feedSlowRule } }

/-- The lines of the station at their rules' values. -/
def State.settleStation (s : State) : State :=
  { s with
    discharge := { s.discharge with push := s.discharge.pushRule, run := s.discharge.runRule }
    ring := { s.ring with readyOut := s.readyOutRule }
    tables := { s.tables with alert := s.alertRule } }

/-- The end of an event: every line above changes in the event that changes what it follows (R23, R115, R147, R168, R181). -/
def State.settle (s : State) : State := (s.mapLanes Lane.settle).settleStation

/-- The lines stand at their rules' values. -/
def State.linesFollow (s : State) : Prop :=
  (∀ l, (s.lane l).feedHold = (s.lane l).feedHoldRule ∧ (s.lane l).entry.feedSlow = (s.lane l).entry.feedSlowRule) ∧
  s.discharge.push = s.discharge.pushRule ∧ s.discharge.run = s.discharge.runRule ∧
  s.ring.readyOut = s.readyOutRule ∧ s.tables.alert = s.alertRule

/-- The outcome of a command: its event `s'` when the event's condition `due` holds, and otherwise the state as it was, because the
event does not come about (log entry 4). -/
def event (due : Bool) (s' s : State) : Result := .next (if due then s'.settle else s)

/-! ## Status words (R183, R195) -/

def faultCodeValue : Option LaneFault → Nat
  | none => 0
  | some f => f.code

/-- Bits 0 to 2 lane state, bits 4 to 6 fault code, bit 8 starved, bit 9 crowded, bit 10 wait-pending. -/
def Lane.statusWord (L : Lane) : Word :=
  wordOf (L.mode.code + 16 * faultCodeValue L.faultCode + flagBit L.starved 8 + flagBit (decide (L.entry.spacing = .crowded)) 9 +
    flagBit L.waitPending 10)

/-- Bit 0 presented state, bit 1 computed state, bits 4 and 5 motion mode. -/
def Track.statusWord (t : Track) : Word :=
  wordOf (flagBit (decide (t.presented = .running)) 0 + flagBit (decide (t.computed = .running)) 1 + 16 * t.mode.code)

/-- Bits 0 and 1 outfeed state, bit 8 OUTFEED_TIMEOUT stands, which is so exactly while the outfeed is STALLED. -/
def Discharge.statusWord (d : Discharge) : Word :=
  wordOf (d.outfeed.code + flagBit (decide (d.outfeed = .stalled)) 8)

/-- Bit n − 1 for the warning of code n. -/
def WarningSet.statusWord (ws : WarningSet) : Word :=
  wordOf (flagBit ws.stray 0 + flagBit ws.phantom 1 + flagBit ws.tokenLost 2 + flagBit ws.unplannedToken 3 +
    flagBit ws.overflow 4 + flagBit ws.badEntry 5 + flagBit ws.secondFault 6 + flagBit ws.badTelegram 7 +
    flagBit ws.reportDropped 8)

/-- The nine data words of READ STATUS. -/
def State.statusWords (s : State) : List Word :=
  [(s.lane 0).statusWord, (s.lane 1).statusWord, (s.lane 2).statusWord, (s.lane 3).statusWord, s.track.statusWord,
   s.discharge.statusWord, wordOf s.free.length, wordOf s.ring.reportQueue.length, s.tables.warnings.statusWord]

end Sys2Proof.Machine
end

