-- ==== Sys2Proof/Machine/Operands.lean ====
section
/-! DEFINITION. The operands of a request: the parameter bytes of its REQUEST body (R193, R194), the length check and the response
(R177, R195), and the one way in which the Request Processor takes a request from the head of its queue (R176). -/
namespace Sys2Proof.Machine

/-! ## Parameters -/

/-- Parameter byte `i` of a body whose length has been checked. -/
def param (ps : List Byte) (i : Nat) : Byte := ps.getD i 0x00#8

/-- A parameter of two bytes, high byte first, at byte `i`. -/
def paramWord (ps : List Byte) (i : Nat) : Word := joinBytes (param ps i) (param ps (i + 1))

/-- A lane parameter of 0 to 3. -/
def laneParam (b : Byte) : Option LaneId := if h : b.toNat < 4 then some ⟨b.toNat, h⟩ else none

/-- A ring start parameter of 0 to 63. -/
def entryParam (b : Byte) : Option EntryId := if h : b.toNat < 64 then some ⟨b.toNat, h⟩ else none

/-- A place parameter of 0 to 7. -/
def placeParam (b : Byte) : Option PlaceId := if h : b.toNat < 8 then some ⟨b.toNat, h⟩ else none

/-! ## The body of a request -/

/-- The request code; a missing byte counts as 00h (R195). -/
def codeByte (body : List Byte) : Byte := body.getD 0 0x00#8

/-- The count byte of a WRITE TABLE body. -/
def countByte (body : List Byte) : Nat := (body.getD 3 0x00#8).toNat

/-- The body length of a request (R194); that of WRITE TABLE depends on the count its body carries. -/
def Request.bodyLength (body : List Byte) : Request → Nat
  | .identify => 3
  | .readStatus => 3
  | .setPointer => 6
  | .writeTable => 4 + 2 * countByte body
  | .readTable => 4
  | .beginModify => 3
  | .endModify => 3
  | .setMotionMode => 4
  | .clearCounters => 4
  | .stationReset => 3
  | .laneStart => 5
  | .laneSuspend => 4
  | .laneResume => 4
  | .laneRelease => 4
  | .laneStop => 4
  | .clearFault => 4
  | .closePlace => 4
  | .releaseOutfeed => 3

/-- The length check of R177; a WRITE TABLE body without a count byte is shorter than 4, so it fails. -/
def Request.lengthFits (r : Request) (body : List Byte) : Bool := decide (body.length = r.bodyLength body)

/-! ## Answers and responses -/

/-- What a request answers: its status and data words, and whether it orders a warm reset (R190). -/
structure Answer where
  status : Status
  words : List Word
  ordersReset : Bool
  deriving DecidableEq, Repr

/-- A status with data words. -/
def answer (st : Status) (words : List Word) : Answer := { status := st, words := words, ordersReset := false }

/-- What carrying out a request does: it gets the parameter bytes and answers the new state and the answer. -/
abbrev Act := List Byte → State → State × Answer

/-- The RESPONSE body (R193, R195): code and tag as received, a missing byte as 00h. -/
def responseBody (body : List Byte) (a : Answer) : List Byte :=
  [codeByte body, body.getD 1 0x00#8, body.getD 2 0x00#8, a.status.code, byteOf a.words.length] ++ a.words.flatMap wordBytes

/-- The response is placed in the response buffer, addressed to the source of the request (R169, R176). -/
def State.respond (s : State) (t : Telegram) (a : Answer) : State :=
  { s with ring := { s.ring with
      response := some { telegram := s.ownTelegram .response t.src (responseBody t.body a), ordersReset := a.ordersReset } } }

/-! ## Taking a request (R176) -/

/-- The request at the head of the request queue, when the response buffer is empty. -/
def State.requestReady (s : State) : Option Telegram :=
  if s.ring.response.isNone then s.ring.requestQueue.head? else none

/-- The head leaves the queue, is carried out, and is answered, whole. -/
def State.takeRequest (s : State) (t : Telegram) (act : State → State × Answer) : State :=
  let done := act { s with ring := { s.ring with requestQueue := s.ring.requestQueue.tail } }
  done.1.respond t done.2

/-- The act of a request after the length check (R177). -/
def Request.checked (r : Request) (act : Act) (body : List Byte) (s : State) : State × Answer :=
  if r.lengthFits body then act (body.drop 3) s else (s, answer .badLength [])

/-- The request that waits to be taken is `r`. -/
def State.requestDue (s : State) (r : Request) : Bool :=
  match s.requestReady with
  | some t => decide (Request.ofCode (codeByte t.body) = some r)
  | none => false

/-- The request that waits is taken and carried out. -/
def State.runRequest (s : State) (r : Request) (act : Act) : State :=
  match s.requestReady with
  | some t => s.takeRequest t (r.checked act t.body)
  | none => s

/-- A request row: it takes the head of the request queue when that is its request (log entry 10). -/
def request (r : Request) (act : Act) (s : State) : Result := event (s.requestDue r) (s.runRequest r act) s

/-! ## UNKNOWN_REQUEST (R177, R195) -/

/-- The answer to a code that names no request: a body of fewer than 3 bytes is answered BAD_LENGTH (log entry 11). -/
def unknownAnswer (body : List Byte) : Answer := answer (if body.length < 3 then .badLength else .unknownRequest) []

/-- The request that waits to be taken has a code that names none of the eighteen. -/
def State.unknownDue (s : State) : Bool :=
  match s.requestReady with
  | some t => (Request.ofCode (codeByte t.body)).isNone
  | none => false

/-- It is taken and answered, and changes nothing else. -/
def State.answerUnknown (s : State) : State :=
  match s.requestReady with
  | some t => s.takeRequest t fun s => (s, unknownAnswer t.body)
  | none => s

/-- UNKNOWN_REQUEST. -/
def execUnknownRequest (s : State) : Result := event s.unknownDue s.answerUnknown s

end Sys2Proof.Machine
end

