-- ==== Sys2Proof/Machine/Places.lean ====
section
/-! DEFINITION. The Stack Place Controller and the start of a discharge: starting a discharge (R112, R113), counting a closed stack
(R135), freeing, filling, closing and opening a place (R99 to R106), and naming a destination (R98 to R101). -/
namespace Sys2Proof.Machine

/-! ## Starting a discharge (R112, R113) -/

/-- The three start conditions of R112. -/
def State.canDischarge (s : State) : Bool :=
  decide (s.discharge.outfeed = .idle) && !s.discharge.queue.isEmpty && s.reportRoom

/-- The head place becomes DISCHARGING and the current place, with the outfeed MOVING and its timer started (R113 steps 1, 3, 4, 5). -/
def State.beginPush (s : State) (p : PlaceId) (rest : List PlaceId) : State :=
  { s.modPlace p fun pl => { pl with state := .discharging } with
    discharge := { s.discharge with
      queue := rest
      current := some p
      outfeed := .moving
      seenCovered := false
      timer := some s.outfeedTimeoutMs } }

/-- The steps of R113; the STACK report is made from the place record as it stands. -/
def State.startDischarge (s : State) : State :=
  match s.discharge.queue with
  | [] => s
  | p :: rest => (s.beginPush p rest).pushReport (.stack p (s.place p))

/-- The start conditions are examined, and the discharge starts at that moment if they hold (R112; log entry 8). -/
def State.tryDischarge (s : State) : State := if s.canDischarge then s.startDischarge else s

/-! ## Closing stacks -/

/-- The entry is on the lane's open-entry list: it has an item there and is not yet written back. A completing entry's item leaves the list
after its lot steps (R132), but an entry written back has left it, and its counts are final (R127, R133; log entry 12). -/
def State.isOpenEntry (s : State) (l : LaneId) (e : EntryId) : Bool :=
  (s.lane l).openList.any (fun it => decide (it.entry = e)) && isClaimed (s.entryStatus e)

/-- A closed stack is counted in its last entry if that is on the lane's open-entry list, else in the lane's open lot of the same
customer, else nowhere (R135). -/
def State.stackClosed (s : State) (l : LaneId) (customer : Word) (last : EntryId) : State :=
  if s.isOpenEntry l last then s.bumpEntry last 11
  else if (s.lane l).lot.inProgress && decide ((s.lane l).lot.customer = customer) then
    s.modLane l fun L => { L with lot := { L.lot with stacksClosed := L.lot.stacksClosed + 1 } }
  else s

/-- The Lot Sequencer is told of the place's stack, with its lane, customer and last entry (R102, R103). -/
def State.tellStackClosed (s : State) (p : PlaceId) : State :=
  match (s.place p).lane, (s.place p).lastEntry with
  | some l, some e => s.stackClosed l (s.place p).customer e
  | _, _ => s

/-- Every starved lane whose held list names the place loses its mark (R101). -/
def State.unstarve (s : State) (p : PlaceId) : State :=
  s.mapLanes fun L => if L.held.contains p then { L with starved := false } else L

/-- The place becomes FREE with every field cleared as at reset (R103, R110, R117, R120). -/
def State.freePlace (s : State) (p : PlaceId) : State := (s.modPlace p fun _ => Place.reset).unstarve p

/-- The place becomes FULL and joins the tail of the discharge queue; the Lot Sequencer is told, and the start conditions are
examined (R102, R103, R111, R112). -/
def State.makeFull (s : State) (p : PlaceId) (short : Bool) : State :=
  let joined : State :=
    { s.modPlace p fun pl => { pl with state := .full, short := short, closePending := false } with
      discharge := { s.discharge with queue := s.discharge.queue ++ [p] } }
  (joined.tellStackClosed p).tryDischarge

/-- The three courses of a short close of a FILLING place (R103). -/
def State.shortClose (s : State) (p : PlaceId) : State :=
  if (s.place p).state = .filling then
    if (s.place p).inbound then s.modPlace p fun pl => { pl with closePending := true }
    else if 0 < (s.place p).count then s.makeFull p true
    else s.freePlace p
  else s

/-- The inbound mark is cleared, and a close pending on the place is carried out (R96, R104; log entry 13). -/
def State.clearInbound (s : State) (p : PlaceId) : State :=
  if (s.place p).inbound then
    let cleared := s.modPlace p fun pl => { pl with inbound := false }
    if (s.place p).closePending then cleared.shortClose p else cleared
  else s

/-- The FILLING place of a lane, of which there is at most one (R100). -/
def State.fillingPlace (s : State) (l : LaneId) : Option PlaceId :=
  allPlaces.find? fun p => decide ((s.place p).state = .filling ∧ (s.place p).lane = some l)

/-- A place has an identity: the customer and the article (R99). -/
def Place.hasIdentity (pl : Place) (customer : Word) (article : Nat) : Bool :=
  decide (pl.customer = customer ∧ pl.article = article)

/-- The lane's FILLING place of another identity is closed short (R99). -/
def State.closeOtherIdentity (s : State) (l : LaneId) (customer : Word) (article : Nat) : State :=
  match s.fillingPlace l with
  | some p => if (s.place p).hasIdentity customer article then s else s.shortClose p
  | none => s

/-- The lane's FILLING place of this identity, if it has one, is closed short (R105). -/
def State.closeIdentity (s : State) (l : LaneId) (customer : Word) (article : Nat) : State :=
  match s.fillingPlace l with
  | some p => if (s.place p).hasIdentity customer article then s.shortClose p else s
  | none => s

/-- The lane's FILLING place is closed short, or freed at count 0: at LANE STOP (R106). -/
def State.closeFilling (s : State) (l : LaneId) : State :=
  match s.fillingPlace l with
  | some p => s.shortClose p
  | none => s

/-- At entry to FAULTED a FILLING place with count 0 returns to FREE; with a count above 0 it stays (R106). -/
def State.freeEmptyFilling (s : State) (l : LaneId) : State :=
  match s.fillingPlace l with
  | some p => if (s.place p).count = 0 then s.shortClose p else s
  | none => s

/-! ## The destination (R98 to R101) -/

/-- A FREE place opened for the lane with the stack serial counter's value, which then adds 1 (R100). -/
def State.openPlace (s : State) (p : PlaceId) (l : LaneId) (customer : Word) (article target : Nat) : State :=
  { s.modPlace p fun _ =>
      { Place.reset with
        state := .filling, lane := some l, customer := customer, article := article, target := target, serial := s.stackSerial } with
    stackSerial := s.stackSerial + 1 }

def State.markInbound (s : State) (p : PlaceId) : State := s.modPlace p fun pl => { pl with inbound := true }

/-- The lane's FILLING place of the identity, if it has one (R100). -/
def State.fillingOf (s : State) (l : LaneId) (customer : Word) (article : Nat) : Option PlaceId :=
  allPlaces.find? fun p =>
    decide ((s.place p).state = .filling ∧ (s.place p).lane = some l) && (s.place p).hasIdentity customer article

/-- The first FREE place of the lane's held list (R100). -/
def State.firstFree (s : State) (l : LaneId) : Option PlaceId :=
  (s.lane l).held.find? fun p => decide ((s.place p).state = .free)

/-- No place to give: OVERFLOW is latched and the lane marked starved (R101). -/
def State.starve (s : State) (l : LaneId) : State :=
  (s.raise .overflow (some l)).modLane l fun L => { L with starved := true }

/-- A place for an accepted piece of the identity: the standing stack, the first FREE place, or none (R100, R101). -/
def State.placeFor (s : State) (l : LaneId) (customer : Word) (article target : Nat) : State × Destination :=
  match s.fillingOf l customer article with
  | some p => (s.markInbound p, .place p)
  | none =>
    match s.firstFree l with
    | some p => ((s.openPlace p l customer article target).markInbound p, .place p)
    | none => (s.starve l, .overflow)

/-- The resolved target held for an entry on the lane's open-entry list (chapter 8; log entry 20). -/
def State.heldTarget (s : State) (l : LaneId) (e : EntryId) : Nat :=
  match (s.lane l).openList.find? fun it => decide (it.entry = e) with
  | some it => it.target
  | none => 0

/-- The destination of a matched record: OVERFLOW for an ACCEPT_OVERFLOW or force-overflow record, OVERFLOW with its warning in WAIT,
and otherwise a place for the identity of the first token's entry (R98, R99). -/
def State.destinationFor (s : State) (l : LaneId) (r : PieceRecord) : State × Destination :=
  if r.verdict = some .accept ∧ r.forceOverflow = false then
    if (s.lane l).mode = .wait then (s.raise .overflow (some l), .overflow)
    else
      match r.tokens.head? with
      | none => (s, .overflow)
      | some t =>
        (s.closeOtherIdentity l (s.entryCustomer t.entry) (s.entryArticle t.entry)).placeFor l
          (s.entryCustomer t.entry) (s.entryArticle t.entry) (s.heldTarget l t.entry)
  else (s, .overflow)

/-! ## Counting a delivery (R102) -/

/-- The place with one more piece, of the token given. -/
def Place.counted (pl : Place) (t : Option Token) : Place :=
  { pl with
    count := pl.count + 1
    inbound := false
    lastSerial := (t.map Token.serial).getD pl.lastSerial
    lastEntry := (t.map Token.entry).orElse fun _ => pl.lastEntry
    firstSerial := if pl.count = 0 then (t.map Token.serial).getD pl.firstSerial else pl.firstSerial
    firstEntry := if pl.count = 0 then (t.map Token.entry).orElse fun _ => pl.firstEntry else pl.firstEntry }

/-- The piece is counted; at its target the place becomes FULL, otherwise a pending close is carried out (R102, R104). -/
def State.countDelivery (s : State) (p : PlaceId) (t : Option Token) : State :=
  let s1 := s.modPlace p fun pl => pl.counted t
  if (s1.place p).count = (s1.place p).target then s1.makeFull p false
  else if (s1.place p).closePending then s1.shortClose p
  else s1

end Sys2Proof.Machine
end

