-- ==== Sys2Proof/Machine/Lots.lean ====
section
/-! DEFINITION. The Lot Sequencer (chapter 8): the claim (R123 to R126), assignment and the quota step (R129), booking, completion
and its cascade (R131, R132), write-back, ENTRY and LOT reports, the lot accumulator (R133 to R138), and the aborts (R139,
R140). -/
namespace Sys2Proof.Machine

/-! ## The claim -/

/-- The entry's target if it is not 0, else the default stack target of its article (R123). -/
def State.resolvedTarget (s : State) (e : EntryId) : Nat :=
  if (s.entryWord e 4).toNat ≠ 0 then (s.entryWord e 4).toNat else s.articleWord (s.entryArticle e) 7

/-- VALID 1 and status PENDING. -/
def State.entryWaits (s : State) (e : EntryId) : Bool := s.entryValid e && decide (s.entryStatus e = some .pending)

/-- The further tests of R123: article, quota, resolved target. -/
def State.planValid (s : State) (e : EntryId) : Bool :=
  decide (1 ≤ s.entryArticle e ∧ s.entryArticle e ≤ 63) && s.articleValid (s.entryArticle e) &&
  decide (1 ≤ s.entryQuota e ∧ s.entryQuota e ≤ 9999) && decide (1 ≤ s.resolvedTarget e ∧ s.resolvedTarget e ≤ 250)

/-- R123. -/
def State.claimable (s : State) (e : EntryId) : Bool := s.entryWaits e && s.planValid e

/-- The claim at the lane's cursor claims: the entry is claimable and the open-entry list has room (R125). -/
def State.canClaim (s : State) (l : LaneId) : Bool :=
  s.claimable (s.lane l).cursor && decide ((s.lane l).openList.length < Config.openListCap)

/-- The six runtime counts of an entry set to 0 (R125). -/
def State.zeroEntryCounts (s : State) (e : EntryId) : State :=
  [6, 7, 8, 9, 10, 11].foldl (fun s k => s.setEntryWord e k 0#16) s

/-- The entry is claimed by the lane: owner, status ACTIVE, counts 0, an item at the tail of the open-entry list (R125). -/
def State.takeEntry (s : State) (l : LaneId) (e : EntryId) : State :=
  (((s.setEntryWord e 5 (wordOf l.val)).setEntryStatus e .active).zeroEntryCounts e).modLane l fun L =>
    { L with openList := L.openList ++ [⟨e, s.resolvedTarget e⟩] }

/-- The claim at the lane's cursor (R125); one that finds a VALID, PENDING entry unclaimable latches BAD_ENTRY (R123). -/
def State.claim (s : State) (l : LaneId) : State :=
  if s.canClaim l then s.takeEntry l (s.lane l).cursor
  else if s.entryWaits (s.lane l).cursor && !s.planValid (s.lane l).cursor then s.raise .badEntry (some l)
  else s

/-- The lane's ACTIVE entry: the tail of its open-entry list when that is ACTIVE (R127). -/
def State.activeEntry (s : State) (l : LaneId) : Option EntryId :=
  match (s.lane l).openList.getLast? with
  | some it => if s.entryStatus it.entry = some .active then some it.entry else none
  | none => none

/-- The answer of the cursor re-read: whether the lane has work (R126). -/
def State.hasWork (s : State) (l : LaneId) : Bool := (s.activeEntry l).isSome || s.canClaim l

/-- The cursor re-read: the claim, unless the lane has an ACTIVE entry (R126). -/
def State.reread (s : State) (l : LaneId) : State := if (s.activeEntry l).isSome then s else s.claim l

/-! ## Assignment and the quota step -/

/-- The next index of the cursor (R124). -/
def State.nextIndex (s : State) (l : LaneId) (e : EntryId) : EntryId :=
  if s.entryWrap e then (s.lane l).ringStart
  else if e = 63 then (s.lane l).ringStart
  else e + 1

/-- The claim of a quota step; a failed one turns a RUNNING lane DRY (R125). -/
def State.stepClaim (s : State) (l : LaneId) : State :=
  if s.canClaim l then s.claim l
  else if (s.lane l).mode = .running then (s.claim l).setMode l .dry
  else s.claim l

/-- The quota step (R129): CLOSING, the cursor moves, the claim at the new index. -/
def State.quotaStep (s : State) (l : LaneId) (e : EntryId) : State :=
  ((s.setEntryStatus e .closing).modLane l fun L => { L with cursor := s.nextIndex l e }).stepClaim l

/-- A token assigned to the lane's ACTIVE entry, with the quota step when the count reaches the quota (R129). -/
def State.assign (s : State) (l : LaneId) (e : EntryId) : State :=
  let s1 := s.bumpEntry e 6
  if s1.entryAssigned e = s1.entryQuota e then s1.quotaStep l e else s1

/-! ## Lots -/

/-- The fresh accumulator of a lot opened by an entry (R136 step 2). -/
def Lot.opened (customer : Word) (e : EntryId) (marked : Bool) : Lot :=
  { Lot.reset with inProgress := true, customer := customer, firstEntry := e, lastEntry := e, unmarkedStart := !marked }

/-- The accumulator with an entry's counts added (R136 step 3). -/
def State.lotWith (s : State) (lot : Lot) (e : EntryId) : Lot :=
  { lot with
    delivered := lot.delivered + s.entryWord e 7
    rejected := lot.rejected + s.entryWord e 8
    overflowed := lot.overflowed + s.entryWord e 9
    lost := lot.lost + s.entryWord e 10
    stacksClosed := lot.stacksClosed + s.entryWord e 11
    entries := lot.entries + 1
    lastEntry := e }

def State.modLot (s : State) (l : LaneId) (f : Lot → Lot) : State := s.modLane l fun L => { L with lot := f L.lot }

/-- A LOT report from the accumulator, marked as given, and the accumulator closed (R136, R137, R139). -/
def State.reportLot (s : State) (l : LaneId) (mark : Lot → Lot) : State :=
  (s.produce (.lot l (mark (s.lane l).lot))).modLot l fun a => { a with inProgress := false }

/-- An open lot is cut off by the next LOT_START, with UNTERMINATED (R136 step 1). -/
def State.cutLot (s : State) (l : LaneId) (e : EntryId) : State :=
  if s.entryLotStart e && (s.lane l).lot.inProgress then s.reportLot l fun a => { a with unterminated := true } else s

/-- A closed accumulator is opened by the entry (R136 step 2). -/
def State.openLot (s : State) (l : LaneId) (e : EntryId) : State :=
  if (s.lane l).lot.inProgress then s else s.modLot l fun _ => Lot.opened (s.entryCustomer e) e (s.entryLotStart e)

/-- The entry is added to its lane's accumulator (R136). -/
def State.addToLot (s : State) (l : LaneId) (e : EntryId) : State :=
  let s2 := (s.cutLot l e).openLot l e
  s2.modLot l fun a => s2.lotWith a e

/-! ## Completion -/

/-- What an ENTRY report carries for an item of the list (R134). -/
def State.entryResult (s : State) (l : LaneId) (it : OpenItem) (st : EntryStatus) : EntryResult where
  lane := l
  entry := it.entry
  status := st
  customer := s.entryCustomer it.entry
  article := s.entryArticle it.entry
  quota := s.entryWord it.entry 3
  target := it.target
  assigned := s.entryWord it.entry 6
  delivered := s.entryWord it.entry 7
  rejected := s.entryWord it.entry 8
  overflowed := s.entryWord it.entry 9
  lost := s.entryWord it.entry 10
  stacksClosed := s.entryWord it.entry 11

/-- The ENTRY report of an entry with NOTIFY 1 (R134). -/
def State.notifyEntry (s : State) (l : LaneId) (it : OpenItem) (st : EntryStatus) : State :=
  if s.entryNotify it.entry then s.produce (.entry (s.entryResult l it st)) else s

/-- The item at the head of the open-entry list leaves it. -/
def State.dropHead (s : State) (l : LaneId) : State := s.modLane l fun L => { L with openList := L.openList.tail }

/-- An item is written back (R133), its report is sent (R134), and it joins the lot (R136). -/
def State.closeItem (s : State) (l : LaneId) (it : OpenItem) (st : EntryStatus) : State :=
  ((s.writeBackEntry it.entry st).notifyEntry l it st).addToLot l it.entry

/-- The steps of a LOT_END entry: the place is closed, the LOT report sent, the accumulator closed (R137). -/
def State.endLot (s : State) (l : LaneId) (e : EntryId) : State :=
  if s.entryLotEnd e then
    (s.closeIdentity l (s.entryCustomer e) (s.entryArticle e)).reportLot l id
  else s

/-- A HOLD_AFTER completion: a RUNNING or DRY lane enters WAIT, any other has its wait-pending set (R138). -/
def State.holdAfter (s : State) (l : LaneId) (e : EntryId) : State :=
  if s.entryHoldAfter e then
    if (s.lane l).mode = .running ∨ (s.lane l).mode = .dry then s.setMode l .wait else s.setWaitPending l true
  else s

/-- The completion of the head item: R133 to R138 in order, and the item is then removed from the head of the list (R132). -/
def State.completeHead (s : State) (l : LaneId) (it : OpenItem) : State :=
  (((s.closeItem l it .complete).endLot l it.entry).holdAfter l it.entry).dropHead l

/-- The cascade of completions: each DRAINED head completes at once (R132). -/
def State.cascade : Nat → LaneId → State → State
  | 0, _, s => s
  | n + 1, l, s =>
    match (s.lane l).openList with
    | [] => s
    | it :: _ => if s.entryStatus it.entry = some .drained then State.cascade n l (s.completeHead l it) else s

/-- The entry has drained: a head completes and the cascade follows, another waits DRAINED (R131, R132). -/
def State.drain (s : State) (l : LaneId) (e : EntryId) : State :=
  match (s.lane l).openList with
  | [] => s.setEntryStatus e .drained
  | it :: rest =>
    if it.entry = e then State.cascade rest.length l (s.completeHead l it) else s.setEntryStatus e .drained

/-- The entry is CLOSING and its outstanding tokens are 0 (R131). -/
def State.drained (s : State) (e : EntryId) : Bool :=
  decide (s.entryStatus e = some .closing) && decide (s.entryAssigned e = s.entryRetired e)

/-- A booking of an outcome for a token of an entry (R131). -/
def State.book (s : State) (l : LaneId) (o : Retirement) (e : EntryId) : State :=
  let s1 := s.bumpEntry e o.entryIndex
  if s1.drained e then s1.drain l e else s1

/-! ## Aborts -/

/-- The head item written back ABORTED at LANE STOP, reported, added to the lot and gone from the list (R139 step 1). -/
def State.abortHead (s : State) (l : LaneId) (it : OpenItem) : State := (s.closeItem l it .aborted).dropHead l

/-- The Lot Sequencer's part of LANE STOP (R139). -/
def State.abortLane (s : State) (l : LaneId) : State :=
  let s1 := (s.lane l).openList.foldl (fun s it => s.abortHead l it) s
  let s2 := if (s1.lane l).lot.inProgress then s1.reportLot l fun a => { a with stopped := true } else s1
  s2.setWaitPending l false

/-- The write-backs of a warm reset for one lane, head first, without reports (R140). -/
def State.abortAtReset (s : State) (l : LaneId) : State :=
  (s.lane l).openList.foldl (fun s it => s.writeBackEntry it.entry .aborted) s

end Sys2Proof.Machine
end

