-- ==== Sys2Proof/Machine/Records.lean ====
section
/-! DEFINITION. The Piece Tracker's records and their retirement (R57, R60, R78), the loss of a queued token (R35, R45), and the
purge on a lane fault (R156 to R159). -/
namespace Sys2Proof.Machine

/-! ## Records of a lane -/

/-- The record of a lane's in-flight list with this number. -/
def State.findRecord (s : State) (l : LaneId) (n : RecordNo) : Option PieceRecord :=
  (s.lane l).inFlight.find? fun r => decide (r.number = n)

/-- A change of the record with this number, wherever it stands on the lane's list. -/
def State.modRecord (s : State) (l : LaneId) (n : RecordNo) (f : PieceRecord → PieceRecord) : State :=
  s.modLane l fun L => { L with inFlight := L.inFlight.map fun r => if r.number = n then f r else r }

/-- A record with a retire position is gated (chapter 4). -/
def PieceRecord.gated (r : PieceRecord) : Bool := r.retirePosition.isSome

/-- The measured length; every record past its trailing edge has one (chapter 4). -/
def PieceRecord.lengthOf (r : PieceRecord) : Nat := r.length.getD 0

def PieceRecord.widthOf (r : PieceRecord) : Nat := r.widthClass.getD 0

/-- Bookings of a record on page 7: one for each token, or one for a stray (R60 steps 4 and 5). -/
def PieceRecord.bookings (r : PieceRecord) : Nat := if r.tokens.isEmpty then 1 else r.tokens.length

/-! ## Fold windows of a record -/

/-- The fold outputs after the windows given are removed: the output of each OPEN one is released (R77, R78, R79). -/
def releaseFolds (folds : Vector Bool 6) (removed : List Window) : Vector Bool 6 :=
  removed.foldl
    (fun v w =>
      match w.output, w.state with
      | .fold f, .opened => v.set f false
      | _, _ => v)
    folds

/-- A fold window of the record (a gate window has no piece, so it is none). -/
def Window.folds (w : Window) (n : RecordNo) : Bool := decide (w.piece = some n)

/-- Every fold window of the record is removed, OPEN or WAITING, and the output of each OPEN one is released (R78, R79). -/
def FoldLane.dropPiece (fl : FoldLane) (n : RecordNo) : FoldLane :=
  { fl with
    windows := fl.windows.filter fun w => !w.folds n
    folds := releaseFolds fl.folds (fl.windows.filter fun w => w.folds n) }

/-! ## Retirement -/

/-- A lane in SUSPENDING whose token queue and in-flight list are both empty becomes SUSPENDED (R146). -/
def State.examineSuspending (s : State) (l : LaneId) : State :=
  if (s.lane l).mode = .suspending ∧ (s.lane l).tokens = [] ∧ (s.lane l).inFlight = [] then s.setMode l .suspended else s

/-- The inbound mark of an AT_EXIT record's place is cleared (R100, R104). -/
def State.leavePlace (s : State) (r : PieceRecord) : State :=
  match r.phase, r.destination with
  | .atExit, some (.place p) => s.clearInbound p
  | _, _ => s

/-- The record leaves its lane's list for the tail of the free list, and the lists of the Fold Scheduler and the Exit Unit that refer
to it (R57, R60 steps 1 and 2, R78). -/
def State.freeRecord (s : State) (l : LaneId) (r : PieceRecord) : State :=
  { s.modLane l fun L =>
      { L with
        inFlight := L.inFlight.eraseP fun x => decide (x.number = r.number)
        sched := L.sched.dropPiece r.number
        exit := { L.exit with arrival := if L.exit.arrival = .matched r.number then .absent else L.exit.arrival } } with
    free := s.free ++ [r.number] }

/-- The outcome booked for each token, first token first (R60 step 3). -/
def State.bookTokens (s : State) (l : LaneId) (o : Retirement) (ts : List Token) : State :=
  ts.foldl (fun s t => s.book l o t.entry) s

/-- The lane's page 7 counters of a retirement (R60 steps 4 and 5). -/
def State.countRetirement (s : State) (l : LaneId) (r : PieceRecord) (o : Retirement) : State :=
  let s1 := s.addLaneCounter l o.laneIndex r.bookings
  match o, r.verdict with
  | .rejected, some (.reject why) => s1.addLaneCounter l why.laneIndex r.bookings
  | _, _ => s1

/-- The retirement of a record with an outcome (R60); a record already retired is not found, and nothing is done (R57). -/
def State.retire (s : State) (l : LaneId) (n : RecordNo) (o : Retirement) : State :=
  match s.findRecord l n with
  | none => s
  | some r =>
    (((((s.freeRecord l r).leavePlace r).bookTokens l o r.tokens).countRetirement l r o)).examineSuspending l

/-! ## Queued tokens -/

/-- A token, already out of its queue, is retired LOST in its entry and booked to the lane's lost counter (R33, R35, R45). -/
def State.loseToken (s : State) (l : LaneId) (t : Token) : State :=
  ((s.book l .lost t.entry).addLaneCounter l Retirement.lost.laneIndex 1).examineSuspending l

/-- The head token leaves the queue. -/
def State.popToken (s : State) (l : LaneId) : State := s.modLane l fun L => { L with tokens := L.tokens.tail }

/-! ## Lane faults -/

/-- What the Entry Sensor and the Exit Unit do on entry to IDLE or FAULTED (R19, R88). A check that waits on a pending change is kept: in
FAULTED by R18, R91 and R93, in IDLE by the model's choice (log entry 27). -/
def State.holdEdges (s : State) (l : LaneId) : State :=
  s.modLane l fun L =>
    { L with
      entry := { L.entry with openPiece := none, blockedTarget := none }
      exit := { L.exit with arrival := .absent, blockedTarget := none, route := .overflow } }

/-- Step 1 of the purge (R157). -/
def State.enterFaulted (s : State) (l : LaneId) (f : LaneFault) : State :=
  (s.modLane l fun L => { L with mode := .faulted, faultCode := some f, returnToWait := false }).holdEdges l

/-- Step 2: every record of the lane retired LOST, head first (R62). -/
def State.purgeRecords (s : State) (l : LaneId) : State :=
  ((s.lane l).inFlight.map PieceRecord.number).foldl (fun s n => s.retire l n .lost) s

/-- Step 3: every queued token retired LOST, oldest first (R45). -/
def State.purgeTokens (s : State) (l : LaneId) : State :=
  (s.lane l).tokens.foldl (fun s q => (s.popToken l).loseToken l q.token) s

/-- Step 4: every window removed, the fold outputs released, GATE held asserted (R83). -/
def State.holdGate (s : State) (l : LaneId) : State :=
  s.modSched l fun _ => { windows := [], folds := Vector.replicate 6 false, gate := true, gateHold := true }

/-- The purge on entry to FAULTED (R157), with its FAULT report (R158). -/
def State.purge (s : State) (l : LaneId) (f : LaneFault) : State :=
  (((((s.enterFaulted l f).purgeRecords l).purgeTokens l).holdGate l).freeEmptyFilling l).produce
    (.laneFault l f (s.lane l).inFlight.length (s.lane l).tokens.length)

/-- A lane fault reported to the Lane Controller: the purge, a second fault, or nothing in IDLE (R156, R159). -/
def State.reportFault (s : State) (l : LaneId) (f : LaneFault) : State :=
  match (s.lane l).mode with
  | .idle => s
  | .faulted => s.raise .secondFault (some l)
  | .running => s.purge l f
  | .dry => s.purge l f
  | .wait => s.purge l f
  | .suspending => s.purge l f
  | .suspended => s.purge l f

/-- A token queued, or a record appended, on a SUSPENDED lane turns it SUSPENDING (R30, R53, R146). -/
def State.wakeSuspended (s : State) (l : LaneId) : State :=
  if (s.lane l).mode = .suspended then s.setMode l .suspending else s

/-! ## RETIRE_POSITION_REACHED (R58) -/

/-- A gated record whose retire position is reached. -/
def PieceRecord.retireDue (r : PieceRecord) (now : Pos) : Bool :=
  match r.retirePosition with
  | some p => reached now p
  | none => false

/-- The first such record along the lane's list. -/
def State.dueRetirement (s : State) (l : LaneId) : Option PieceRecord :=
  (s.lane l).inFlight.find? fun r => r.retireDue s.track.position

/-- That record is retired REJECTED (R58). -/
def State.retireAtGate (s : State) (l : LaneId) : State :=
  match s.dueRetirement l with
  | some r => s.retire l r.number .rejected
  | none => s

/-- RETIRE_POSITION_REACHED. -/
def execRetirePositionReached (l : LaneId) (s : State) : Result :=
  event (s.dueRetirement l).isSome (s.retireAtGate l) s

end Sys2Proof.Machine
end

