-- ==== Sys2Proof/Machine/LaneRequests.lean ====
section
/-! DEFINITION. The Lane Controller's requests (chapter 9): LANE START with its checks (R97, R148, R149), LANE SUSPEND and LANE RESUME,
single and for all lanes (R150, R152, R154), the return (R151), LANE RELEASE (R153), LANE STOP (R155) and CLEAR FAULT (R160). -/
namespace Sys2Proof.Machine

/-- The lane state as a data word. -/
def State.laneWord (s : State) (l : LaneId) : Word := wordOf (s.lane l).mode.code

/-- The answer of a single-lane request: a status with the lane state after it. -/
def State.laneAnswer (s : State) (l : LaneId) (st : Status) : State × Answer := (s, answer st [s.laneWord l])

/-- A request for one lane: a lane value above 3 is answered BAD_PARAM. -/
def onLane (b : Byte) (s : State) (f : LaneId → State × Answer) : State × Answer :=
  match laneParam b with
  | some l => f l
  | none => (s, answer .badParam [])

/-! ## LANE START (R148, R149, R97) -/

/-- A number of a range. -/
def within (low high n : Nat) : Bool := decide (low ≤ n ∧ n ≤ high)

/-- The settings of page 0 that step 3 of R148 tests. -/
def State.stationFit (s : State) : Bool :=
  within 1 31 (s.word 0 1).toNat && within 100 9000 (s.word 0 2).toNat && within 0 255 (s.word 0 3).toNat &&
  within 0 255 (s.word 0 4).toNat && within 0 255 (s.word 0 5).toNat && within 1 15 (s.word 0 6).toNat &&
  within 1 15 (s.word 0 7).toNat && within 0 1 (s.word 0 9).toNat

/-- A station distance is 0, or at most 30000 and not beyond X. -/
def State.distanceFit (s : State) (l : LaneId) (k : Nat) : Bool :=
  decide ((s.row l k).toNat = 0) || within 1 30000 (s.row l k).toNat && decide ((s.row l k).toNat ≤ s.exitDistance l)

/-- Gate and exit distances, and X clear of the longest piece (R148). -/
def State.reachFit (s : State) (l : LaneId) : Bool :=
  within 1 30000 (s.gateDistance l) && decide (s.gateDistance l < s.exitDistance l) && within 1 30000 (s.exitDistance l) &&
  decide ((s.word 0 2).toNat + (s.row l 8).toNat < s.exitDistance l)

/-- A slot of a place list names a place 0 to 7, or none. -/
def slotFit (w : Word) : Bool := decide (w.toNat < 8 ∨ w = 0xFFFF#16)

/-- The settings of the lane's row that step 3 of R148 tests. -/
def State.rowFit (s : State) (l : LaneId) : Bool :=
  [0, 1, 2, 3, 4, 5].all (s.distanceFit l) && s.reachFit l && within 10 2000 (s.row l 8).toNat &&
  within 1000 60000 (s.row l 9).toNat && within 0 2000 (s.row l 10).toNat && within 1 15 (s.row l 11).toNat &&
  within 1 15 (s.row l 12).toNat && (s.placeSlots l).all slotFit

/-- Step 3 of R148. -/
def State.configFit (s : State) (l : LaneId) : Bool := s.laneEnabled l && s.stationFit && s.rowFit l

/-- The place stands in the held list of another lane that is not IDLE (R97). -/
def State.heldElsewhere (s : State) (l : LaneId) (p : PlaceId) : Bool :=
  allLanes.any fun m => decide (m ≠ l ∧ (s.lane m).mode ≠ .idle) && (s.lane m).held.contains p

/-- The place is FREE, or assigned to the lane by its lane field, and held by no other lane at work (R97). -/
def State.placeFit (s : State) (l : LaneId) (p : PlaceId) : Bool :=
  !s.heldElsewhere l p && decide ((s.place p).state = .free ∨ (s.place p).lane = some l)

/-- Step 4 of R148: every place the row's place list names passes (R97). -/
def State.placesFit (s : State) (l : LaneId) : Bool := (s.placeList l).all (s.placeFit l)

/-- The lane made ready (R149 steps 1 to 3): spacing at rest (R24), the held list taken, the starved mark cleared, wait-pending no, ring
start and cursor set. -/
def State.prepareLane (s : State) (l : LaneId) (e : EntryId) : State :=
  s.modLane l fun L =>
    { L with
      entry := { L.entry with spacing := .normal, shortCount := 0, goodCount := 0, lastTrailing := none }
      held := s.placeList l
      starved := false
      waitPending := false
      ringStart := e
      cursor := e }

/-- The claim at the cursor, and the lane RUNNING or DRY by it (R149 steps 3 and 4). -/
def State.startClaim (s : State) (l : LaneId) : State :=
  (s.claim l).setMode l (if s.canClaim l then .running else .dry)

/-- The steps of R149. -/
def State.startLane (s : State) (l : LaneId) (e : EntryId) : State := (s.prepareLane l e).startClaim l

/-- Steps 2 to 4 of R148, then R149. -/
def State.laneStart (s : State) (l : LaneId) (e : EntryId) : State × Answer :=
  if (s.lane l).mode ≠ .idle then s.laneAnswer l .wrongState
  else if s.configFit l = false then s.laneAnswer l .badConfig
  else if s.placesFit l = false then s.laneAnswer l .conflict
  else (s.startLane l e).laneAnswer l .ok

def laneStartAct : Act := fun ps s =>
  match laneParam (param ps 0), entryParam (param ps 1) with
  | some l, some e => s.laneStart l e
  | _, _ => (s, answer .badParam [])

/-- LANE_START. -/
def execLaneStart (s : State) : Result := request .laneStart laneStartAct s

/-! ## The return (R151) -/

/-- The lane back to WAIT, RUNNING or DRY. -/
def State.returnLane (s : State) (l : LaneId) : State :=
  if (s.lane l).returnToWait then s.modLane l fun L => { L with mode := .wait, returnToWait := false }
  else if (s.lane l).waitPending then s.modLane l fun L => { L with mode := .wait, waitPending := false }
  else (s.reread l).setMode l (if s.hasWork l then .running else .dry)

/-! ## LANE SUSPEND (R150) -/

/-- The token queue and the in-flight list are both empty. -/
def Lane.isEmpty (L : Lane) : Bool := L.tokens.isEmpty && L.inFlight.isEmpty

/-- The lane SUSPENDING, or SUSPENDED at once when it holds nothing; from WAIT, return to WAIT is set. -/
def Lane.suspend (L : Lane) : Lane :=
  { L with
    mode := if L.isEmpty then .suspended else .suspending
    returnToWait := L.returnToWait || decide (L.mode = .wait) }

/-- LANE SUSPEND on a single lane. -/
def State.suspendLane (s : State) (l : LaneId) : State × Status :=
  match (s.lane l).mode with
  | .running => (s.modLane l Lane.suspend, .ok)
  | .dry => (s.modLane l Lane.suspend, .ok)
  | .wait => (s.modLane l Lane.suspend, .ok)
  | .suspending => (s, .ok)
  | .suspended => (s, .ok)
  | .idle => (s, .wrongState)
  | .faulted => (s, .wrongState)

/-! ## LANE RESUME (R152) -/

/-- LANE RESUME on a single lane. -/
def State.resumeLane (s : State) (l : LaneId) : State × Status :=
  match (s.lane l).mode with
  | .suspended => (s.returnLane l, .ok)
  | .suspending => (s.returnLane l, .ok)
  | .idle => (s, .wrongState)
  | .running => (s, .wrongState)
  | .dry => (s, .wrongState)
  | .wait => (s, .wrongState)
  | .faulted => (s, .wrongState)

/-! ## All lanes at once (R154) -/

/-- A single-lane request of LANE SUSPEND or LANE RESUME. -/
abbrev LaneAct := State → LaneId → State × Status

/-- One lane of the all-lanes form: its status and lane state join the words; a lane not enabled shows BAD_CONFIG and IDLE. -/
def State.eachLane (act : LaneAct) (acc : State × List Word) (l : LaneId) : State × List Word :=
  if acc.1.laneEnabled l then
    let done := act acc.1 l
    (done.1, acc.2 ++ [wordOf done.2.code.toNat, done.1.laneWord l])
  else (acc.1, acc.2 ++ [wordOf Status.badConfig.code.toNat, wordOf LaneMode.idle.code])

/-- Every enabled lane, lane 0 first. -/
def State.onAllLanes (s : State) (act : LaneAct) : State × List Word := allLanes.foldl (State.eachLane act) (s, [])

/-- LANE SUSPEND or LANE RESUME for the lane value given: a lane, or 4 for all enabled lanes (R150, R152, R154). -/
def State.onLaneValue (s : State) (act : LaneAct) (b : Byte) : State × Answer :=
  match laneParam b with
  | some l => (act s l).1.laneAnswer l (act s l).2
  | none =>
    if b = 0x04#8 then ((s.onAllLanes act).1, answer .ok (s.onAllLanes act).2) else (s, answer .badParam [])

def laneSuspendAct : Act := fun ps s => s.onLaneValue State.suspendLane (param ps 0)

/-- LANE_SUSPEND. -/
def execLaneSuspend (s : State) : Result := request .laneSuspend laneSuspendAct s

def laneResumeAct : Act := fun ps s => s.onLaneValue State.resumeLane (param ps 0)

/-- LANE_RESUME. -/
def execLaneResume (s : State) : Result := request .laneResume laneResumeAct s

/-! ## LANE RELEASE (R153) -/

def State.laneRelease (s : State) (l : LaneId) : State × Answer :=
  if (s.lane l).mode = .wait then (s.returnLane l).laneAnswer l .ok else s.laneAnswer l .wrongState

def laneReleaseAct : Act := fun ps s => onLane (param ps 0) s s.laneRelease

/-- LANE_RELEASE. -/
def execLaneRelease (s : State) : Result := request .laneRelease laneReleaseAct s

/-! ## LANE STOP (R155) -/

/-- Steps 3 and 4: return to WAIT no, the lane IDLE, its Entry Sensor and Exit Unit as on entry to IDLE (R19, R88). -/
def State.enterIdle (s : State) (l : LaneId) : State :=
  (s.modLane l fun L => { L with mode := .idle, returnToWait := false }).holdEdges l

/-- The steps of R155. -/
def State.stopLane (s : State) (l : LaneId) : State := ((s.closeFilling l).abortLane l).enterIdle l

def State.laneStop (s : State) (l : LaneId) : State × Answer :=
  if (s.lane l).mode = .suspended then (s.stopLane l).laneAnswer l .ok else s.laneAnswer l .wrongState

def laneStopAct : Act := fun ps s => onLane (param ps 0) s s.laneStop

/-- LANE_STOP. -/
def execLaneStop (s : State) : Result := request .laneStop laneStopAct s

/-! ## CLEAR FAULT (R160) -/

/-- The fault cleared and the lane SUSPENDED; a check that waited on a pending change ends with no fault (R18, R91, R93). -/
def Lane.clearFault (L : Lane) : Lane :=
  { L with
    mode := .suspended
    faultCode := none
    sched := { L.sched with gateHold := false, gate := false }
    entry := { L.entry with blockedWaits := false }
    exit := { L.exit with blockedWaits := false, missingWaits := false } }

def State.laneClearFault (s : State) (l : LaneId) : State × Answer :=
  if (s.lane l).mode = .faulted then (s.modLane l Lane.clearFault).laneAnswer l .ok else s.laneAnswer l .wrongState

def clearFaultAct : Act := fun ps s => onLane (param ps 0) s s.laneClearFault

/-- CLEAR_FAULT. -/
def execClearFault (s : State) : Result := request .clearFault clearFaultAct s

end Sys2Proof.Machine
end

