-- ==== Sys2Proof/Machine/Fold.lean ====
section
/-! DEFINITION. The Fold Scheduler (chapter 5): fold programs (R65), fire windows of an accepted piece (R66 to R70), reject windows, the
gate and force overflow (R71 to R75), the spoil at a stop notice (R79, R80, R96), WINDOW_OPEN and WINDOW_END (R76, R77). -/
namespace Sys2Proof.Machine

/-! ## Fold programs (R65) -/

/-- A step of a fold program as the scheduler reads it. -/
structure FoldStep where
  station : StationId
  reference : Nat
  offset : Int
  duration : Nat
  deriving DecidableEq, Repr

def State.stepWord (s : State) (program step k : Nat) : Word := s.word 3 (24 * program + 4 * step + k)

/-- An offset brought into −512 to +511. -/
def clampOffset (i : Int) : Int := if i < -512 then -512 else if 511 < i then 511 else i

/-- Step `step` (0 to 5) of a program; none when its station ends the list: 6, 7 or above. -/
def State.readStep (s : State) (program step : Nat) : Option FoldStep :=
  if h : (s.stepWord program step 0).toNat < 6 then
    some
      { station := ⟨(s.stepWord program step 0).toNat, h⟩
        reference := clamp 0 12 (s.stepWord program step 1).toNat
        offset := clampOffset (s.stepWord program step 2).toInt
        duration := clamp 10 2000 (s.stepWord program step 3).toNat }
  else none

/-- The steps before the first that ends the list. -/
def stepsBefore : List (Option FoldStep) → List FoldStep
  | [] => []
  | none :: _ => []
  | some st :: rest => st :: stepsBefore rest

/-- The steps of a program, step 1 first (R65). -/
def State.programSteps (s : State) (program : Nat) : List FoldStep :=
  stepsBefore ([0, 1, 2, 3, 4, 5].map (s.readStep program))

/-! ## Windows -/

/-- Two windows for one output overlap when each begins at or before the other's end (R69). -/
def Window.overlaps (a b : Window) : Bool := !before b.stop a.start && !before a.stop b.start

/-- OPEN when the start has been reached at the current position, else WAITING (R73). -/
def stateAt (now start : Pos) : WindowState := if reached now start then .opened else .waiting

/-- The window is OPEN. -/
def Window.isOpen (w : Window) : Bool := decide (w.state = .opened)

/-- A gate window. -/
def Window.isGate (w : Window) : Bool := decide (w.output = .gate)

/-- The fire window of a step (R67), placed as R73 gives at the current position `now`. -/
def State.foldWindow (s : State) (l : LaneId) (r : PieceRecord) (now : Pos) (st : FoldStep) : Window :=
  let start := r.lead + posOf (s.stationDistance l st.station) + posOf (r.lengthOf * st.reference / 12) + BitVec.ofInt 32 st.offset
  { output := .fold st.station, start := start, stop := start + posOf st.duration, state := stateAt now start, piece := some r.number }

/-- The windows to be placed: one for each step whose station has a distance (R66). -/
def State.foldWindows (s : State) (l : LaneId) (r : PieceRecord) (now : Pos) : List Window :=
  match r.snapshot with
  | none => []
  | some sn =>
    ((s.programSteps sn.program).filter fun st => decide (s.stationDistance l st.station ≠ 0)).map (s.foldWindow l r now)

/-- The earliest start of R68 and R72. -/
def State.earliestStart (s : State) (now : Pos) : Pos := now + posOf s.scheduleMargin

/-- Some window would start before the earliest start (R68). -/
def State.isLate (s : State) (now : Pos) (ws : List Window) : Bool := ws.any fun w => before w.start (s.earliestStart now)

/-- Two windows for the same output that overlap. -/
def Window.clashes (a b : Window) : Bool := decide (a.output = b.output) && a.overlaps b

/-- Some window overlaps another of the list for the same output. -/
def selfCrowded : List Window → Bool
  | [] => false
  | w :: rest => rest.any (w.clashes ·) || selfCrowded rest

/-- Some window overlaps one of the schedule for the same fold output, or another to be placed (R69). -/
def FoldLane.crowded (fl : FoldLane) (ws : List Window) : Bool :=
  ws.any (fun w => fl.windows.any (w.clashes ·)) || selfCrowded ws

/-- The empty window slots are fewer than the windows to be placed (R70). -/
def FoldLane.noRoom (fl : FoldLane) (ws : List Window) : Bool := decide (Config.windowSlots < fl.windows.length + ws.length)

/-- The reason the checks give, in the order R68, R69, R70, if one fails. -/
def State.foldRefusal (s : State) (l : LaneId) (now : Pos) (ws : List Window) : Option RejectReason :=
  if s.isLate now ws then some .late
  else if (s.lane l).sched.crowded ws then some .crowd
  else if (s.lane l).sched.noRoom ws then some .crowd
  else none

/-- The fold outputs with the output of each OPEN window asserted. -/
def assertFolds (folds : Vector Bool 6) (ws : List Window) : Vector Bool 6 :=
  ws.foldl
    (fun v w =>
      match w.output, w.state with
      | .fold f, .opened => v.set f true
      | _, _ => v)
    folds

/-- Windows placed in empty slots, asserting the outputs of those placed OPEN (R70, R73). -/
def FoldLane.placeAll (fl : FoldLane) (ws : List Window) : FoldLane :=
  { fl with windows := fl.windows ++ ws, folds := assertFolds fl.folds ws }

/-! ## Reject windows (R71 to R75) -/

/-- The reject window of a record (R71). -/
def State.rejectWindow (s : State) (l : LaneId) (r : PieceRecord) (now : Pos) : Window :=
  let start := r.lead + posOf (s.gateDistance l) - posOf s.gateLead
  { output := .gate
    start := start
    stop := r.lead + posOf r.lengthOf + posOf (s.gateDistance l) + posOf s.gateTrail
    state := stateAt now start
    piece := none }

/-- A gate window extended over another: the earlier start, the later end; OPEN if either was, or if its start has been reached
(R74). -/
def mergeWindows (now : Pos) (a b : Window) : Window :=
  { a with
    start := earlier a.start b.start
    stop := later a.stop b.stop
    state := if a.isOpen || b.isOpen then .opened else stateAt now (earlier a.start b.start) }

/-- The earliest-starting of a window and a list of windows. -/
def earliestOf (w : Window) (ws : List Window) : Window :=
  ws.foldl (fun a b => if before b.start a.start then b else a) w

/-- The extended window merged with each further gate window it overlaps, until it overlaps none: the window and the windows left.
The first argument bounds the number of merges (R74). -/
def absorb (now : Pos) : Nat → Window → List Window → Window × List Window
  | 0, w, ws => (w, ws)
  | n + 1, w, ws =>
    match ws.find? (fun x => x.isGate && w.overlaps x) with
    | none => (w, ws)
    | some x => absorb now n (mergeWindows now w x) (ws.eraseP fun y => y.isGate && w.overlaps y)

/-- The schedule with a reject window merged into the gate windows it overlaps; `first` heads the list of those (R74). -/
def FoldLane.mergeGate (fl : FoldLane) (now : Pos) (w first : Window) (more : List Window) : FoldLane :=
  let target := earliestOf first more
  let merged := absorb now fl.windows.length (mergeWindows now target w) (fl.windows.erase target)
  { fl with windows := merged.2 ++ [merged.1], gate := fl.gate || merged.1.isOpen }

/-- The schedule with a gate window in an empty slot (R73, R75). -/
def FoldLane.placeGate (fl : FoldLane) (w : Window) : FoldLane :=
  { fl with windows := fl.windows ++ [w], gate := fl.gate || w.isOpen }

/-- The gate windows of the schedule that overlap a reject window. -/
def FoldLane.gatesOver (fl : FoldLane) (w : Window) : List Window := fl.windows.filter fun x => x.isGate && w.overlaps x

/-- The record is gated at its retire position; one already reached retires it at once (R56, R58, R74, R75). -/
def State.gateRecord (s : State) (l : LaneId) (n : RecordNo) (p : Pos) : State :=
  let s1 := s.modRecord l n fun r => { r with retirePosition := some p }
  if reached s.track.position p then s1.retire l n .rejected else s1

/-- A reject window tried for lateness, for merging and for a slot, in that order (R72, R74, R75); `now` is the current position. -/
def State.tryReject (s : State) (l : LaneId) (n : RecordNo) (now : Pos) (w : Window) : State :=
  if before w.start (s.earliestStart now) then s.modRecord l n fun r => { r with forceOverflow := true }
  else
    match (s.lane l).sched.gatesOver w with
    | first :: more => (s.modSched l fun fl => fl.mergeGate now w first more).gateRecord l n w.stop
    | [] =>
      if (s.lane l).sched.windows.length < Config.windowSlots then
        (s.modSched l fun fl => fl.placeGate w).gateRecord l n w.stop
      else s.reportFault l .gateFull

/-- The reject window of a record of the lane (R71). -/
def State.giveReject (s : State) (l : LaneId) (n : RecordNo) (now : Pos) : State :=
  match s.findRecord l n with
  | some r => s.tryReject l n now (s.rejectWindow l r now)
  | none => s

/-- The verdict of a record. -/
def State.setVerdict (s : State) (l : LaneId) (n : RecordNo) (v : Verdict) : State :=
  s.modRecord l n fun r => { r with verdict := some v }

/-- An accepted record's windows placed, or the record turned into a reject and given its reject window (R66 to R70). -/
def State.scheduleFolds (s : State) (l : LaneId) (r : PieceRecord) (now : Pos) : State :=
  match s.foldRefusal l now (s.foldWindows l r now) with
  | some why => (s.setVerdict l r.number (.reject why)).giveReject l r.number now
  | none => s.modSched l fun fl => fl.placeAll (s.foldWindows l r now)

/-- What the Fold Scheduler does with a record handed to it at its trailing edge (R66). -/
def State.scheduleRecord (s : State) (l : LaneId) (n : RecordNo) (now : Pos) : State :=
  match s.findRecord l n with
  | none => s
  | some r =>
    match r.verdict with
    | some .accept => s.scheduleFolds l r now
    | some .acceptOverflow => s.scheduleFolds l r now
    | some (.reject _) => s.giveReject l n now
    | none => s

/-! ## The stop notice (R79, R80, R96) -/

/-- A spoiled record that is AT_EXIT: force overflow, destination and ROUTE to OVERFLOW, its place's inbound mark cleared (R96). -/
def State.rerouteAtExit (s : State) (l : LaneId) (r : PieceRecord) : State :=
  ((s.modRecord l r.number fun x => { x with forceOverflow := true, destination := some .overflow }).modExit l fun x =>
    { x with route := .overflow }).leavePlace r

/-- A record spoiled: its fold windows removed, its verdict SPOILED, and its reject window or its reroute (R79, R80). -/
def State.spoil (s : State) (l : LaneId) (n : RecordNo) : State :=
  match s.findRecord l n with
  | none => s
  | some r =>
    let s1 := (s.modSched l fun fl => fl.dropPiece n).setVerdict l n (.reject .spoiled)
    if r.phase = .atExit then s1.rerouteAtExit l r else s1.giveReject l n s.track.position

/-- The records of a lane that an OPEN fold window folds, in the order of the in-flight list (R79, R80). -/
def State.toSpoil (s : State) (l : LaneId) : List RecordNo :=
  ((s.lane l).inFlight.filter fun r => (s.lane l).sched.windows.any fun w => w.isOpen && w.folds r.number).map PieceRecord.number

/-- A list taken in the order that `choice` picks: at each turn, with n + 1 left, item `choice n` of those left, counted round. -/
def pickOrder {α : Type} (choice : Nat → Nat) : Nat → List α → List α
  | 0, _ => []
  | n + 1, xs => (xs.drop (choice n % xs.length)).take 1 ++ pickOrder choice n (xs.eraseIdx (choice n % xs.length))

/-- The lanes with records to spoil, in an order that the spec leaves open when there are several (R80; free value, log entry 7). -/
def State.spoilOrder (s : State) : List LaneId :=
  let ls := allLanes.filter fun l => !(s.toSpoil l).isEmpty
  if ls.length ≤ 1 then ls else pickOrder (Config.laneChoice s.freeCount) ls.length ls

/-- The stop notice, taken whole (R79, R80). -/
def State.stopNotice (s : State) : State :=
  s.spoilOrder.foldl (fun t l => (s.toSpoil l).foldl (fun t n => t.spoil l n) t) { s with freeCount := s.freeCount + 1 }

/-! ## WINDOW_OPEN (R76) -/

/-- A WAITING window of the output whose start is reached. -/
def Window.opensAt (w : Window) (o : Output) (now : Pos) : Bool :=
  decide (w.output = o ∧ w.state = .waiting) && reached now w.start

/-- The first such window of a list becomes OPEN. -/
def openFirst (o : Output) (now : Pos) : List Window → List Window
  | [] => []
  | w :: rest => if w.opensAt o now then { w with state := .opened } :: rest else w :: openFirst o now rest

/-- The line of an output at a level. -/
def FoldLane.drive (fl : FoldLane) (o : Output) (level : Bool) : FoldLane :=
  match o with
  | .fold f => { fl with folds := fl.folds.set f level }
  | .gate => { fl with gate := level }

/-- The window opens and its output is asserted (R76). -/
def State.openWindow (s : State) (l : LaneId) (o : Output) : State :=
  s.modSched l fun fl => { fl with windows := openFirst o s.track.position fl.windows }.drive o true

/-- A window of the output waits to open here. -/
def State.windowOpenDue (s : State) (l : LaneId) (o : Output) : Bool :=
  (s.lane l).sched.windows.any fun w => w.opensAt o s.track.position

/-- WINDOW_OPEN. -/
def execWindowOpen (l : LaneId) (o : Output) (s : State) : Result := event (s.windowOpenDue l o) (s.openWindow l o) s

/-! ## WINDOW_END (R77) -/

/-- A window of the output whose end is reached. -/
def Window.endsAt (w : Window) (o : Output) (now : Pos) : Bool := decide (w.output = o) && reached now w.stop

/-- The line of a removed window: an OPEN one releases its output, but GATE stays asserted while the gate hold is yes (R77). -/
def FoldLane.releaseAfter (fl : FoldLane) (w : Window) : FoldLane :=
  match w.state with
  | .waiting => fl
  | .opened =>
    match w.output with
    | .fold f => fl.drive (.fold f) false
    | .gate => fl.drive .gate fl.gateHold

/-- The first window of the output whose end is reached is removed, and its output released (R77). -/
def State.endWindow (s : State) (l : LaneId) (o : Output) : State :=
  match (s.lane l).sched.windows.find? fun w => w.endsAt o s.track.position with
  | some w =>
    s.modSched l fun fl => { fl with windows := fl.windows.eraseP fun w => w.endsAt o s.track.position }.releaseAfter w
  | none => s

/-- A window of the output ends here. -/
def State.windowEndDue (s : State) (l : LaneId) (o : Output) : Bool :=
  (s.lane l).sched.windows.any fun w => w.endsAt o s.track.position

/-- WINDOW_END. -/
def execWindowEnd (l : LaneId) (o : Output) (s : State) : Result := event (s.windowEndDue l o) (s.endWindow l o) s

end Sys2Proof.Machine
end

