-- ==== Sys2Proof/Machine/Tokens.lean ====
section
/-! DEFINITION. Token Intake (chapter 3): what becomes of a PIECE telegram's announcement (R28 to R33) and TOKEN_EXPIRY (R35). -/
namespace Sys2Proof.Machine

/-- What a usable PIECE telegram announces (chapter 3; R193). -/
structure Announcement where
  lane : LaneId
  serial : Word
  article : Nat
  marked : Bool
  deriving DecidableEq, Repr

/-- The announcement of a PIECE body of 5 bytes, unless its lane is above 3 or its article above 63 (R28, R193). -/
def announcementOf : List Byte → Option Announcement
  | [lane, high, low, article, flags] =>
    if h : lane.toNat < 4 then
      if article.toNat ≤ 63 then some ⟨⟨lane.toNat, h⟩, joinBytes high low, article.toNat, flags.getLsbD 0⟩ else none
    else none
  | _ => none

/-- The token an announcement becomes in an entry (R31). -/
def State.tokenFor (s : State) (a : Announcement) (e : EntryId) : Token where
  serial := a.serial
  article := a.article
  marked := a.marked
  entry := e
  mismatch := decide (a.article = 0 ∨ a.article ≠ s.entryArticle e)

/-- The token at the tail of the lane's queue, with its arrival and expiry positions (R30, R31). -/
def State.queueToken (s : State) (l : LaneId) (t : Token) : State :=
  s.modLane l fun L =>
    { L with
      tokens := L.tokens ++ [⟨t, s.track.position, s.track.position + posOf (s.tokenTravelLimit l)⟩] }

/-- Assigned to the entry (R31) and queued; a SUSPENDED lane turns SUSPENDING (R30). -/
def State.acceptToken (s : State) (a : Announcement) (e : EntryId) : State :=
  ((s.assign a.lane e).queueToken a.lane (s.tokenFor a e)).wakeSuspended a.lane

/-- Discarded, with UNPLANNED_TOKEN (R30). -/
def State.discardToken (s : State) (a : Announcement) : State := s.raise .unplannedToken (some a.lane)

/-- A DRY lane becomes RUNNING by a claim (R32). -/
def State.wakeDry (s : State) (l : LaneId) : State :=
  if (s.lane l).mode = .dry then s.setMode l .running else s

/-- A token on a lane with no ACTIVE entry: the cursor re-read claims and the token is assigned, or it is discarded (R32). -/
def State.rereadForToken (s : State) (a : Announcement) : State :=
  if s.canClaim a.lane then ((s.claim a.lane).wakeDry a.lane).acceptToken a (s.lane a.lane).cursor
  else (s.claim a.lane).discardToken a

/-- A token on a lane in RUNNING, DRY, WAIT, SUSPENDING or SUSPENDED (R30 to R32). -/
def State.takeToken (s : State) (a : Announcement) : State :=
  match s.activeEntry a.lane with
  | some e => s.acceptToken a e
  | none => s.rereadForToken a

/-- A token for a FAULTED lane: assigned and at once retired LOST, or discarded (R33). -/
def State.writeOffToken (s : State) (a : Announcement) : State :=
  match s.activeEntry a.lane with
  | some e => (s.assign a.lane e).loseToken a.lane (s.tokenFor a e)
  | none => s.discardToken a

/-- An announcement whose lane's queue has room, by the lane state (R30). -/
def State.intake (s : State) (a : Announcement) : State :=
  match (s.lane a.lane).mode with
  | .idle => s.discardToken a
  | .running => s.takeToken a
  | .dry => s.takeToken a
  | .wait => s.takeToken a
  | .suspending => s.takeToken a
  | .suspended => s.takeToken a
  | .faulted => s.writeOffToken a

/-- The lane's token queue holds 8 tokens (R29). -/
def State.tokensFull (s : State) (l : LaneId) : Bool := decide (Config.tokenQueueCap ≤ (s.lane l).tokens.length)

/-! ## TOKEN_EXPIRY (R35) -/

/-- The oldest token of the lane whose expiry position is reached. -/
def State.dueToken (s : State) (l : LaneId) : Option QueuedToken :=
  (s.lane l).tokens.find? fun q => reached s.track.position q.expiry

/-- That token is removed from the queue. -/
def State.removeExpired (s : State) (l : LaneId) : State :=
  s.modLane l fun L => { L with tokens := L.tokens.eraseP fun q => reached s.track.position q.expiry }

/-- It is retired LOST in its entry, and TOKEN_LOST is latched (R35). -/
def State.expireToken (s : State) (l : LaneId) : State :=
  match s.dueToken l with
  | some q => ((s.removeExpired l).loseToken l q.token).raise .tokenLost (some l)
  | none => s

/-- TOKEN_EXPIRY. -/
def execTokenExpiry (l : LaneId) (s : State) : Result := event (s.dueToken l).isSome (s.expireToken l) s

end Sys2Proof.Machine
end

