-- ==== Sys2Proof/Machine/Entry.lean ====
section
/-! DEFINITION. The Entry Sensor (chapter 2) and what its edges bring: the eye filter (R12, R13), the width maximum (R16), the spacing
monitor (R20 to R22), the leading edge with its record (R15, R50 to R53), the trailing edge with double, stray and verdict
(R17, R40 to R42, R54, R55), and the blocked check (R18). -/
namespace Sys2Proof.Machine

/-! ## The eye filter (R12, R87) -/

/-- A pending change that begins at the current position (R12). -/
def State.newChange (s : State) : PendingChange where
  start := s.track.position
  confirm := s.track.position + posOf s.eyeFilter

/-- The number of beams covered. -/
def beamCount (beams : BitVec 16) : Nat :=
  ([0, 1, 2, 3, 4, 5, 6, 7, 8, 9, 10, 11, 12, 13, 14, 15].filter beams.getLsbD).length

/-- The raw level differs from the accepted level and no change is pending: one begins (R12). A covering change begins to gather the
width maximum (R16). -/
def EntrySensor.begin (e : EntrySensor) (c : PendingChange) : EntrySensor :=
  { e with
    pendingChange := some c
    widthMax := if e.rawLevel = .covered then beamCount e.beams else e.widthMax }

/-- A discarded change leaves no trace; a discarded covering change returns the width maximum to 0 (R13, R16). A blocked check that
waited on it ends (R18). -/
def EntrySensor.discard (e : EntrySensor) : EntrySensor :=
  { e with
    pendingChange := none
    widthMax := if e.level = .clear then 0 else e.widthMax
    blockedWaits := false }

/-! ## ENTRY_EYE_CHANGE (R12, R13, R18) -/

/-- A raw change of the entry eye, already at its new raw level: a pending change begins, or the pending one is discarded, and a
blocked check that waited on it then reports EYE_BLOCKED. -/
def State.entryRawChanged (s : State) (l : LaneId) : State :=
  if (s.lane l).entry.rawLevel ≠ (s.lane l).entry.level then
    if (s.lane l).entry.pendingChange.isNone then s.modEntry l fun e => e.begin s.newChange else s
  else if (s.lane l).entry.pendingChange.isSome then
    if (s.lane l).entry.blockedWaits then (s.modEntry l EntrySensor.discard).reportFault l .eyeBlocked
    else s.modEntry l EntrySensor.discard
  else s

def State.setEntryRaw (s : State) (l : LaneId) (level : Level) : State := s.modEntry l fun e => { e with rawLevel := level }

/-- The raw level at the pin; while a reset is held only the level is kept (R27). -/
def State.entryEyeChange (s : State) (l : LaneId) (level : Level) : State :=
  if s.resetHeld then s.setEntryRaw l level else (s.setEntryRaw l level).entryRawChanged l

/-- ENTRY_EYE_CHANGE. -/
def execEntryEyeChange (l : LaneId) (level : Level) (s : State) : Result :=
  event (decide ((s.lane l).entry.rawLevel ≠ level)) (s.entryEyeChange l level) s

/-! ## WIDTH_BEAM_CHANGE (R16) -/

/-- Gathering goes on while a covering change is pending and while the accepted level is COVERED (R16). -/
def EntrySensor.gathers (e : EntrySensor) : Bool := decide (e.level = .covered) || e.pendingChange.isSome

/-- The beams at their new levels, and the width maximum raised to their count while it is gathered. -/
def EntrySensor.beamsChanged (e : EntrySensor) (beams : BitVec 16) : EntrySensor :=
  { e with
    beams := beams
    widthMax := if e.gathers && decide (e.widthMax < beamCount beams) then beamCount beams else e.widthMax }

/-- WIDTH_BEAM_CHANGE; while a reset is held nothing is pending and the level is CLEAR, so only the pins are kept. -/
def execWidthBeamChange (l : LaneId) (beams : BitVec 16) (s : State) : Result :=
  event (decide ((s.lane l).entry.beams ≠ beams)) (s.modEntry l fun e => e.beamsChanged beams) s

/-! ## The spacing monitor (R20 to R22) -/

/-- A gap is short from 0 to the minimum gap less 1; a negative gap is good (R20). -/
def gapShort (gap : Pos) (minimum : Nat) : Bool := !gap.msb && decide (gap.toNat < minimum)

/-- The counts after a gap (R21). -/
def EntrySensor.countGap (e : EntrySensor) (short : Bool) : EntrySensor :=
  if short then { e with shortCount := countUp e.shortCount, goodCount := 0 }
  else { e with goodCount := countUp e.goodCount, shortCount := 0 }

/-- The spacing state examined after the counts (R21, R22). -/
def EntrySensor.examineSpacing (e : EntrySensor) (lock unlock : Nat) : EntrySensor :=
  match e.spacing with
  | .normal => if unlock ≤ e.shortCount then { e with spacing := .crowded, shortCount := 0, goodCount := 0 } else e
  | .crowded => if lock ≤ e.goodCount then { e with spacing := .normal, shortCount := 0, goodCount := 0 } else e

/-- The gap of a leading edge, taken if the last trailing edge is present, also at the first one after a LANE START (R20; log entry 29). -/
def State.takeGap (s : State) (l : LaneId) (lead : Pos) : State :=
  match (s.lane l).entry.lastTrailing with
  | none => s
  | some t =>
    s.modEntry l fun e =>
      (e.countGap (gapShort (lead - t) (s.minimumGap l))).examineSpacing (s.crowdLock l) (s.crowdUnlock l)

/-! ## The leading edge (R15, R49 to R53) -/

/-- The article snapshot of a token at the leading edge: of a token with mismatch no whose article is valid (R52). -/
def State.snapshotFor (s : State) : Option Token → Option Snapshot
  | none => none
  | some t => if !t.mismatch && s.articleValid t.article then some (s.snapshotOf t.article) else none

/-- The head token of a lane's queue (R37). -/
def State.headToken (s : State) (l : LaneId) : Option Token := (s.lane l).tokens.head?.map QueuedToken.token

/-- A record allocated at a leading edge (R49). -/
def State.newRecord (s : State) (l : LaneId) (n : RecordNo) (lead : Pos) : PieceRecord where
  number := n
  lane := l
  tokens := (s.headToken l).toList
  snapshot := s.snapshotFor (s.headToken l)
  lead := lead
  expectedExit := lead + posOf (s.exitDistance l)
  length := none
  widthClass := none
  phase := .entering
  verdict := none
  forceOverflow := false
  retirePosition := none
  destination := none

/-- The head record of the free list, with the head token of the queue, at the tail of the lane's list; a SUSPENDED lane turns
SUSPENDING (R50, R53). -/
def State.appendRecord (s : State) (l : LaneId) (n : RecordNo) (lead : Pos) : State :=
  ({ s.modLane l fun L => { L with tokens := L.tokens.tail, inFlight := L.inFlight ++ [s.newRecord l n lead] } with
      free := s.free.tail }).wakeSuspended l

/-- A stray is counted and STRAY latched (R39). -/
def State.countStray (s : State) (l : LaneId) : State := (s.addLaneCounter l strayIndex 1).raise .stray (some l)

/-- A leading-edge event at the Piece Tracker (R50, R51). -/
def State.leadingEdge (s : State) (l : LaneId) (lead : Pos) : State :=
  match s.free with
  | [] => s.reportFault l .poolEmpty
  | n :: _ =>
    if (s.headToken l).isNone then (s.appendRecord l n lead).countStray l else s.appendRecord l n lead

/-- The open piece and its blocked target (R15). -/
def State.openPiece (s : State) (l : LaneId) (lead : Pos) : State :=
  s.modEntry l fun e =>
    { e with openPiece := some lead, blockedTarget := some (lead + posOf s.maxPieceLength + 1) }

/-- A leading edge of the sensor (R15): in IDLE and FAULTED it is not passed on. -/
def State.entryLeading (s : State) (l : LaneId) (lead : Pos) : State :=
  if (s.lane l).mode.passes then ((s.openPiece l lead).takeGap l lead).leadingEdge l lead else s

/-! ## The trailing edge (R17, R54) -/

/-- The head token of the lane's queue announces this article. -/
def State.headTokenIs (s : State) (l : LaneId) (article : Nat) : Bool :=
  match s.headToken l with
  | some h => decide (h.article = article)
  | none => false

/-- The double of R42: over the snapshot's maximum, at least twice its minimum, and the head token of the same article. -/
def State.isDouble (s : State) (l : LaneId) (r : PieceRecord) : Bool :=
  match r.tokens, r.snapshot with
  | [t], some sn => decide (sn.maxLength < r.lengthOf) && decide (2 * sn.minLength ≤ r.lengthOf) && s.headTokenIs l t.article
  | _, _ => false

/-- The head token taken as the second token of a double (R42). -/
def State.takeDouble (s : State) (l : LaneId) (r : PieceRecord) : State :=
  if s.isDouble l r then
    (s.modRecord l r.number fun x => { x with tokens := x.tokens ++ (s.headToken l).toList }).popToken l
  else s

/-- An article whose windows hold the measured size, with IDENT set (R41). -/
def State.identifies (s : State) (length width a : Nat) : Bool :=
  s.articleValid a && s.articleIdent a &&
  decide (s.articleWord a 2 ≤ length ∧ length ≤ s.articleWord a 3) &&
  decide (s.articleWord a 4 ≤ width ∧ width ≤ s.articleWord a 5)

/-- The candidates of a stray, codes 1 to 63 (R41). -/
def State.candidates (s : State) (length width : Nat) : List Nat :=
  (List.range' 1 63).filter (s.identifies length width)

/-- The snapshot of a stray at its trailing edge: of its one candidate under IDENTIFY_STRAYS, else none (R40, R41). -/
def State.straySnapshot (s : State) (length width : Nat) : Option Snapshot :=
  if s.identifyStrays then
    match s.candidates length width with
    | [a] => some (s.snapshotOf a)
    | _ => none
  else none

/-- Step 2 of R54: a record with no token may take a snapshot. -/
def State.tryStray (s : State) (l : LaneId) (r : PieceRecord) : State :=
  if r.tokens.isEmpty then
    s.modRecord l r.number fun x => { x with snapshot := s.straySnapshot r.lengthOf r.widthOf }
  else s

/-- The reject reasons that need a snapshot, in order (R55, orders 5 to 8). -/
def sizeReason (r : PieceRecord) (sn : Snapshot) : Option RejectReason :=
  if r.tokens.length = 2 then some .double
  else if r.lengthOf < sn.minLength then some .short
  else if sn.maxLength < r.lengthOf then some .long
  else if r.widthOf < sn.minWidth ∨ sn.maxWidth < r.widthOf then some .width
  else none

/-- The first reject reason that applies, in the order of R55. -/
def rejectReason (r : PieceRecord) : Option RejectReason :=
  match r.tokens, r.snapshot with
  | t :: _, snapshot =>
    if t.marked then some .marked
    else if t.mismatch then some .article
    else
      match snapshot with
      | none => some .noEntry
      | some sn => sizeReason r sn
  | [], none => some .stray
  | [], some sn => sizeReason r sn

/-- The verdict (R55). -/
def verdictOf (r : PieceRecord) : Verdict :=
  match rejectReason r with
  | some why => .reject why
  | none => if r.tokens.isEmpty then .acceptOverflow else .accept

/-- Step 4 of R54. -/
def State.judge (s : State) (l : LaneId) (n : RecordNo) : State :=
  s.modRecord l n fun r => { r with verdict := some (verdictOf r) }

/-- Step 1 of R54. -/
def State.measure (s : State) (l : LaneId) (n : RecordNo) (length width : Nat) : State :=
  s.modRecord l n fun r => { r with length := some length, widthClass := some width, phase := .travelling }

/-- The record as the lane's list now holds it, given to an operation. -/
def State.withRecord (s : State) (l : LaneId) (n : RecordNo) (f : State → PieceRecord → State) : State :=
  match s.findRecord l n with
  | some r => f s r
  | none => s

/-- The ENTERING record of a lane: the tail of its list (R54). -/
def State.enteringRecord (s : State) (l : LaneId) : Option RecordNo :=
  match (s.lane l).inFlight.getLast? with
  | some r => if r.phase = .entering then some r.number else none
  | none => none

/-- A trailing-edge event at the Piece Tracker, in the order of R54; `now` is the confirmation position. -/
def State.trailingEdge (s : State) (l : LaneId) (length width : Nat) (now : Pos) : State :=
  match s.enteringRecord l with
  | none => s
  | some n =>
    let s1 := s.measure l n length width
    let s2 := s1.withRecord l n fun t r => t.tryStray l r
    let s3 := s2.withRecord l n fun t r => t.takeDouble l r
    (s3.judge l n).scheduleRecord l n now

/-- A trailing edge of the sensor, with its edge position and the width class gathered (R17). The tail of a piece whose leading edge was not
passed on sets the last trailing edge too, so the next leading edge takes a gap from it; R24 says of the first leading edge after LANE START
that it takes none, and R23 of the first gap after CLEAR FAULT that it is measured from the edge before the fault (log entry 29). -/
def State.entryTrailing (s : State) (l : LaneId) (c : PendingChange) (width : Nat) : State :=
  if (s.lane l).mode.passes then
    match (s.lane l).entry.openPiece with
    | some lead =>
      (s.modEntry l fun e => { e with lastTrailing := some c.start, openPiece := none, blockedTarget := none }).trailingEdge l
        (c.start - lead).toNat width c.confirm
    | none => s.modEntry l fun e => { e with lastTrailing := some c.start }
  else s

/-! ## ENTRY_EYE_CONFIRM (R13) -/

/-- The accepted level takes the raw level. -/
def EntrySensor.accept (e : EntrySensor) : EntrySensor := { e with level := e.rawLevel, pendingChange := none }

/-- A trailing edge sets the width maximum to 0, and a blocked check that waited on it ends (R17, R18). -/
def EntrySensor.clearWidth (e : EntrySensor) : EntrySensor := { e with widthMax := 0, blockedWaits := false }

/-- The confirmed change: a leading edge to COVERED, a trailing edge to CLEAR (R13). -/
def State.confirmEntry (s : State) (l : LaneId) (c : PendingChange) : State :=
  match (s.lane l).entry.rawLevel with
  | .covered => (s.modEntry l EntrySensor.accept).entryLeading l c.start
  | .clear => (s.modEntry l fun e => e.accept.clearWidth).entryTrailing l c (s.lane l).entry.widthMax

/-- The pending change whose confirmation position is reached while the raw level still differs (R13). -/
def dueChange (now : Pos) (raw level : Level) (p : Option PendingChange) : Option PendingChange :=
  match p with
  | some c => if raw ≠ level ∧ reached now c.confirm = true then some c else none
  | none => none

def State.dueEntryChange (s : State) (l : LaneId) : Option PendingChange :=
  dueChange s.track.position (s.lane l).entry.rawLevel (s.lane l).entry.level (s.lane l).entry.pendingChange

def State.entryEyeConfirm (s : State) (l : LaneId) : State :=
  match s.dueEntryChange l with
  | some c => s.confirmEntry l c
  | none => s

/-- ENTRY_EYE_CONFIRM. -/
def execEntryEyeConfirm (l : LaneId) (s : State) : Result := event (s.dueEntryChange l).isSome (s.entryEyeConfirm l) s

/-! ## BLOCKED_TARGET_REACHED (R18) -/

/-- A target position that stands and is reached. -/
def targetReached (now : Pos) (target : Option Pos) : Bool :=
  match target with
  | some t => reached now t
  | none => false

/-- The blocked target is reached with the accepted level COVERED, and its check does not wait already. -/
def State.blockedDue (s : State) (l : LaneId) : Bool :=
  targetReached s.track.position (s.lane l).entry.blockedTarget && decide ((s.lane l).entry.level = .covered) &&
  !(s.lane l).entry.blockedWaits

/-- The check waits on a pending uncovering change; otherwise EYE_BLOCKED is reported (R18). -/
def State.blockedTargetReached (s : State) (l : LaneId) : State :=
  if (s.lane l).entry.pendingChange.isSome then s.modEntry l fun e => { e with blockedWaits := true }
  else s.reportFault l .eyeBlocked

/-- BLOCKED_TARGET_REACHED. -/
def execBlockedTargetReached (l : LaneId) (s : State) : Result := event (s.blockedDue l) (s.blockedTargetReached l) s

end Sys2Proof.Machine
end

