-- ==== Sys2Proof/Machine/Exit.lean ====
section
/-! DEFINITION. The Exit Unit (chapter 6, sections 6.1 and 6.2): the exit eye filter (R87), the candidate (R89), matched and phantom
arrivals (R90, R92), the exit trailing edge (R94), and the missing and blocked checks (R91, R93). -/
namespace Sys2Proof.Machine

/-! ## EXIT_EYE_CHANGE (R87, R91, R93) -/

def ExitUnit.begin (x : ExitUnit) (c : PendingChange) : ExitUnit := { x with pendingChange := some c }

/-- A discarded change leaves no trace; a check that waited on it ends. -/
def ExitUnit.discard (x : ExitUnit) : ExitUnit := { x with pendingChange := none, blockedWaits := false, missingWaits := false }

/-- A raw change of the exit eye, already at its new raw level: a pending change begins, or the pending one is discarded, and a
missing or blocked check that waited on it then reports JAM. -/
def State.exitRawChanged (s : State) (l : LaneId) : State :=
  if (s.lane l).exit.rawLevel ≠ (s.lane l).exit.level then
    if (s.lane l).exit.pendingChange.isNone then s.modExit l fun x => x.begin s.newChange else s
  else if (s.lane l).exit.pendingChange.isSome then
    if (s.lane l).exit.blockedWaits || (s.lane l).exit.missingWaits then (s.modExit l ExitUnit.discard).reportFault l .jam
    else s.modExit l ExitUnit.discard
  else s

def State.setExitRaw (s : State) (l : LaneId) (level : Level) : State := s.modExit l fun x => { x with rawLevel := level }

/-- The raw level at the pin; while a reset is held only the level is kept (R109). -/
def State.exitEyeChange (s : State) (l : LaneId) (level : Level) : State :=
  if s.resetHeld then s.setExitRaw l level else (s.setExitRaw l level).exitRawChanged l

/-- EXIT_EYE_CHANGE. -/
def execExitEyeChange (l : LaneId) (level : Level) (s : State) : Result :=
  event (decide ((s.lane l).exit.rawLevel ≠ level)) (s.exitEyeChange l level) s

/-! ## The candidate (R89) -/

/-- The oldest record of the lane's list that is not gated and not AT_EXIT. -/
def State.candidate (s : State) (l : LaneId) : Option PieceRecord :=
  (s.lane l).inFlight.find? fun r => !r.gated && decide (r.phase ≠ .atExit)

/-- The edge position lies in the record's window, both ends included (R90). -/
def inExitWindow (p expected : Pos) (window : Nat) : Bool :=
  !before p (expected - posOf window) && !before (expected + posOf window) p

/-- The candidate, when the edge position matches it: in phase TRAVELLING and within the window (R90; log entry 15). -/
def State.matching (s : State) (l : LaneId) (p : Pos) : Option PieceRecord :=
  match s.candidate l with
  | some r => if r.phase = .travelling ∧ inExitWindow p r.expectedExit (s.exitWindow l) = true then some r else none
  | none => none

/-! ## The exit leading edge (R90, R92) -/

/-- The destination set in the record and on ROUTE, and the exit blocked target (R90). -/
def State.setDestination (s : State) (l : LaneId) (n : RecordNo) (d : Destination) (target : Pos) : State :=
  (s.modRecord l n fun r => { r with destination := some d }).modExit l fun x => { x with route := d, blockedTarget := some target }

/-- The matched record is AT_EXIT and the arrival MATCHED with it (R90). -/
def State.markMatched (s : State) (l : LaneId) (n : RecordNo) : State :=
  (s.modRecord l n fun r => { r with phase := .atExit }).modExit l fun x => { x with arrival := .matched n }

/-- A matched arrival: the record AT_EXIT, its destination asked for and set (R90). -/
def State.matchArrival (s : State) (l : LaneId) (r : PieceRecord) (p : Pos) : State :=
  let asked := (s.markMatched l r.number).destinationFor l r
  asked.1.setDestination l r.number asked.2 (p + posOf r.lengthOf + posOf (s.exitWindow l) + 1)

/-- A phantom arrival (R92). -/
def State.phantomArrival (s : State) (l : LaneId) (p : Pos) : State :=
  ((s.addLaneCounter l phantomIndex 1).raise .phantom (some l)).modExit l fun x =>
    { x with arrival := .phantom, blockedTarget := some (p + posOf s.maxPieceLength + posOf (s.exitWindow l) + 1) }

/-- An exit leading edge in a lane that passes edges on; a missing check that waited on it reports JAM after a phantom (R90, R91). -/
def State.exitLeading (s : State) (l : LaneId) (p : Pos) (missingWaited : Bool) : State :=
  match s.matching l p with
  | some r => s.matchArrival l r p
  | none => if missingWaited then (s.phantomArrival l p).reportFault l .jam else s.phantomArrival l p

/-! ## The exit trailing edge (R94) -/

/-- The outcome of a record that has passed the exit eye (R94). -/
def exitOutcome (r : PieceRecord) : Retirement :=
  match r.destination with
  | some (.place _) => .delivered
  | _ => if r.forceOverflow then .rejected else .overflowed

/-- A delivery is first counted into its place (R94, R102). -/
def State.countIfDelivered (s : State) (r : PieceRecord) : State :=
  match r.destination with
  | some (.place p) => s.countDelivery p r.tokens.head?
  | _ => s

/-- The arrival and its blocked target become absent, and ROUTE returns to OVERFLOW (R94, R95). -/
def State.clearArrival (s : State) (l : LaneId) : State :=
  s.modExit l fun x => { x with arrival := .absent, blockedTarget := none, route := .overflow }

/-- The record that a matched arrival names, counted and retired. -/
def State.passExit (s : State) (l : LaneId) (n : RecordNo) : State :=
  match s.findRecord l n with
  | some r => (s.countIfDelivered r).retire l n (exitOutcome r)
  | none => s

/-- An exit trailing edge in a lane that passes edges on (R92, R94). A phantom does not move ROUTE, which rests at OVERFLOW (R95). -/
def State.exitTrailing (s : State) (l : LaneId) : State :=
  match (s.lane l).exit.arrival with
  | .matched n => (s.passExit l n).clearArrival l
  | .phantom => s.modExit l fun x => { x with arrival := .absent, blockedTarget := none }
  | .absent => s

/-! ## EXIT_EYE_CONFIRM (R87, R88) -/

/-- The accepted level takes the raw level, and the checks that waited on the change end (R91, R93). -/
def ExitUnit.accept (x : ExitUnit) : ExitUnit :=
  { x with level := x.rawLevel, pendingChange := none, blockedWaits := false, missingWaits := false }

/-- The confirmed change; in IDLE and FAULTED no arrival is matched, counted or checked (R88). -/
def State.confirmExit (s : State) (l : LaneId) (c : PendingChange) : State :=
  let s1 := s.modExit l ExitUnit.accept
  if (s.lane l).mode.passes then
    match (s.lane l).exit.rawLevel with
    | .covered => s1.exitLeading l c.start (s.lane l).exit.missingWaits
    | .clear => s1.exitTrailing l
  else s1

def State.dueExitChange (s : State) (l : LaneId) : Option PendingChange :=
  dueChange s.track.position (s.lane l).exit.rawLevel (s.lane l).exit.level (s.lane l).exit.pendingChange

def State.exitEyeConfirm (s : State) (l : LaneId) : State :=
  match s.dueExitChange l with
  | some c => s.confirmExit l c
  | none => s

/-- EXIT_EYE_CONFIRM. -/
def execExitEyeConfirm (l : LaneId) (s : State) : Result := event (s.dueExitChange l).isSome (s.exitEyeConfirm l) s

/-! ## MISSING_TARGET_REACHED (R91) -/

/-- The missing target of a candidate: its expected exit plus the exit window plus 1. -/
def State.missingTarget (s : State) (l : LaneId) (r : PieceRecord) : Pos := r.expectedExit + posOf (s.exitWindow l) + 1

/-- The candidate's missing target is reached on a lane that passes edges on, and its check does not wait already (R88, R91). -/
def State.missingDue (s : State) (l : LaneId) : Bool :=
  (s.lane l).mode.passes && !(s.lane l).exit.missingWaits &&
  targetReached s.track.position ((s.candidate l).map (s.missingTarget l))

/-- A covering change is pending on the exit eye (R91). -/
def ExitUnit.coveringPending (x : ExitUnit) : Bool := decide (x.level = .clear) && x.pendingChange.isSome

/-- The check waits on a pending covering change; otherwise JAM is reported (R91). -/
def State.missingTargetReached (s : State) (l : LaneId) : State :=
  if (s.lane l).exit.coveringPending then s.modExit l fun x => { x with missingWaits := true } else s.reportFault l .jam

/-- MISSING_TARGET_REACHED. -/
def execMissingTargetReached (l : LaneId) (s : State) : Result := event (s.missingDue l) (s.missingTargetReached l) s

/-! ## EXIT_BLOCKED_TARGET_REACHED (R93) -/

/-- The exit blocked target is reached with the accepted level COVERED, and its check does not wait already. -/
def State.exitBlockedDue (s : State) (l : LaneId) : Bool :=
  targetReached s.track.position (s.lane l).exit.blockedTarget && decide ((s.lane l).exit.level = .covered) &&
  !(s.lane l).exit.blockedWaits

/-- The check waits on a pending uncovering change; otherwise JAM is reported (R93). -/
def State.exitBlockedTargetReached (s : State) (l : LaneId) : State :=
  if (s.lane l).exit.pendingChange.isSome then s.modExit l fun x => { x with blockedWaits := true } else s.reportFault l .jam

/-- EXIT_BLOCKED_TARGET_REACHED. -/
def execExitBlockedTargetReached (l : LaneId) (s : State) : Result := event (s.exitBlockedDue l) (s.exitBlockedTargetReached l) s

end Sys2Proof.Machine
end

