-- ==== Sys2Proof/Machine/Outfeed.lean ====
section
/-! DEFINITION. The Discharge Unit (chapter 7): DISCHARGE_START (R113), the outfeed eye (R116), completion (R117), timeout (R118) and
the release of a stalled outfeed (R120). PUSH and OUTFEED_RUN follow at the end of each event (Flags.lean). -/
namespace Sys2Proof.Machine

/-- DISCHARGE_START: the three conditions of R112 hold, and the discharge starts by R113 (log entry 8). -/
def execDischargeStart (s : State) : Result := event s.canDischarge s.startDischarge s

/-! ## OUTFEED_EYE_CHANGE (R116) -/

/-- The eye at a new raw level: a pending change begins when it differs from the accepted level, and is discarded when it does not. -/
def Discharge.rawChanged (d : Discharge) (level : Level) : Discharge :=
  { d with rawLevel := level, changePending := decide (level ≠ d.level) }

/-- The raw level at the pin; changes while RESET_N is held low are not seen, only the level is kept (R122). -/
def State.outfeedEyeChange (s : State) (level : Level) : State :=
  if s.resetHeld then { s with discharge := { s.discharge with rawLevel := level } }
  else { s with discharge := s.discharge.rawChanged level }

/-- OUTFEED_EYE_CHANGE. -/
def execOutfeedEyeChange (level : Level) (s : State) : Result :=
  event (decide (s.discharge.rawLevel ≠ level)) (s.outfeedEyeChange level) s

/-! ## OUTFEED_EYE_CONFIRM (R116, R117) -/

/-- The accepted level takes the raw level. -/
def Discharge.accept (d : Discharge) : Discharge := { d with level := d.rawLevel, changePending := false }

/-- The outfeed IDLE with no current place, its timer stopped and seen covered no (R117, R120). -/
def Discharge.toIdle (d : Discharge) : Discharge := { d with outfeed := .idle, current := none, timer := none, seenCovered := false }

/-- The current place becomes FREE and the outfeed IDLE (R117 steps 1 to 3 and 5, R120 steps 1 to 3). -/
def State.freeCurrent (s : State) : State :=
  match s.discharge.current with
  | some p => { s with discharge := s.discharge.toIdle }.freePlace p
  | none => { s with discharge := s.discharge.toIdle }

/-- The discharge completes, its stack is counted, and the next one starts if it can (R117). -/
def State.completeDischarge (s : State) : State := (s.freeCurrent.addStationCounter stacksDischargedOffset).tryDischarge

/-- The effect of a confirmed change, the accepted level already at `level` (R116): only in MOVING does it act on a discharge. -/
def State.outfeedConfirmed (s : State) (level : Level) : State :=
  if s.discharge.outfeed = .moving then
    match level with
    | .covered => { s with discharge := { s.discharge with seenCovered := true } }
    | .clear => if s.discharge.seenCovered then s.completeDischarge else s
  else s

/-- The pending change is confirmed. -/
def State.outfeedEyeConfirm (s : State) : State :=
  { s with discharge := s.discharge.accept }.outfeedConfirmed s.discharge.rawLevel

/-- A change is pending and the raw level still differs. -/
def Discharge.confirmDue (d : Discharge) : Bool := d.changePending && decide (d.rawLevel ≠ d.level)

/-- OUTFEED_EYE_CONFIRM: the sender says that 2 ms have passed (log entry 6). -/
def execOutfeedEyeConfirm (s : State) : Result := event s.discharge.confirmDue s.outfeedEyeConfirm s

/-! ## OUTFEED_TIMEOUT (R118) -/

/-- The place BLOCKED with all its fields, the outfeed STALLED, and the FAULT report (R118). -/
def State.timeOutPlace (s : State) (p : PlaceId) : State :=
  ({ s.modPlace p fun pl => { pl with state := .blocked } with
      discharge := { s.discharge with outfeed := .stalled, timer := none, seenCovered := false } }).produce (.outfeedTimeout p)

/-- The discharge of the current place times out. -/
def State.outfeedTimeout (s : State) : State :=
  match s.discharge.current with
  | some p => s.timeOutPlace p
  | none => s

/-- The timer runs, with a place on the moving outfeed. -/
def Discharge.timeoutDue (d : Discharge) : Bool :=
  decide (d.outfeed = .moving) && d.timer.isSome && d.current.isSome

/-- OUTFEED_TIMEOUT: the sender says that the timer has run out (log entry 6). -/
def execOutfeedTimeout (s : State) : Result := event s.discharge.timeoutDue s.outfeedTimeout s

/-! ## RELEASE OUTFEED (R120) -/

/-- The BLOCKED place becomes FREE, the outfeed IDLE, and the head of the queue starts if it can. -/
def State.releaseOutfeed (s : State) : State := s.freeCurrent.tryDischarge

end Sys2Proof.Machine
end

