-- ==== Sys2Proof/Machine/Reset.lean ====
section
/-! DEFINITION. The resets: POWER_ON (R191), WARM_RESET (R192) with what it writes off first (R46, R63, R140), and the end of a reset
(R173, R175, R26, R109, R122). Input pins keep their levels; while a reset is held `resetHeld` is true (log entry 2). -/
namespace Sys2Proof.Machine

/-! ## What a warm reset writes off -/

/-- The tokens of a record are added to the lost counts of their entries; no entry drains (R63, R140). -/
def State.loseTokens (s : State) (ts : List Token) : State := ts.foldl (fun s t => s.bumpEntry t.entry Retirement.lost.entryIndex) s

/-- The records of a lane retired LOST, head first, to the tail of the free list (R63). -/
def State.loseRecords (s : State) (l : LaneId) : State :=
  (s.lane l).inFlight.foldl (fun s r => { s.loseTokens r.tokens with free := s.free ++ [r.number] }) s

/-- The queued tokens of a lane retired LOST, oldest first (R46). -/
def State.loseQueue (s : State) (l : LaneId) : State := s.loseTokens ((s.lane l).tokens.map QueuedToken.token)

/-- Records, then tokens, then the open entries written back ABORTED, each lane 0 first (R63, R46, R140). -/
def State.writeOff (s : State) : State :=
  let s1 := allLanes.foldl State.loseRecords s
  let s2 := allLanes.foldl State.loseQueue s1
  allLanes.foldl State.abortAtReset s2

/-! ## The reset values -/

/-- A lane at its reset values, with its input pins as they stand. -/
def Lane.toReset (L : Lane) : Lane := Lane.reset L.entry.rawLevel L.entry.beams L.exit.rawLevel

/-- Every block but table memory, the free list and the stack serial counter at its reset values, with a reset held (R11, R27, R46, R85,
R109, R110, R122, R144, R162, R175, R192). The station address stands until the reset ends (R173; log entry 23). -/
def State.toReset (s : State) : State :=
  { s.mapLanes Lane.toReset with
    track := Track.reset
    places := Vector.replicate 8 Place.reset
    discharge := Discharge.reset s.discharge.rawLevel
    ring := Ring.reset s.ring.address s.ring.straps s.ring.readyIn
    tables := Tables.reset
    resetHeld := true }

/-- Page 7 cleared, after the losses have been counted (R192). -/
def State.clearCounterPage (s : State) : State := { s with mem := s.mem.clearPage 7 }

/-- The warm reset (R192); table memory is kept but for the aborted entries and page 7. -/
def State.warmReset (s : State) : State := s.writeOff.clearCounterPage.toReset

/-- The power-on values: table memory, the free list and the stack serial counter as well (R191, R63, R110). -/
def State.powerOnReset (s : State) : State := { s.toReset with mem := [], free := freeAtPowerOn, stackSerial := 0 }

/-! ## The end of a reset -/

/-- A covered eye begins a covering change at the moment the reset ends (R26, R109). -/
def Lane.eyesAtResetEnd (L : Lane) (c : PendingChange) : Lane :=
  { L with
    entry := if L.entry.rawLevel ≠ L.entry.level then L.entry.begin c else L.entry
    exit := if L.exit.rawLevel ≠ L.exit.level then L.exit.begin c else L.exit }

/-- The reset ends: the straps are read, every eye is compared with its accepted level (R173, R26, R109, R122). -/
def State.endReset (s : State) (straps : BitVec 5) : State :=
  { s.mapLanes fun L => L.eyesAtResetEnd s.newChange with
    discharge := { s.discharge with changePending := decide (s.discharge.rawLevel ≠ s.discharge.level) }
    ring := { s.ring with address := straps, straps := straps }
    resetHeld := false }

/-! ## The rows -/

/-- POWER_ON. -/
def execPowerOn (s : State) : Result := event true s.powerOnReset s

/-- WARM_RESET: RESET_N goes low. -/
def execWarmReset (s : State) : Result := event true s.warmReset s

/-- RESET_END, of any reset, with the straps as they stand at its end (R173, R175). -/
def execResetEnd (straps : BitVec 5) (s : State) : Result := event s.resetHeld (s.endReset straps) s

end Sys2Proof.Machine
end

