-- ==== Sys2Proof/Machine/Ring.lean ====
section
/-! DEFINITION. The Ring Port (chapter 10): RECEIVE_START (R163, R168), TELEGRAM_RECEIVED with its checks and classification (R163 to
R167, R173), SEND_START with the arbiter (R171), and TELEGRAM_SENT (R172). -/
namespace Sys2Proof.Machine

def State.countCrcError (s : State) : State := s.addStationCounter crcErrorOffset

def State.setReceive (s : State) (r : Receive) : State := { s with ring := { s.ring with receive := r } }

/-! ## RECEIVE_START (R163, R168) -/

/-- A telegram in hand is discarded and counted, its slot given up (R163; log entry 14). -/
def State.cutReceive (s : State) : State :=
  match s.ring.receive with
  | .none => s
  | .withSlot => (s.setReceive .none).countCrcError
  | .withoutSlot => (s.setReceive .none).countCrcError

/-- A receive is in hand: with a slot of the forward queue when RING_RDY_OUT stands asserted, and else without one (R163, R168). -/
def State.takeSlot (s : State) : State := s.setReceive (if s.readyOutRule then .withSlot else .withoutSlot)

/-- RECEIVE_START; while a reset is held RING_RDY_OUT is deasserted, so the telegram will be discarded (R163, R175; log entry 18). -/
def execReceiveStart (s : State) : Result := event true s.cutReceive.takeSlot s

/-! ## Forwarding and bouncing (R164, R167) -/

/-- Appended unchanged to the tail of the forward queue. -/
def State.forward (s : State) (t : Telegram) (ordersReset : Bool) : State :=
  { s with ring := { s.ring with forwardQueue := s.ring.forwardQueue ++ [⟨t, ordersReset⟩] } }

/-- BOUNCED set and the CRC computed again. -/
def bouncedTelegram (t : Telegram) : Telegram := withCrc { t with flags := t.flags ||| 0x01#8 }

/-- R167. -/
def State.bounce (s : State) (t : Telegram) : State := (s.addStationCounter bouncedOffset).forward (bouncedTelegram t) false

/-! ## A telegram for this station (R165, R28, R29) -/

def State.badTelegram (s : State) : State := s.raise .badTelegram none

/-- A usable PIECE telegram: bounced while its lane's queue is full, else taken (R29, R30). -/
def State.takeAnnouncement (s : State) (t : Telegram) (a : Announcement) : State :=
  if s.tokensFull a.lane then s.bounce t else s.intake a

/-- A PIECE telegram; a wrong length, lane or article is BAD_TELEGRAM (R28, R165). -/
def State.takePiece (s : State) (t : Telegram) : State :=
  match announcementOf t.body with
  | some a => s.takeAnnouncement t a
  | none => s.badTelegram

/-- A REQUEST telegram: queued, or bounced while the request queue holds 4 (R165, R169). -/
def State.queueRequest (s : State) (t : Telegram) : State :=
  if s.ring.requestQueue.length < Config.requestCap then
    { s with ring := { s.ring with requestQueue := s.ring.requestQueue ++ [t] } }
  else s.bounce t

/-- R165. -/
def State.handleTelegram (s : State) (t : Telegram) : State :=
  if isBounced t then s.badTelegram
  else if t.kind = Kind.piece.code then s.takePiece t
  else if t.kind = Kind.request.code then s.queueRequest t
  else s.badTelegram

/-! ## A broadcast (R166) -/

/-- The broadcast-capable request that a telegram carries, if it carries one. -/
def broadcastRequest (t : Telegram) : Option Request :=
  if t.kind = Kind.request.code ∧ isBounced t = false then
    match Request.ofCode (codeByte t.body) with
    | some .laneSuspend => some .laneSuspend
    | some .laneResume => some .laneResume
    | some .stationReset => some .stationReset
    | _ => none
  else none

/-- LANE SUSPEND or LANE RESUME carried out with no response (R154, R166). -/
def State.broadcastLanes (s : State) (act : LaneAct) (body : List Byte) : State := (s.onLaneValue act (param (body.drop 3) 0)).1

/-- The request carried out; the forwarded copy of a STATION RESET orders the warm reset when it has left. -/
def State.carryBroadcast (s : State) (t : Telegram) (r : Request) : State :=
  match r with
  | .laneSuspend => (s.forward t false).broadcastLanes State.suspendLane t.body
  | .laneResume => (s.forward t false).broadcastLanes State.resumeLane t.body
  | _ => s.forward t true

/-- R166: forwarded, and taken when it is a broadcast-capable request of the right length. -/
def State.takeBroadcast (s : State) (t : Telegram) : State :=
  match broadcastRequest t with
  | some r => if r.lengthFits t.body then s.carryBroadcast t r else (s.forward t false).badTelegram
  | none => s.forward t false

/-! ## TELEGRAM_RECEIVED (R163, R164, R173) -/

/-- A station address of 0 or 31 makes a repeater (R173). -/
def Ring.isRepeater (r : Ring) : Bool := decide (r.address = 0#5 ∨ r.address = 31#5)

/-- R164; a repeater forwards everything (R173). A telegram whose source is above 31 is forwarded as well: R193 sends it by the fourth case,
where the cases of R164 in order and R165 would handle one for this station or a broadcast. One that this station sent is removed by the
first case, also with a destination above 31, which R193 sends by the fourth (both are the model's choice, log entry 28). -/
def State.classify (s : State) (t : Telegram) : State :=
  if s.ring.isRepeater then s.forward t false
  else if 31 < t.src.toNat then s.forward t false
  else if t.src = addressByte s.ring.address then s
  else if t.dest = addressByte s.ring.address then s.handleTelegram t
  else if t.dest = 0x1F#8 then s.takeBroadcast t
  else s.forward t false

/-- The checks of R163: the body length, and the CRC. -/
def passesChecks (t : Telegram) : Bool :=
  decide (t.body.length ≤ Config.maxBody) && decide (t.crc = crcOf (checkedBytes t))

/-- The telegram in hand has arrived: one that holds a slot and passes the checks is classified, any other discarded and counted. -/
def State.endReceive (s : State) (t : Telegram) : State :=
  if decide (s.ring.receive = .withSlot) && passesChecks t then (s.setReceive .none).classify t
  else (s.setReceive .none).countCrcError

/-- TELEGRAM_RECEIVED. -/
def execTelegramReceived (t : Telegram) (s : State) : Result :=
  event (decide (s.ring.receive ≠ .none)) (s.endReceive t) s

/-! ## SEND_START (R171) -/

/-- The response buffer holds a telegram or the report queue is not empty. -/
def Ring.ownWaits (r : Ring) : Bool := r.response.isSome || !r.reportQueue.isEmpty

/-- The response goes before the reports. -/
def Ring.sendOwn (r : Ring) : Ring :=
  { r with sending := some (if r.response.isSome then .response else .report), run := 0 }

/-- The table of R171. -/
def Ring.choose (r : Ring) : Ring :=
  if r.forwardQueue.isEmpty then (if r.ownWaits then r.sendOwn else r)
  else if r.ownWaits then
    (if r.run < 3 then { r with sending := some .forwarded, run := r.run + 1 } else r.sendOwn)
  else { r with sending := some .forwarded, run := 0 }

/-- RING_RDY_IN at a level; the arbiter chooses when no send is in hand and it is asserted. -/
def Ring.sendStart (r : Ring) (ready : Bool) : Ring :=
  if r.sending.isNone && ready then { r with readyIn := ready }.choose else { r with readyIn := ready }

/-- SEND_START; while a reset is held there is nothing to send (log entry 21). -/
def execSendStart (ready : Bool) (s : State) : Result := event true { s with ring := s.ring.sendStart ready } s

/-! ## TELEGRAM_SENT (R172) -/

/-- The head of the forward queue leaves, and no send is in hand. -/
def State.popForward (s : State) : State :=
  { s with ring := { s.ring with sending := none, forwardQueue := s.ring.forwardQueue.tail } }

/-- The response leaves its buffer, and no send is in hand. -/
def State.popResponse (s : State) : State := { s with ring := { s.ring with sending := none, response := none } }

/-- The head of the report queue leaves, and no send is in hand. -/
def State.popReport (s : State) : State :=
  { s with ring := { s.ring with sending := none, reportQueue := s.ring.reportQueue.tail } }

/-- The telegram that leaves orders a warm reset (R166, R190). -/
def Ring.sentOrders (r : Ring) : SendSource → Bool
  | .forwarded => (r.forwardQueue.head?.map Forwarded.ordersReset).getD false
  | .response => (r.response.map Response.ordersReset).getD false
  | .report => false

/-- The sender has put DISCHARGE_START into the queue. -/
def State.startOrdered (s : State) : Bool := decide (Instr.dischargeStart ∈ s.pending)

/-- A report's slot frees, and the start conditions are examined: in this event, or, when the sender has ordered DISCHARGE_START, by that
row, so that a report of an event before it may take the slot first (R112, R114, R170; log entry 8). -/
def State.freeReportSlot (s : State) : State := if s.startOrdered then s.popReport else s.popReport.tryDischarge

/-- The telegram leaves its queue or buffer. -/
def State.leavePort (s : State) : SendSource → State
  | .forwarded => s.popForward
  | .response => s.popResponse
  | .report => s.freeReportSlot

/-- The telegram in hand has left the port, with the effects that wait on it (R172). A warm reset that it ordered begins, and lasts until
RESET_END, which brings the straps (R173; log entry 9). -/
def State.telegramSent (s : State) : State :=
  match s.ring.sending with
  | some src => if s.ring.sentOrders src then (s.leavePort src).warmReset else s.leavePort src
  | none => s

/-- TELEGRAM_SENT. -/
def execTelegramSent (s : State) : Result := event s.ring.sending.isSome s.telegramSent s

end Sys2Proof.Machine
end

