-- ==== Sys2Proof/Machine/Track.lean ====
section
/-! DEFINITION. The Track Monitor (chapter 1): the encoder pulse (R1), the motion sample close (R3 to R5), the presented state and its
transitions (R6, R7), and a change of the motion mode (R8). -/
namespace Sys2Proof.Machine

/-! ## ENCODER_PULSE (R1) -/

/-- The position adds 1 and wraps, and the sample is marked as having seen a pulse (R1). -/
def Track.pulse (t : Track) : Track := { t with position := t.position + 1, pulseSeen := true }

/-- ENCODER_PULSE; a pulse while RESET_N is held low is not counted (R11). -/
def execEncoderPulse (s : State) : Result := event (!s.resetHeld) { s with track := s.track.pulse } s

/-! ## The presented state (R6, R7) -/

/-- R6. -/
def presentedBy : MotionMode → Motion → Motion
  | .auto, computed => computed
  | .forceRunning, _ => .running
  | .forceStopped, _ => .stopped

/-- The Track Monitor with its presented state fixed by its mode (R6). -/
def Track.present (t : Track) : Track := { t with presented := presentedBy t.mode t.computed }

/-- The Track Monitor brought to `t` with its presented state fixed by its mode; a transition from RUNNING to STOPPED sends one stop
notice (R7). -/
def State.presentTrack (s : State) (t : Track) : State :=
  let s1 : State := { s with track := t.present }
  if s.track.presented = .running ∧ t.present.presented = .stopped then s1.stopNotice else s1

/-! ## MOTION_SAMPLE_CLOSE (R3 to R5) -/

/-- The counts at a sample's close, with pulse seen back to no (R3, R4). -/
def Track.countSample (t : Track) : Track :=
  if t.pulseSeen then { t with pulseSeen := false, movingCount := countUp t.movingCount, stillCount := 0 }
  else { t with pulseSeen := false, stillCount := countUp t.stillCount, movingCount := 0 }

/-- The computed state examined after the counts (R4, R5). -/
def Track.examine (t : Track) (lock unlock : Nat) : Track :=
  match t.computed with
  | .stopped => if lock ≤ t.movingCount then { t with computed := .running, movingCount := 0, stillCount := 0 } else t
  | .running => if unlock ≤ t.stillCount then { t with computed := .stopped, movingCount := 0, stillCount := 0 } else t

/-- The close of a sample. -/
def State.closeSample (s : State) : State :=
  s.presentTrack (s.track.countSample.examine s.motionLock s.motionUnlock)

/-- MOTION_SAMPLE_CLOSE; samples are counted from the end of a reset (R3), so none closes while one is held. -/
def execMotionSampleClose (s : State) : Result := event (!s.resetHeld) s.closeSample s

/-! ## The motion mode (R8) -/

/-- The mode set, and the presented state fixed by it, with the stop notice of R7 if it falls to STOPPED. -/
def State.setMotionMode (s : State) (m : MotionMode) : State := s.presentTrack { s.track with mode := m }

end Sys2Proof.Machine
end

