-- ==== Sys2Proof/Machine/TableRequests.lean ====
section
/-! DEFINITION. The requests of the Table Store and the station (chapter 11; R8, R107, R120): the pointer and the write rights (R178,
R179), what a table access reads (R186, R197), and the rows IDENTIFY to STATION_RESET, CLOSE_PLACE and RELEASE_OUTFEED. -/
namespace Sys2Proof.Machine

/-! ## The pointer (R178) -/

/-- One word on, offset 1023 going to offset 0 of the same page. -/
def Pointer.advance (p : Pointer) : Pointer := { p with offset := p.offset + 1 }

def State.setPointer (s : State) (p : Pointer) : State := { s with tables := { s.tables with pointer := p } }

def State.advancePointer (s : State) : State := s.setPointer s.tables.pointer.advance

/-! ## Write rights (R179, R141) -/

/-- All four lanes are IDLE. -/
def State.allIdle (s : State) : Bool := allLanes.all fun l => decide ((s.lane l).mode = .idle)

/-- Page 1: a word of a lane's row (words 0 to 16) is written while the lane is IDLE or SUSPENDED, any other always. -/
def State.rowWritable (s : State) (offset : Nat) : Bool :=
  if h : offset / 32 < 4 then
    decide (16 < offset % 32) || decide ((s.lane ⟨offset / 32, h⟩).mode = .idle ∨ (s.lane ⟨offset / 32, h⟩).mode = .suspended)
  else true

/-- Page 4: R141 refuses a word of a claimed entry, and a status word that carries a claimed status. -/
def State.ringWritable (s : State) (offset : Nat) (w : Word) : Bool :=
  if h : offset / 12 < 64 then
    !isClaimed (s.entryStatus ⟨offset / 12, h⟩) && !(decide (offset % 12 = 0) && isClaimed (statusField w))
  else true

/-- The write right of R179 for a word at a place of table memory; on page 0 it is the page's, for the words outside the layout too (R5,
R40, R179; log entry 22). -/
def State.writable (s : State) (p : Pointer) (w : Word) : Bool :=
  if p.page = 0 then s.allIdle
  else if p.page = 1 then s.rowWritable p.offset.val
  else if p.page = 4 then s.ringWritable p.offset.val w
  else if p.page = 6 then false
  else if p.page = 7 then false
  else true

/-! ## What a table access reads (R186, R196, R197) -/

/-- A lane, an entry or FFFFh for none. -/
def optionWord {n : Nat} : Option (Fin n) → Word
  | some i => wordOf i.val
  | none => 0xFFFF#16

/-- The words of a place record on page 6; words 12 to 15 read 0. -/
def Place.word (pl : Place) : Nat → Word
  | 0 => wordOf pl.state.code
  | 1 => optionWord pl.lane
  | 2 => pl.customer
  | 3 => wordOf pl.article
  | 4 => wordOf pl.target
  | 5 => wordOf pl.count
  | 6 => pl.serial
  | 7 => pl.firstSerial
  | 8 => pl.lastSerial
  | 9 => optionWord pl.firstEntry
  | 10 => optionWord pl.lastEntry
  | 11 => wordOf (flagBit pl.short 0)
  | _ => 0#16

/-- Page 6 is formed from the place records and the stack serial counter as they stand (chapter 11). -/
def State.placeWord (s : State) (offset : Nat) : Word :=
  if h : offset / 16 < 8 then (s.place ⟨offset / 16, h⟩).word (offset % 16)
  else if offset = 128 then s.stackSerial
  else 0#16

/-- The offsets of page 7 that the layout gives (R196). -/
def isCounter (offset : Nat) : Bool := decide ((offset < 128 ∧ offset % 32 ≤ 16) ∨ (128 ≤ offset ∧ offset ≤ 130))

/-- The word that a table access reads. -/
def State.tableWord (s : State) (p : Pointer) : Word :=
  if p.page = 6 then s.placeWord p.offset.val
  else if p.page = 7 then (if isCounter p.offset.val then s.word 7 p.offset.val else 0#16)
  else s.word p.page.val p.offset.val

/-! ## IDENTIFY (R182) -/

def identifyAct : Act := fun _ s =>
  (s, answer .ok [Config.partCode, Config.revision, s.ring.address.setWidth 16, s.lanesEnabled])

/-- IDENTIFY. -/
def execIdentify (s : State) : Result := request .identify identifyAct s

/-! ## READ STATUS (R183) -/

/-- The latched warning set emptied. -/
def State.clearWarnings (s : State) : State := { s with tables := { s.tables with warnings := WarningSet.empty } }

def readStatusAct : Act := fun _ s => (s.clearWarnings, answer .ok s.statusWords)

/-- READ_STATUS. -/
def execReadStatus (s : State) : Result := request .readStatus readStatusAct s

/-! ## SET POINTER (R184) -/

/-- The pointer that a page and an offset name, if they are in range. -/
def pointerOf (page offset : Nat) : Option Pointer :=
  if h : page < 8 ∧ offset < 1024 then some ⟨⟨page, h.1⟩, ⟨offset, h.2⟩⟩ else none

def setPointerAct : Act := fun ps s =>
  match pointerOf (param ps 0).toNat (paramWord ps 1).toNat with
  | none => (s, answer .badParam [])
  | some p => if s.tables.modify then (s, answer .modifyActive []) else (s.setPointer p, answer .ok [])

/-- SET_POINTER. -/
def execSetPointer (s : State) : Result := request .setPointer setPointerAct s

/-! ## WRITE TABLE (R185) -/

/-- A word stored at the pointer, which advances, in modify mode as well. -/
def State.writeAtPointer (s : State) (w : Word) : State :=
  (s.setWord s.tables.pointer.page.val s.tables.pointer.offset.val w).advancePointer

/-- The words written in order until one is refused, and how many were written. -/
def State.writeWords (s : State) : List Word → State × Nat
  | [] => (s, 0)
  | w :: rest =>
    if s.writable s.tables.pointer w then
      let more := (s.writeAtPointer w).writeWords rest
      (more.1, more.2 + 1)
    else (s, 0)

/-- The words of a WRITE TABLE body, after the count byte. -/
def wordParams (ps : List Byte) (count : Nat) : List Word := (List.range count).map fun i => paramWord ps (1 + 2 * i)

/-- A count of 1 to 16. -/
def countInRange (count : Nat) : Bool := decide (1 ≤ count ∧ count ≤ 16)

def writeTableAct : Act := fun ps s =>
  if countInRange (param ps 0).toNat then
    let done := s.writeWords (wordParams ps (param ps 0).toNat)
    (done.1, answer (if done.2 = (param ps 0).toNat then .ok else .refusedWrite) [wordOf done.2])
  else (s, answer .badParam [])

/-- WRITE_TABLE. -/
def execWriteTable (s : State) : Result := request .writeTable writeTableAct s

/-! ## READ TABLE (R186) -/

/-- The latch loaded from the word at the pointer, which advances with modify mode off. -/
def State.loadLatch (s : State) : State :=
  let s1 : State := { s with tables := { s.tables with latch := s.tableWord s.tables.pointer } }
  if s.tables.modify then s1 else s1.advancePointer

/-- The data words, each the latch as it stood before it was loaded. -/
def State.readWords : Nat → State → State × List Word
  | 0, s => (s, [])
  | n + 1, s =>
    let more := State.readWords n s.loadLatch
    (more.1, s.tables.latch :: more.2)

def readTableAct : Act := fun ps s =>
  if countInRange (param ps 0).toNat then
    let done := State.readWords (param ps 0).toNat s
    (done.1, answer .ok done.2)
  else (s, answer .badParam [])

/-- READ_TABLE. -/
def execReadTable (s : State) : Result := request .readTable readTableAct s

/-! ## BEGIN MODIFY and END MODIFY (R187, R188) -/

def beginModifyAct : Act := fun _ s =>
  ({ s with tables := { s.tables with saved := s.tables.pointer, modify := true } }, answer .ok [])

/-- BEGIN_MODIFY. -/
def execBeginModify (s : State) : Result := request .beginModify beginModifyAct s

def endModifyAct : Act := fun _ s =>
  (if s.tables.modify then { s with tables := { s.tables with pointer := s.tables.saved, modify := false } } else s, answer .ok [])

/-- END_MODIFY. -/
def execEndModify (s : State) : Result := request .endModify endModifyAct s

/-! ## SET MOTION MODE (R8) -/

def motionModeOf (b : Byte) : Option MotionMode :=
  if b = 0x00#8 then some .auto
  else if b = 0x01#8 then some .forceRunning
  else if b = 0x02#8 then some .forceStopped
  else none

def setMotionModeAct : Act := fun ps s =>
  match motionModeOf (param ps 0) with
  | some m => (s.setMotionMode m, answer .ok [])
  | none => (s, answer .badParam [])

/-- SET_MOTION_MODE. -/
def execSetMotionMode (s : State) : Result := request .setMotionMode setMotionModeAct s

/-! ## CLEAR COUNTERS (R189) -/

def laneCounterWords : List Nat := [0, 1, 2, 3, 4, 5, 6, 7, 8, 9, 10, 11, 12, 13, 14, 15, 16]

def stationCounterOffsets : List Nat := [stacksDischargedOffset, bouncedOffset, crcErrorOffset]

/-- Words of page 7 set to 0. -/
def State.zeroCounters (s : State) (offsets : List Nat) : State := offsets.foldl (fun s o => s.setWord 7 o 0#16) s

def State.clearLaneCounters (s : State) (l : LaneId) : State := s.zeroCounters (laneCounterWords.map (laneCounterOffset l))

def State.clearStationCounters (s : State) : State := s.zeroCounters stationCounterOffsets

/-- The counters a scope clears; none above 5. -/
def State.clearScope (s : State) (scope : Nat) : Option State :=
  if h : scope < 4 then some (s.clearLaneCounters ⟨scope, h⟩)
  else if scope = 4 then some s.clearStationCounters
  else if scope = 5 then some (allLanes.foldl (fun s l => s.clearLaneCounters l) s).clearStationCounters
  else none

def clearCountersAct : Act := fun ps s =>
  match s.clearScope (param ps 0).toNat with
  | some s' => (s', answer .ok [])
  | none => (s, answer .badParam [])

/-- CLEAR_COUNTERS. -/
def execClearCounters (s : State) : Result := request .clearCounters clearCountersAct s

/-! ## STATION RESET (R190) -/

/-- OK, with the mark that the response orders a warm reset when it has left. -/
def stationResetAct : Act := fun _ s => (s, { status := .ok, words := [], ordersReset := true })

/-- STATION_RESET. -/
def execStationReset (s : State) : Result := request .stationReset stationResetAct s

/-! ## CLOSE PLACE (R107) -/

def closePlaceAct : Act := fun ps s =>
  match placeParam (param ps 0) with
  | none => (s, answer .badParam [])
  | some p => if (s.place p).state = .filling then (s.shortClose p, answer .ok []) else (s, answer .wrongState [])

/-- CLOSE_PLACE. -/
def execClosePlace (s : State) : Result := request .closePlace closePlaceAct s

/-! ## RELEASE OUTFEED (R120) -/

def releaseOutfeedAct : Act := fun _ s =>
  if s.discharge.outfeed = .stalled then (s.releaseOutfeed, answer .ok []) else (s, answer .wrongState [])

/-- RELEASE_OUTFEED. -/
def execReleaseOutfeed (s : State) : Result := request .releaseOutfeed releaseOutfeedAct s

end Sys2Proof.Machine
end

