-- ==== Sys2Proof/Machine/Dispatch.lean ====
section
/-! DEFINITION. The effect of a command on everything but the queue: one arm for each constructor, each a call of its meaning. -/
namespace Sys2Proof.Machine

def exec (i : Instr) (s : State) : Host.Outcome State Fault Refusal :=
  match i with
  | .powerOn => Sys2Proof.Machine.execPowerOn s
  | .warmReset => Sys2Proof.Machine.execWarmReset s
  | .encoderPulse => Sys2Proof.Machine.execEncoderPulse s
  | .motionSampleClose => Sys2Proof.Machine.execMotionSampleClose s
  | .setMotionMode => Sys2Proof.Machine.execSetMotionMode s
  | .entryEyeChange lane level => Sys2Proof.Machine.execEntryEyeChange lane level s
  | .widthBeamChange lane beams => Sys2Proof.Machine.execWidthBeamChange lane beams s
  | .entryEyeConfirm lane => Sys2Proof.Machine.execEntryEyeConfirm lane s
  | .blockedTargetReached lane => Sys2Proof.Machine.execBlockedTargetReached lane s
  | .tokenExpiry lane => Sys2Proof.Machine.execTokenExpiry lane s
  | .retirePositionReached lane => Sys2Proof.Machine.execRetirePositionReached lane s
  | .windowOpen lane output => Sys2Proof.Machine.execWindowOpen lane output s
  | .windowEnd lane output => Sys2Proof.Machine.execWindowEnd lane output s
  | .exitEyeChange lane level => Sys2Proof.Machine.execExitEyeChange lane level s
  | .exitEyeConfirm lane => Sys2Proof.Machine.execExitEyeConfirm lane s
  | .missingTargetReached lane => Sys2Proof.Machine.execMissingTargetReached lane s
  | .exitBlockedTargetReached lane => Sys2Proof.Machine.execExitBlockedTargetReached lane s
  | .closePlace => Sys2Proof.Machine.execClosePlace s
  | .dischargeStart => Sys2Proof.Machine.execDischargeStart s
  | .outfeedEyeChange level => Sys2Proof.Machine.execOutfeedEyeChange level s
  | .outfeedEyeConfirm => Sys2Proof.Machine.execOutfeedEyeConfirm s
  | .outfeedTimeout => Sys2Proof.Machine.execOutfeedTimeout s
  | .releaseOutfeed => Sys2Proof.Machine.execReleaseOutfeed s
  | .receiveStart => Sys2Proof.Machine.execReceiveStart s
  | .telegramReceived telegram => Sys2Proof.Machine.execTelegramReceived telegram s
  | .sendStart ready => Sys2Proof.Machine.execSendStart ready s
  | .telegramSent => Sys2Proof.Machine.execTelegramSent s
  | .identify => Sys2Proof.Machine.execIdentify s
  | .readStatus => Sys2Proof.Machine.execReadStatus s
  | .setPointer => Sys2Proof.Machine.execSetPointer s
  | .writeTable => Sys2Proof.Machine.execWriteTable s
  | .readTable => Sys2Proof.Machine.execReadTable s
  | .beginModify => Sys2Proof.Machine.execBeginModify s
  | .endModify => Sys2Proof.Machine.execEndModify s
  | .clearCounters => Sys2Proof.Machine.execClearCounters s
  | .stationReset => Sys2Proof.Machine.execStationReset s
  | .laneStart => Sys2Proof.Machine.execLaneStart s
  | .laneSuspend => Sys2Proof.Machine.execLaneSuspend s
  | .laneResume => Sys2Proof.Machine.execLaneResume s
  | .laneRelease => Sys2Proof.Machine.execLaneRelease s
  | .laneStop => Sys2Proof.Machine.execLaneStop s
  | .clearFault => Sys2Proof.Machine.execClearFault s
  | .resetEnd straps => Sys2Proof.Machine.execResetEnd straps s
  | .unknownRequest => Sys2Proof.Machine.execUnknownRequest s

end Sys2Proof.Machine
end

