-- ==== Sys2Proof/Machine/Step.lean ====
section
/-! DEFINITION. One step: the command at the front of the queue is taken and carried out; on an empty queue the block idles (log entry
3). And a state with the command that a word spells put at the front. -/
namespace Sys2Proof.Machine

/-- The queue of commands that wait. -/
def State.withPending (s : State) (q : List Instr) : State := { s with pending := q }

/-- One step of the block. -/
def step (s : State) : Host.Outcome State Fault Refusal :=
  match s.pending with
  | [] => .next s
  | c :: rest => exec c (s.withPending rest)

/-- The state with the command that the `nbits` bits of `w` spell at the front of its queue. The table gives no row bits, so no word
spells a command and the state is unchanged (log entry 2 says how a program comes to run). -/
def State.withFetchWord (s : State) (nbits w : Nat) : State :=
  match decodeTableWord nbits w with
  | some c => s.withPending (c :: s.pending)
  | none => s

end Sys2Proof.Machine
end

