-- ==== Sys2Proof/Safety.lean ====
section
/-! DEFINITION. What counts as a safe run, in the terms the statements use: the block always answers, and the conditions that the
rules promise of every state (the canonical memory of the model, the lines, the queues' room, the record pool, the faults, the
outfeed, the discharge queue, the exit, the fold and gate outputs). -/
namespace Sys2Proof.Machine

/-- The block answers a next state. -/
def State.answers (s : State) : Prop := ∃ t, step s = .next t

/-- A condition that every step keeps. -/
def Kept (inv : State → Prop) : Prop := ∀ s t, inv s → step s = .next t → inv t

/-- Table memory stands in its canonical form. -/
def State.memWf (s : State) : Prop := s.mem.wf

/-- The Ring Port's queues have their room (R168 to R171). -/
def Ring.bounded (r : Ring) : Prop :=
  r.forwardCount ≤ Config.forwardCap ∧ r.requestQueue.length ≤ Config.requestCap ∧ r.reportQueue.length ≤ Config.reportCap ∧
  r.run ≤ 3

def State.ringBounded (s : State) : Prop := s.ring.bounded

/-- A lane's token queue (R34), fire schedule (chapter 5) and open-entry list (R128) have their room. -/
def Lane.bounded (L : Lane) : Prop :=
  L.tokens.length ≤ Config.tokenQueueCap ∧ L.sched.windows.length ≤ Config.windowSlots ∧ L.openList.length ≤ Config.openListCap

def State.lanesBounded (s : State) : Prop := ∀ l, (s.lane l).bounded

/-- The record numbers of a lane's in-flight list. -/
def Lane.numbers (L : Lane) : List RecordNo := L.inFlight.map PieceRecord.number

/-- The free list and the four in-flight lists, one after another. -/
def State.allNumbers (s : State) : List RecordNo := s.free ++ allLanes.flatMap fun l => (s.lane l).numbers

/-- Every one of the 64 records is on the free list or on one in-flight list, once (R48). -/
def State.poolWhole (s : State) : Prop := s.allNumbers.Perm freeAtPowerOn

/-- The fault code names a fault exactly in FAULTED, and the gate hold is yes exactly then (R145, R83, R160). -/
def Lane.faultMarked (L : Lane) : Prop :=
  (L.mode = .faulted ↔ L.faultCode.isSome = true) ∧ (L.mode = .faulted ↔ L.sched.gateHold = true)

/-- A FAULTED lane holds no tokens, no records and no windows, and asserts GATE (R157, R83). -/
def Lane.faultEmpty (L : Lane) : Prop :=
  L.mode = .faulted → L.tokens = [] ∧ L.inFlight = [] ∧ L.sched.windows = [] ∧ L.sched.gate = true

def State.faultsCoherent (s : State) : Prop := ∀ l, (s.lane l).faultMarked ∧ (s.lane l).faultEmpty

/-- An IDLE or SUSPENDED lane holds no tokens and no records (R149, R146). -/
def Lane.restsEmpty (L : Lane) : Prop := L.mode = .idle ∨ L.mode = .suspended → L.tokens = [] ∧ L.inFlight = []

def State.restCoherent (s : State) : Prop := ∀ l, (s.lane l).restsEmpty

/-- The outfeed IDLE exactly with no current place, its timer running exactly in MOVING, seen covered only in MOVING (R115 to R118). -/
def Discharge.coherent (d : Discharge) : Prop :=
  (d.outfeed = .idle ↔ d.current = none) ∧ (d.outfeed = .moving ↔ d.timer.isSome = true) ∧
  (d.seenCovered = true → d.outfeed = .moving)

def State.outfeedCoherent (s : State) : Prop := s.discharge.coherent

/-- A fold output is asserted only under an OPEN window of its own, GATE only under an OPEN gate window or the gate hold, and a gate window
folds no record (R76, R77, R83). -/
def FoldLane.driven (fl : FoldLane) : Prop :=
  (∀ f : StationId, fl.folds[f] = true → ∃ w ∈ fl.windows, w.output = .fold f ∧ w.state = .opened) ∧
  (fl.gate = true → fl.gateHold = true ∨ ∃ w ∈ fl.windows, w.output = .gate ∧ w.state = .opened) ∧
  ∀ w ∈ fl.windows, w.output = .gate → w.piece = none

def State.outputsDriven (s : State) : Prop := ∀ l, (s.lane l).sched.driven

/-- The discharge queue holds every FULL place once and no other; a place is DISCHARGING exactly when it is the current place of a
MOVING outfeed, and BLOCKED exactly when it is that of a STALLED one (R111, R115). -/
def State.queueHoldsFull (s : State) : Prop :=
  s.discharge.queue.Nodup ∧ (∀ p, p ∈ s.discharge.queue ↔ (s.place p).state = .full) ∧
  (∀ p, (s.place p).state = .discharging ↔ s.discharge.outfeed = .moving ∧ s.discharge.current = some p) ∧
  ∀ p, (s.place p).state = .blocked ↔ s.discharge.outfeed = .stalled ∧ s.discharge.current = some p

/-- A FREE place has every field as at reset, and a lane has at most one FILLING place (R100, R103, R110). -/
def State.placesCoherent (s : State) : Prop :=
  (∀ p, (s.place p).state = .free → s.place p = Place.reset) ∧
  (∀ p q, (s.place p).state = .filling → (s.place q).state = .filling → (s.place p).lane = (s.place q).lane → p = q) ∧
  ∀ p, (s.place p).state = .filling → (s.place p).lane.isSome = true

/-- The arrival is MATCHED exactly with the record that is AT_EXIT, which is not gated; a clear eye, and an IDLE or FAULTED lane, has no
arrival; ROUTE rests at OVERFLOW unless a record is AT_EXIT (R88, R90, R94, R95). -/
def Lane.exitCoherent (L : Lane) : Prop :=
  (∀ n, L.exit.arrival = .matched n →
    L.exit.level = .covered ∧ ∃ r ∈ L.inFlight, r.number = n ∧ r.phase = .atExit ∧ r.retirePosition = none) ∧
  (∀ r ∈ L.inFlight, r.phase = .atExit → L.exit.arrival = .matched r.number ∧ L.exit.route = r.destination.getD .overflow) ∧
  ((∀ n, L.exit.arrival ≠ .matched n) → L.exit.route = .overflow) ∧
  (L.exit.level = .clear → L.exit.arrival = .absent) ∧
  (L.mode.passes = false → L.exit.arrival = .absent)

def State.exitsCoherent (s : State) : Prop := ∀ l, (s.lane l).exitCoherent

/-- An inbound mark stands on a FILLING place exactly while an AT_EXIT record of its lane is routed to it (R100, R104). -/
def State.inboundCoherent (s : State) : Prop :=
  (∀ p, (s.place p).inbound = true →
    (s.place p).state = .filling ∧ ∃ l, (s.place p).lane = some l ∧
      ∃ r ∈ (s.lane l).inFlight, r.phase = .atExit ∧ r.destination = some (.place p)) ∧
  ∀ l, ∀ r ∈ (s.lane l).inFlight, r.phase = .atExit → ∀ p, r.destination = some (.place p) →
    (s.place p).state = .filling ∧ (s.place p).inbound = true ∧ (s.place p).lane = some l

/-- The tokens of a lane that an entry has out: those in the queue and those on records (R130). -/
def Lane.outstanding (L : Lane) (e : EntryId) : Nat :=
  (L.tokens.filter fun q => decide (q.token.entry = e)).length +
  ((L.inFlight.flatMap PieceRecord.tokens).filter fun t => decide (t.entry = e)).length

/-- Every item of a lane's open-entry list balances: its assigned count is its retirements and its outstanding tokens together
(R130). -/
def State.entriesBalance (s : State) : Prop :=
  ∀ l, ∀ it ∈ (s.lane l).openList, s.entryAssigned it.entry = s.entryRetired it.entry + (s.lane l).outstanding it.entry

/-- An entry on a lane's open-entry list is claimed and owned by the lane; its assigned count stays within its quota, below it exactly while
the entry is ACTIVE; a DRAINED entry has every token retired (R123, R125, R127, R129, R131). -/
def State.itemCoherent (s : State) (l : LaneId) (e : EntryId) : Prop :=
  isClaimed (s.entryStatus e) = true ∧ s.entryWord e 5 = wordOf l.val ∧ s.entryQuota e ≤ 9999 ∧ s.entryAssigned e ≤ s.entryQuota e ∧
  (s.entryStatus e = some .active ↔ s.entryAssigned e < s.entryQuota e) ∧
  (s.entryStatus e = some .drained → s.entryAssigned e = s.entryRetired e)

/-- The entries on a lane's open-entry list. -/
def Lane.openEntries (L : Lane) : List EntryId := L.openList.map OpenItem.entry

/-- The law of chapter 8: a claimed entry stands on one open-entry list, once, and every entry on a list is as `itemCoherent` says and
balances; every token a lane holds is of an entry on its list (R127, R130). -/
def State.lotRingBalances (s : State) : Prop :=
  (allLanes.flatMap fun l => (s.lane l).openEntries).Nodup ∧
  (∀ e, isClaimed (s.entryStatus e) = true → ∃ l, e ∈ (s.lane l).openEntries) ∧
  (∀ l, ∀ e ∈ (s.lane l).openEntries, s.itemCoherent l e) ∧
  (∀ l e, (s.lane l).outstanding e ≠ 0 → e ∈ (s.lane l).openEntries) ∧
  s.entriesBalance

/-- What the stack places, the exits, the outfeed and the record pool promise together (R48, R90, R100, R111, R115). -/
def State.stacksCoherent (s : State) : Prop :=
  s.poolWhole ∧ s.outfeedCoherent ∧ s.queueHoldsFull ∧ s.placesCoherent ∧ s.exitsCoherent ∧ s.inboundCoherent

/-- The presented state is the one the motion mode gives, and the sample counts are held at 15 (R4, R6). -/
def Track.coherent (t : Track) : Prop :=
  t.presented = presentedBy t.mode t.computed ∧ t.movingCount ≤ 15 ∧ t.stillCount ≤ 15

def State.motionCoherent (s : State) : Prop := s.track.coherent

/-! ## Words for the statements -/

/-- The row that takes a request. -/
def Request.row : Request → Instr
  | .identify => .identify
  | .readStatus => .readStatus
  | .setPointer => .setPointer
  | .writeTable => .writeTable
  | .readTable => .readTable
  | .beginModify => .beginModify
  | .endModify => .endModify
  | .setMotionMode => .setMotionMode
  | .clearCounters => .clearCounters
  | .stationReset => .stationReset
  | .laneStart => .laneStart
  | .laneSuspend => .laneSuspend
  | .laneResume => .laneResume
  | .laneRelease => .laneRelease
  | .laneStop => .laneStop
  | .clearFault => .clearFault
  | .closePlace => .closePlace
  | .releaseOutfeed => .releaseOutfeed

/-- The event of a command comes about in this state (log entry 4). -/
def State.due (s : State) : Instr → Bool
  | .powerOn => true
  | .warmReset => true
  | .encoderPulse => !s.resetHeld
  | .motionSampleClose => !s.resetHeld
  | .setMotionMode => s.requestDue .setMotionMode
  | .entryEyeChange l level => decide ((s.lane l).entry.rawLevel ≠ level)
  | .widthBeamChange l beams => decide ((s.lane l).entry.beams ≠ beams)
  | .entryEyeConfirm l => (s.dueEntryChange l).isSome
  | .blockedTargetReached l => s.blockedDue l
  | .tokenExpiry l => (s.dueToken l).isSome
  | .retirePositionReached l => (s.dueRetirement l).isSome
  | .windowOpen l o => s.windowOpenDue l o
  | .windowEnd l o => s.windowEndDue l o
  | .exitEyeChange l level => decide ((s.lane l).exit.rawLevel ≠ level)
  | .exitEyeConfirm l => (s.dueExitChange l).isSome
  | .missingTargetReached l => s.missingDue l
  | .exitBlockedTargetReached l => s.exitBlockedDue l
  | .closePlace => s.requestDue .closePlace
  | .dischargeStart => s.canDischarge
  | .outfeedEyeChange level => decide (s.discharge.rawLevel ≠ level)
  | .outfeedEyeConfirm => s.discharge.confirmDue
  | .outfeedTimeout => s.discharge.timeoutDue
  | .releaseOutfeed => s.requestDue .releaseOutfeed
  | .receiveStart => true
  | .telegramReceived _ => decide (s.ring.receive ≠ .none)
  | .sendStart _ => true
  | .telegramSent => s.ring.sending.isSome
  | .identify => s.requestDue .identify
  | .readStatus => s.requestDue .readStatus
  | .setPointer => s.requestDue .setPointer
  | .writeTable => s.requestDue .writeTable
  | .readTable => s.requestDue .readTable
  | .beginModify => s.requestDue .beginModify
  | .endModify => s.requestDue .endModify
  | .clearCounters => s.requestDue .clearCounters
  | .stationReset => s.requestDue .stationReset
  | .laneStart => s.requestDue .laneStart
  | .laneSuspend => s.requestDue .laneSuspend
  | .laneResume => s.requestDue .laneResume
  | .laneRelease => s.requestDue .laneRelease
  | .laneStop => s.requestDue .laneStop
  | .clearFault => s.requestDue .clearFault
  | .resetEnd _ => s.resetHeld
  | .unknownRequest => s.unknownDue

/-- The lane whose event a command is, for the rows that name a lane. -/
def laneOf : Instr → Option LaneId
  | .entryEyeChange l _ => some l
  | .widthBeamChange l _ => some l
  | .entryEyeConfirm l => some l
  | .blockedTargetReached l => some l
  | .tokenExpiry l => some l
  | .retirePositionReached l => some l
  | .windowOpen l _ => some l
  | .windowEnd l _ => some l
  | .exitEyeChange l _ => some l
  | .exitEyeConfirm l => some l
  | .missingTargetReached l => some l
  | .exitBlockedTargetReached l => some l
  | _ => none

/-- The commands that may set the track position to another value: a pulse and the resets (R1, R10, R11). -/
def movesPosition : Instr → Bool
  | .encoderPulse => true
  | .powerOn => true
  | .warmReset => true
  | .telegramSent => true
  | _ => false

/-- The state with the head of the request queue taken. -/
def State.dequeued (s : State) : State := { s with ring := { s.ring with requestQueue := s.ring.requestQueue.tail } }

/-- The head of the request queue answered with a status and data words, and nothing else changed (R176). -/
def State.answered (s : State) (t : Telegram) (st : Status) (words : List Word) : State := s.dequeued.respond t (answer st words)

/-- The pointer `n` words on. -/
def Pointer.ahead (p : Pointer) : Nat → Pointer
  | 0 => p
  | n + 1 => (p.ahead n).advance

/-- LANE SUSPEND of the lanes named: each of them that is RUNNING, DRY or in WAIT becomes SUSPENDING, or SUSPENDED when it holds nothing,
and every other lane stays (R150). -/
def LanesSuspended (named : LaneId → Prop) (s v : State) : Prop :=
  ∀ l, let L := s.lane l
    let asked : Prop := named l ∧ (L.mode = .running ∨ L.mode = .dry ∨ L.mode = .wait)
    (asked → v.lane l =
      { L with
        mode := if L.tokens = [] ∧ L.inFlight = [] then .suspended else .suspending
        feedHold := true
        returnToWait := L.returnToWait || decide (L.mode = .wait) }) ∧
    (¬ asked → v.lane l = L)

/-- A SUSPENDING or SUSPENDED lane, named by a LANE RESUME, that returns by its work and not to WAIT (R151). -/
def State.seeksWork (s : State) (named : LaneId → Prop) (l : LaneId) : Prop :=
  named l ∧ ((s.lane l).mode = .suspending ∨ (s.lane l).mode = .suspended) ∧ (s.lane l).returnToWait = false ∧
  (s.lane l).waitPending = false

/-- The re-read of a lane's return claims the entry at its cursor, which no lane before it has taken (R126, R154). -/
def State.claimsOnReturn (s : State) (named : LaneId → Prop) (l : LaneId) : Prop :=
  s.activeEntry l = none ∧ s.canClaim l = true ∧
  ∀ m < l, s.seeksWork named m → s.activeEntry m = none → s.canClaim m = true → (s.lane m).cursor ≠ (s.lane l).cursor

/-- LANE RESUME of the lanes named, lane 0 first: each of them that is SUSPENDING or SUSPENDED makes the return of R151, and every other lane
stays (R152, R154). -/
def LanesResumed (named : LaneId → Prop) (s v : State) : Prop :=
  ∀ l, let L := s.lane l
    let asked : Prop := named l ∧ (L.mode = .suspending ∨ L.mode = .suspended)
    (¬ asked → v.lane l = L) ∧
    (asked → L.returnToWait = true → v.lane l = { L with mode := .wait, returnToWait := false }) ∧
    (asked → L.returnToWait = false → L.waitPending = true → v.lane l = { L with mode := .wait, waitPending := false }) ∧
    (s.seeksWork named l → (s.activeEntry l).isSome = true → v.lane l = { L with mode := .running, feedHold := L.starved }) ∧
    (s.seeksWork named l → s.claimsOnReturn named l →
      v.lane l =
        { L with
          mode := .running
          feedHold := L.starved
          openList := L.openList ++ [⟨L.cursor, s.resolvedTarget L.cursor⟩] } ∧
      v.entryStatus L.cursor = some .active ∧ v.entryWord L.cursor 5 = wordOf l.val) ∧
    (s.seeksWork named l → s.activeEntry l = none → ¬ s.claimsOnReturn named l → v.lane l = { L with mode := .dry })

/-- The lanes that a lane value of LANE SUSPEND or LANE RESUME names: one lane, or with 4 the lanes enabled (R154). -/
def State.namedBy (s : State) (value : Byte) (l : LaneId) : Prop :=
  value = byteOf l.val ∨ (value = 0x04#8 ∧ s.laneEnabled l = true)

/-- The body of a LOT report: lane, customer, first and last entry, entries, the five sums, and the three flags (R193). -/
def lotBytes (l : LaneId) (a : Lot) : List Byte :=
  [byteOf l.val] ++ wordBytes a.customer ++ [byteOf a.firstEntry.val, byteOf a.lastEntry.val] ++ wordBytes a.entries ++
  wordBytes a.delivered ++ wordBytes a.rejected ++ wordBytes a.overflowed ++ wordBytes a.lost ++ wordBytes a.stacksClosed ++
  [byteOf ((if a.unmarkedStart then 1 else 0) + (if a.unterminated then 2 else 0) + (if a.stopped then 4 else 0))]

/-- What the reject window of `x`, the last record of a lane after `front`, leaves when it is tried at position `now` (R71 to R75): too late,
force overflow; over no gate window, a slot, or with none left GATE_FULL with its purge; else merged, and the gate window it makes
overlaps no other. `s` is the state before the event, `t` the state after, `left` the tokens that wait. -/
def RejectTried (l : LaneId) (front : List PieceRecord) (x : PieceRecord) (left : List QueuedToken) (now : Pos) (s t : State) : Prop :=
  let fl := (s.lane l).sched
  let gl := (t.lane l).sched
  let start := x.lead + posOf (s.gateDistance l) - posOf s.gateLead
  let stop := x.lead + posOf x.lengthOf + posOf (s.gateDistance l) + posOf s.gateTrail
  let w : Window := ⟨.gate, start, stop, if reached now start then .opened else .waiting, none⟩
  let late := before start (now + posOf s.scheduleMargin)
  let meets (g : Window) : Prop := g.output = .gate ∧ w.overlaps g = true
  let listed (y : PieceRecord) : Prop := (t.lane l).inFlight = front ++ [y] ∧ (t.lane l).tokens = left ∧ t.free = s.free
  (late = true → listed { x with forceOverflow := true } ∧ gl = fl) ∧
  (late = false → (∀ g ∈ fl.windows, ¬ meets g) → fl.windows.length < 16 → reached s.track.position stop = false →
    listed { x with retirePosition := some stop } ∧
    gl = { fl with windows := fl.windows ++ [w], gate := fl.gate || reached now start }) ∧
  (late = false → (∀ g ∈ fl.windows, ¬ meets g) → 16 ≤ fl.windows.length →
    (t.lane l).mode = .faulted ∧ (t.lane l).faultCode = some .gateFull ∧ (t.lane l).inFlight = [] ∧ (t.lane l).tokens = [] ∧
    gl.windows = [] ∧ gl.gate = true) ∧
  (late = false → (∃ g ∈ fl.windows, meets g) → reached s.track.position stop = false →
    listed { x with retirePosition := some stop } ∧ gl.folds = fl.folds ∧
    ∃ rest m, gl.windows = rest ++ [m] ∧ m.output = .gate ∧ rest.Sublist fl.windows ∧ rest.length < fl.windows.length ∧
      rest.filter (fun y => decide (y.output ≠ .gate)) = fl.windows.filter (fun y => decide (y.output ≠ .gate)) ∧
      (∀ y ∈ rest, y.output = .gate → m.overlaps y = false) ∧ gl.gate = (fl.gate || decide (m.state = .opened)) ∧
      ∀ first g last, fl.windows = first ++ g :: last → meets g → (∀ y ∈ first ++ last, ¬ meets y) →
        let both : Window := { g with start := earlier g.start w.start, stop := later g.stop w.stop }
        (∀ y ∈ first ++ last, y.output = .gate → both.overlaps y = false) →
        rest = first ++ last ∧ m = { both with state := m.state } ∧
        (g.state = .opened ∨ reached now both.start = true → m.state = .opened) ∧
        (g.state = .waiting → reached now both.start = false → reached now start = false → m.state = .waiting))

/-- What the fire windows of `x`, an accepted piece, leave when they are tried at position `now` (R68 to R70): LATE before CROWD, each with a
reject window; else every window joins the schedule. -/
def FoldsTried (l : LaneId) (front : List PieceRecord) (x : PieceRecord) (left : List QueuedToken) (now : Pos) (s t : State) : Prop :=
  let fl := (s.lane l).sched
  let folds := s.foldWindows l x now
  let clash (a b : Window) : Prop := a.output = b.output ∧ a.overlaps b = true
  let late : Prop := ∃ w ∈ folds, before w.start (now + posOf s.scheduleMargin) = true
  let crowded : Prop :=
    (∃ w ∈ folds, ∃ y ∈ fl.windows, clash w y) ∨ (¬ folds.Pairwise fun a b => ¬ clash a b) ∨
      16 < fl.windows.length + folds.length
  (late → RejectTried l front { x with verdict := some (.reject .late) } left now s t) ∧
  (¬ late → crowded → RejectTried l front { x with verdict := some (.reject .crowd) } left now s t) ∧
  (¬ late → ¬ crowded →
    (t.lane l).inFlight = front ++ [x] ∧ (t.lane l).tokens = left ∧ t.free = s.free ∧
    (t.lane l).sched.windows = fl.windows ++ folds ∧ (t.lane l).sched.gate = fl.gate)

/-- A record that has passed the entry eye judged by R55 and handed to the Fold Scheduler (R54, R56). -/
def TrailingTried (l : LaneId) (front : List PieceRecord) (x : PieceRecord) (left : List QueuedToken) (now : Pos) (s t : State) : Prop :=
  (∀ why, verdictOf x = .reject why → RejectTried l front { x with verdict := some (.reject why) } left now s t) ∧
  ((∀ why, verdictOf x ≠ .reject why) → FoldsTried l front { x with verdict := some (verdictOf x) } left now s t)

/-- A claimed entry of table memory: its status is ACTIVE, CLOSING or DRAINED (R141). -/
def State.entryClaimed (s : State) (e : EntryId) : Prop := isClaimed (s.entryStatus e) = true

end Sys2Proof.Machine
end

