-- ==== Sys2Proof/Certificates/Slice0/Obligations.lean ====
section
/-! DEFINITION. The statements for the provers, from the rules R1 to R198. `State.linesFollow` is a premise of many: it says that the
lines of Flags.lean stand at their rules' values, and Obligations.LinesFollowKept states that every step keeps it. An
equation `exec c s = .next t` with `t` written out is also the frame of `c`: whatever `t` does not name is as in `s`. -/

open Sys2Proof
open Sys2Proof.Machine

/-! ## The machine as a whole -/

/-- A step carries out the command at the front of the queue on the state with the queue's rest; on an empty queue the block idles (the
second is the model's choice, log entry 3). -/
def Obligations.StepTakesFront : Prop :=
  (∀ (c : Instr) (q : List Instr) (s : State), step (s.withPending (c :: q)) = exec c (s.withPending q)) ∧
  ∀ s : State, s.pending = [] → step s = .next s

/-- Every command answers a next state, and one whose event does not come about changes nothing (the model's choice, log entry 4). -/
def Obligations.EveryCommandAnswers : Prop :=
  (∀ (c : Instr) (s : State), ∃ t, exec c s = .next t) ∧
  ∀ (c : Instr) (s : State), s.due c = false → exec c s = .next s

/-- The state after reset has every condition that the statements below keep. -/
def Obligations.ResetIsCoherent : Prop :=
  State.reset.linesFollow ∧ State.reset.memWf ∧ State.reset.ringBounded ∧ State.reset.lanesBounded ∧ State.reset.faultsCoherent ∧
  State.reset.restCoherent ∧ State.reset.outputsDriven ∧ State.reset.motionCoherent ∧ State.reset.stacksCoherent ∧
  State.reset.lotRingBalances

/-! ## Conditions that every step keeps -/

/-- FEED_HOLD, FEED_SLOW, PUSH, OUTFEED_RUN, RING_RDY_OUT and ALERT stand as R147, R23, R115, R168 and R181 say. -/
def Obligations.LinesFollowKept : Prop := Kept State.linesFollow

/-- Table memory keeps its canonical form. -/
def Obligations.TableMemoryWfKept : Prop := Kept State.memWf

/-- The forward queue, with a receive in hand, holds at most 8, the request queue 4, the report queue 16, the forwarding run is at most 3;
a lane's token queue holds at most 8 tokens, its fire schedule 16 windows, its open-entry list 16 entries. -/
def Obligations.QueuesBoundedKept : Prop :=
  (Kept State.ringBounded) ∧
  (Kept State.lanesBounded)

/-- Each of the 64 piece records is on the free list or on one in-flight list, once. -/
def Obligations.RecordPoolWholeKept : Prop := Kept State.poolWhole

/-- A fault code and the gate hold stand exactly in FAULTED, a FAULTED lane holds no token, no record and no window, and an IDLE or SUSPENDED
lane no token and no record. -/
def Obligations.FaultsAndRestKept : Prop := Kept State.faultsCoherent ∧ Kept fun s => s.faultsCoherent ∧ s.restCoherent

/-- The outfeed has a current place exactly out of IDLE, and its timer runs exactly in MOVING; the presented motion state is the one the mode
gives. -/
def Obligations.OutfeedAndMotionKept : Prop :=
  (Kept State.outfeedCoherent) ∧
  (Kept State.motionCoherent)

/-- A fold output is asserted only under an OPEN window of its own, GATE only under an OPEN gate window or the gate hold, and no gate window
folds a record; every step keeps this.
A stop notice leaves no OPEN fold window of a record in flight, and faults no lane. A record under one is spoiled: unless it retires at
once, it is REJECT SPOILED with no window left, gated or set to force overflow; at the exit its destination and ROUTE become OVERFLOW.
With one such record, the whole effect: at the exit it is rerouted, and its place's inbound mark cleared; else its reject window joins the
schedule, or it is too late and its force overflow is set. -/
def Obligations.OutputsDrivenKept : Prop :=
  (Kept State.outputsDriven) ∧
  (∀ (s : State) (l : LaneId), s.poolWhole → s.outputsDriven → s.lanesBounded →
    let u := s.stopNotice
    ((u.lane l).mode = .faulted ↔ (s.lane l).mode = .faulted) ∧ (u.lane l).faultCode = (s.lane l).faultCode ∧
    (∀ w ∈ (u.lane l).sched.windows, w.state = .opened → ∀ n, w.piece = some n → n ∉ (u.lane l).numbers) ∧
    ∀ r ∈ (s.lane l).inFlight, (∃ w ∈ (s.lane l).sched.windows, w.state = .opened ∧ w.piece = some r.number) →
      r.number ∉ (u.lane l).numbers ∨
      ∃ x ∈ (u.lane l).inFlight, x.number = r.number ∧ x.tokens = r.tokens ∧ x.verdict = some (.reject .spoiled) ∧
        (x.forceOverflow = true ∨ x.retirePosition.isSome = true) ∧
        (∀ w ∈ (u.lane l).sched.windows, w.piece ≠ some r.number) ∧
        (r.phase = .atExit →
          x.forceOverflow = true ∧ x.destination = some .overflow ∧ (u.lane l).exit.route = .overflow)) ∧
  ∀ (s : State) (l : LaneId) (r : PieceRecord), s.poolWhole → r ∈ (s.lane l).inFlight → s.toSpoil l = [r.number] →
    (∀ m, m ≠ l → s.toSpoil m = []) →
    let fl := (s.lane l).sched
    let left := fl.windows.filter fun w => decide (w.piece ≠ some r.number)
    let folds := releaseFolds fl.folds (fl.windows.filter fun w => decide (w.piece = some r.number))
    let changed (sched : FoldLane) (f : PieceRecord → PieceRecord) : State :=
      { s with freeCount := s.freeCount + 1 }.modLane l fun L =>
        { L with
          sched := sched
          inFlight := L.inFlight.map fun (x : PieceRecord) => if x.number = r.number then f { x with verdict := some (.reject .spoiled) } else x }
    (r.phase = .atExit →
      let rerouted := (changed { fl with windows := left, folds := folds } fun x =>
        { x with forceOverflow := true, destination := some .overflow }).modExit l fun x => { x with route := .overflow }
      s.stopNotice = match r.destination with | some (.place p) => rerouted.clearInbound p | _ => rerouted) ∧
    (r.phase ≠ .atExit →
      let start := r.lead + posOf (s.gateDistance l) - posOf s.gateLead
      let stop := r.lead + posOf r.lengthOf + posOf (s.gateDistance l) + posOf s.gateTrail
      let opened := reached s.track.position start
      let w : Window := ⟨.gate, start, stop, if opened then .opened else .waiting, none⟩
      (before start (s.track.position + posOf s.scheduleMargin) = true →
        s.stopNotice = changed { fl with windows := left, folds := folds } fun x => { x with forceOverflow := true }) ∧
      (before start (s.track.position + posOf s.scheduleMargin) = false → (∀ x ∈ left, x.output = .gate → w.overlaps x = false) →
        left.length < 16 → reached s.track.position stop = false →
        s.stopNotice = changed { fl with windows := left ++ [w], folds := folds, gate := fl.gate || opened } fun x =>
          { x with retirePosition := some stop }))

/-- The law of the lot ring, which holds at reset and which every step keeps with the conditions named: a claimed entry stands on one
open-entry list, with its owner; its assigned count, within its quota, is its retirements, its queued tokens and its tokens on records
together; every token a lane holds is of an entry on its list. -/
def Obligations.LotRingBalanceKept : Prop :=
  State.reset.lotRingBalances ∧
  Kept fun s => s.lotRingBalances ∧ s.memWf ∧ s.poolWhole ∧ s.faultsCoherent ∧ s.restCoherent

/-- The discharge queue holds every FULL place once and no other, DISCHARGING and BLOCKED name the current place, a FREE place is as at
reset, a lane has at most one FILLING place, and arrivals, routes and inbound marks agree with the AT_EXIT records; kept with the
conditions of FaultsAndRestKept. -/
def Obligations.StacksCoherentKept : Prop := Kept fun s => s.stacksCoherent ∧ s.faultsCoherent ∧ s.restCoherent

/-! ## What commands leave alone -/

/-- Pages 0, 1, 2, 3 and 5, and the words 1 to 4 of every entry, are written by WRITE TABLE and power-on alone; WRITE TABLE leaves every
word of a claimed entry, the counters of page 7 and the places as they were. -/
def Obligations.TableMemoryFrame : Prop :=
  (∀ (c : Instr) (s t : State), c ≠ .writeTable → c ≠ .powerOn → exec c s = .next t →
    (∀ page ∈ [0, 1, 2, 3, 5], ∀ offset < 1024, t.word page offset = s.word page offset) ∧
    ∀ (e : EntryId), ∀ k ∈ [1, 2, 3, 4], t.entryWord e k = s.entryWord e k) ∧
  (∀ s t : State, exec .writeTable s = .next t →
    (∀ e, s.entryClaimed e → ∀ k < 12, t.entryWord e k = s.entryWord e k) ∧
    (∀ offset < 1024, t.word 7 offset = s.word 7 offset) ∧ t.places = s.places ∧ t.stackSerial = s.stackSerial)

/-- An event of one lane leaves another lane as it was, apart from its starved mark, which a freed place may clear, the FEED_HOLD that
follows it, and the stacks-closed count of its lot; it leaves its own lane's held places, ring start and cursor, the Track Monitor, the
outfeed eye, the pointer, the latch and modify mode, every counter but its own lane's, and the Ring Port but for reports added at the tail
of the report queue. -/
def Obligations.LaneEventsLeaveOtherLanes : Prop :=
  ∀ (c : Instr) (l : LaneId) (s t : State), s.linesFollow → laneOf c = some l → exec c s = .next t →
    (∀ m : LaneId, m ≠ l →
      t.lane m =
        { s.lane m with
          starved := (t.lane m).starved
          feedHold := (t.lane m).feedHold
          lot := { (s.lane m).lot with stacksClosed := (t.lane m).lot.stacksClosed } } ∧
      ((t.lane m).starved = true → (s.lane m).starved = true)) ∧
    (t.lane l).held = (s.lane l).held ∧ (t.lane l).ringStart = (s.lane l).ringStart ∧ (t.lane l).cursor = (s.lane l).cursor ∧
    t.track = s.track ∧ t.discharge.rawLevel = s.discharge.rawLevel ∧ t.discharge.level = s.discharge.level ∧
    t.discharge.changePending = s.discharge.changePending ∧
    t.tables = { s.tables with warnings := t.tables.warnings, alert := t.tables.alert } ∧
    (∃ reports, t.ring = { s.ring with reportQueue := s.ring.reportQueue ++ reports }) ∧
    (∀ offset < 1024, offset < 32 * l.val ∨ 32 * l.val + 16 < offset → t.word 7 offset = s.word 7 offset) ∧
    t.resetHeld = s.resetHeld ∧ t.freeCount = s.freeCount ∧ t.pending = s.pending

/-! ## Resets -/

/-- POWER_ON: every block and table memory at its power-on value. The model's choices: the input pins keep their levels and the reset is held
until RESET_END (log entry 2), the station address stands until then (log entry 23), and the model's own fields keep their values. -/
def Obligations.PowerOnValues : Prop :=
  ∀ s : State, ∃ t, exec .powerOn s = .next t ∧ t.track = Track.reset ∧
    (∀ l, t.lane l = Lane.reset (s.lane l).entry.rawLevel (s.lane l).entry.beams (s.lane l).exit.rawLevel) ∧
    (∀ p, t.place p = Place.reset) ∧ t.free = freeAtPowerOn ∧ t.stackSerial = 0 ∧ t.mem = [] ∧
    t.discharge = Discharge.reset s.discharge.rawLevel ∧ t.ring = Ring.reset s.ring.address s.ring.straps s.ring.readyIn ∧
    t.tables = Tables.reset ∧ t.resetHeld = true ∧ t.freeCount = s.freeCount ∧ t.pending = s.pending

/-- WARM_RESET: every block at its reset values; page 7 cleared; pages 0 to 3 and 5, the stack serial counter and every word of page 4
but an entry's word 0 and lost count kept, offsets 768 to 1023 among them. Every open entry is written back ABORTED with VALID cleared. The model's
choices: the input pins keep their levels and the reset is held until RESET_END (log entry 2), and the station address stands until then (log entry 23). -/
def Obligations.WarmResetValues : Prop :=
  (∀ s : State, ∃ t, exec .warmReset s = .next t ∧ t.track = Track.reset ∧
    (∀ l, t.lane l = Lane.reset (s.lane l).entry.rawLevel (s.lane l).entry.beams (s.lane l).exit.rawLevel) ∧
    (∀ p, t.place p = Place.reset) ∧ t.stackSerial = s.stackSerial ∧ t.discharge = Discharge.reset s.discharge.rawLevel ∧
    t.ring = Ring.reset s.ring.address s.ring.straps s.ring.readyIn ∧ t.tables = Tables.reset ∧ t.resetHeld = true ∧
    t.freeCount = s.freeCount ∧ t.pending = s.pending ∧
    t.free = s.free ++ allLanes.flatMap (fun l => (s.lane l).numbers) ∧
    (∀ offset < 1024, t.word 7 offset = 0) ∧
    (∀ page ∈ [0, 1, 2, 3, 5], ∀ offset < 1024, t.word page offset = s.word page offset) ∧
    (∀ (e : EntryId) (k : Nat), k < 12 → k ≠ 0 → k ≠ 10 → t.entryWord e k = s.entryWord e k) ∧
    ∀ offset, 768 ≤ offset → offset < 1024 → t.word 4 offset = s.word 4 offset) ∧
  (∀ s : State, s.memWf → ∃ t, exec .warmReset s = .next t ∧
    ∀ l, ∀ it ∈ (s.lane l).openList, t.entryStatus it.entry = some .aborted ∧ t.entryValid it.entry = false)

/-- RESET_END: the straps become the station address, RING_RDY_OUT is asserted, and each eye that differs from its accepted level begins a
pending change. -/
def Obligations.ResetEndReadsStraps : Prop :=
  ∀ (s : State) (straps : BitVec 5), s.resetHeld = true → s.ring.forwardCount < 8 →
    ∃ t, exec (.resetEnd straps) s = .next t ∧ t.ring = { s.ring with address := straps, straps := straps, readyOut := true } ∧
      t.resetHeld = false ∧ t.track = s.track ∧ t.mem = s.mem ∧ t.places = s.places ∧ t.free = s.free ∧
      t.stackSerial = s.stackSerial ∧
      t.discharge.changePending = decide (s.discharge.rawLevel ≠ s.discharge.level) ∧
      ∀ l, (t.lane l).entry.pendingChange =
          (if (s.lane l).entry.rawLevel ≠ (s.lane l).entry.level
            then some ⟨s.track.position, s.track.position + posOf s.eyeFilter⟩ else (s.lane l).entry.pendingChange) ∧
        (t.lane l).exit.pendingChange =
          (if (s.lane l).exit.rawLevel ≠ (s.lane l).exit.level
            then some ⟨s.track.position, s.track.position + posOf s.eyeFilter⟩ else (s.lane l).exit.pendingChange) ∧
        (t.lane l).mode = (s.lane l).mode

/-! ## Chapter 1 -/

/-- ENCODER_PULSE adds 1 to the position, marks the sample, and changes nothing else.
The track position holds still between pulses; positions are compared by their difference read as a signed number, so a target `d` ahead is
reached at pulse `d` and not before. At the one difference -2147483648, where two sentences of R2 differ, the target is not reached: the
model's choice, log entry 26. -/
def Obligations.PulsesMoveThePosition : Prop :=
  (∀ s : State, s.linesFollow → s.resetHeld = false →
     exec .encoderPulse s = .next { s with track := { s.track with position := s.track.position + 1, pulseSeen := true } }) ∧
  (((∀ now target : Pos, reached now target = true ↔ 0 ≤ (now - target).toInt) ∧
   (∀ a b : Pos, before a b = true ↔ (a - b).toInt < 0) ∧
   ∀ (now : Pos) (d k : Nat), d < 2 ^ 31 → k < 2 ^ 31 →
     (reached (now + BitVec.ofNat 32 k) (now + BitVec.ofNat 32 d) = true ↔ d ≤ k)) ∧
   (∀ (c : Instr) (s t : State), movesPosition c = false → exec c s = .next t → t.track.position = s.track.position))

/-- MOTION_SAMPLE_CLOSE: the counts by R4, then the computed state by its table; the presented state by the mode (R6), with one stop
notice on a change from RUNNING to STOPPED (R7). -/
def Obligations.SampleCloseUpdatesMotion : Prop :=
  ∀ s : State, s.resetHeld = false →
    let moving := if s.track.pulseSeen then min (s.track.movingCount + 1) 15 else 0
    let still := if s.track.pulseSeen then 0 else min (s.track.stillCount + 1) 15
    let starts := s.track.computed = .stopped ∧ s.motionLock ≤ moving
    let stops := s.track.computed = .running ∧ s.motionUnlock ≤ still
    let computed := if starts then Motion.running else if stops then Motion.stopped else s.track.computed
    let track : Track :=
      { s.track with
        pulseSeen := false
        movingCount := if starts ∨ stops then 0 else moving
        stillCount := if starts ∨ stops then 0 else still
        computed := computed
        presented := presentedBy s.track.mode computed }
    exec .motionSampleClose s =
      .next (if s.track.presented = .running ∧ track.presented = .stopped then ({ s with track := track }.stopNotice).settle
        else { s with track := track }.settle)

/-- SET MOTION MODE: the mode and the presented state it gives, with the stop notice of R7; a mode that names none is BAD_PARAM. -/
def Obligations.SetMotionModeActs : Prop :=
  ∀ (s : State) (t : Telegram) (h l b : Byte), s.linesFollow → s.requestReady = some t → t.body = [0x08#8, h, l, b] →
    (∀ m : MotionMode, b = byteOf m.code →
      let track : Track := { s.track with mode := m, presented := presentedBy m s.track.computed }
      let u : State := { s.dequeued with track := track }
      exec .setMotionMode s =
        .next (((if s.track.presented = .running ∧ track.presented = .stopped then u.stopNotice else u).respond t
          (answer .ok [])).settle)) ∧
    (2 < b.toNat → exec .setMotionMode s = .next (s.answered t .badParam []))

/-! ## Chapter 2 -/

/-- ENTRY_EYE_CHANGE: a change from the accepted level begins a pending change, a return discards it without trace, a return on which a
blocked check waits reports EYE_BLOCKED, and while a reset is held only the pin is kept.
WIDTH_BEAM_CHANGE: the width maximum takes a greater count of covered beams while it is gathered. -/
def Obligations.EntryPinsFiltered : Prop :=
  (∀ (s : State) (l : LaneId) (level : Level), s.linesFollow → (s.lane l).entry.rawLevel ≠ level →
    let e := (s.lane l).entry
    let put (e' : EntrySensor) : State := s.modEntry l fun _ => e'
    (s.resetHeld = false → level ≠ e.level → e.pendingChange = none →
      exec (.entryEyeChange l level) s = .next (put
        { e with
          rawLevel := level
          pendingChange := some ⟨s.track.position, s.track.position + posOf s.eyeFilter⟩
          widthMax := if level = .covered then beamCount e.beams else e.widthMax })) ∧
    (s.resetHeld = false → level = e.level → e.pendingChange.isSome = true → e.blockedWaits = false →
      exec (.entryEyeChange l level) s = .next (put
        { e with rawLevel := level, pendingChange := none, widthMax := if level = .clear then 0 else e.widthMax })) ∧
    (s.resetHeld = false → level = e.level → e.pendingChange.isSome = true → e.blockedWaits = true →
      exec (.entryEyeChange l level) s = .next (((put
        { e with
          rawLevel := level
          pendingChange := none
          widthMax := if level = .clear then 0 else e.widthMax
          blockedWaits := false }).reportFault l .eyeBlocked).settle)) ∧
    (s.resetHeld = true → exec (.entryEyeChange l level) s = .next (put { e with rawLevel := level }))) ∧
  (∀ (s : State) (l : LaneId) (beams : BitVec 16), s.linesFollow → (s.lane l).entry.beams ≠ beams →
    exec (.widthBeamChange l beams) s =
      .next (s.modEntry l fun e =>
        { e with
          beams := beams
          widthMax := if e.level = .covered ∨ e.pendingChange.isSome = true then max e.widthMax (beamCount beams) else e.widthMax }))

/-- A confirmed change in IDLE or FAULTED moves the accepted level and is not passed on (R14, R19). -/
def Obligations.EntryEdgesHeldBack : Prop :=
  ∀ (s : State) (l : LaneId) (c : PendingChange), s.linesFollow → (s.lane l).entry.pendingChange = some c →
    (s.lane l).entry.rawLevel ≠ (s.lane l).entry.level → reached s.track.position c.confirm = true →
    (s.lane l).mode = .idle ∨ (s.lane l).mode = .faulted →
    exec (.entryEyeConfirm l) s =
      .next (s.modEntry l fun e =>
        { e with
          level := e.rawLevel
          pendingChange := none
          widthMax := if e.rawLevel = .clear then 0 else e.widthMax
          blockedWaits := if e.rawLevel = .clear then false else e.blockedWaits })

/-- A leading edge of a lane that passes edges on: the open piece and its blocked target, and a record from the head of the free list with
the head token at the tail of the in-flight list, and the snapshot of the token's article, if the token has mismatch no and the article is
valid; a record with no token is counted as a stray, with STRAY. With no record free the lane faults POOL_EMPTY. -/
def Obligations.LeadingEdgeTakesRecord : Prop :=
  (∀ (s : State) (l : LaneId) (c : PendingChange), (s.lane l).entry.pendingChange = some c →
    (s.lane l).entry.rawLevel = .covered → (s.lane l).entry.level = .clear → reached s.track.position c.confirm = true →
    (s.lane l).mode.passes = true →
    (∀ n rest, s.free = n :: rest →
      ∃ t, exec (.entryEyeConfirm l) s = .next t ∧ t.free = rest ∧
        (t.lane l).entry.level = .covered ∧ (t.lane l).entry.pendingChange = none ∧
        (t.lane l).entry.openPiece = some c.start ∧
        (t.lane l).entry.blockedTarget = some (c.start + posOf s.maxPieceLength + 1) ∧
        (t.lane l).tokens = (s.lane l).tokens.tail ∧
        (t.lane l).mode = (if (s.lane l).mode = .suspended then .suspending else (s.lane l).mode) ∧
        ((s.lane l).tokens = [] → s.memWf →
          t.word 7 (32 * l.val + 15) = s.word 7 (32 * l.val + 15) + 1 ∧ t.tables.warnings.stray = true) ∧
        ((s.lane l).tokens ≠ [] → t.mem = s.mem ∧ t.tables.warnings = s.tables.warnings) ∧
        ∃ r, (t.lane l).inFlight = (s.lane l).inFlight ++ [r] ∧ r.number = n ∧ r.lane = l ∧ r.lead = c.start ∧
          r.tokens = ((s.lane l).tokens.head?.map QueuedToken.token).toList ∧
          r.snapshot = (match (s.lane l).tokens.head? with
            | some q =>
              if q.token.mismatch = false ∧ s.articleValid q.token.article = true then some (s.snapshotOf q.token.article) else none
            | none => none) ∧
          r.expectedExit = c.start + posOf (s.exitDistance l) ∧ r.phase = .entering ∧ r.verdict = none ∧
          r.retirePosition = none ∧ r.forceOverflow = false ∧ r.destination = none) ∧
    (s.free = [] →
      ∃ t, exec (.entryEyeConfirm l) s = .next t ∧ (t.lane l).mode = .faulted ∧ (t.lane l).faultCode = some .poolEmpty ∧
        (t.lane l).entry.level = .covered ∧ (t.lane l).entry.openPiece = none ∧ (t.lane l).inFlight = [] ∧
        (t.lane l).tokens = [] ∧ (t.lane l).sched.gate = true)) ∧
  ∀ (s : State) (a : Nat),
    (s.articleValid a = true ↔
      (s.word 2 (8 * a)).getLsbD 0 = true ∧ 1 ≤ (s.word 2 (8 * a + 2)).toNat ∧ (s.word 2 (8 * a + 2)).toNat ≤ (s.word 2 (8 * a + 1)).toNat ∧
      (s.word 2 (8 * a + 1)).toNat ≤ (s.word 2 (8 * a + 3)).toNat ∧ (s.word 2 (8 * a + 3)).toNat ≤ 9000 ∧
      (s.word 2 (8 * a + 4)).toNat ≤ (s.word 2 (8 * a + 5)).toNat ∧ (s.word 2 (8 * a + 5)).toNat ≤ 16 ∧
      (s.word 2 (8 * a + 6)).toNat ≤ 31) ∧
    s.snapshotOf a =
      ⟨(s.word 2 (8 * a + 2)).toNat, (s.word 2 (8 * a + 3)).toNat, (s.word 2 (8 * a + 4)).toNat, (s.word 2 (8 * a + 5)).toNat,
       (s.word 2 (8 * a + 6)).toNat⟩

/-- A trailing edge of a lane that passes edges on: the last trailing edge, the width maximum back to 0, the open piece and blocked target
absent. -/
def Obligations.TrailingEdgeEndsPiece : Prop :=
  ∀ (s : State) (l : LaneId) (c : PendingChange), (s.lane l).entry.pendingChange = some c →
    (s.lane l).entry.rawLevel = .clear → (s.lane l).entry.level = .covered → reached s.track.position c.confirm = true →
    (s.lane l).mode.passes = true →
    ∃ t, exec (.entryEyeConfirm l) s = .next t ∧ (t.lane l).entry.level = .clear ∧ (t.lane l).entry.pendingChange = none ∧
      (t.lane l).entry.widthMax = 0 ∧ (t.lane l).entry.lastTrailing = some c.start ∧
      ((s.lane l).entry.openPiece.isSome = true →
        (t.lane l).entry.openPiece = none ∧ (t.lane l).entry.blockedTarget = none)

/-- The spacing monitor at a leading edge that is passed on: with a last trailing edge present the gap is short from 0 to the minimum gap
less 1 and else good; the counts are held at 15; the spacing state turns at the crowd settings, and FEED_SLOW follows it. With none
present no gap is taken. That the tail of a piece whose leading edge was not passed on counts as a last trailing edge, so that a gap is
taken from it also after LANE START (R20, R24) and after CLEAR FAULT (R23), is the model's choice (log entry 29). -/
def Obligations.SpacingFollowsGaps : Prop :=
  ∀ (s : State) (l : LaneId) (c : PendingChange), (s.lane l).entry.pendingChange = some c →
    (s.lane l).entry.rawLevel = .covered → (s.lane l).entry.level = .clear → reached s.track.position c.confirm = true →
    (s.lane l).mode.passes = true →
    let e := (s.lane l).entry
    (∀ last, e.lastTrailing = some last →
      let gap := (c.start - last).toInt
      let short := 0 ≤ gap ∧ gap < s.minimumGap l
      let shorts := if short then min (e.shortCount + 1) 15 else 0
      let goods := if short then 0 else min (e.goodCount + 1) 15
      let turns := (e.spacing = .normal ∧ s.crowdUnlock l ≤ shorts) ∨ (e.spacing = .crowded ∧ s.crowdLock l ≤ goods)
      ∃ t, exec (.entryEyeConfirm l) s = .next t ∧
        (t.lane l).entry.shortCount = (if turns then 0 else shorts) ∧ (t.lane l).entry.goodCount = (if turns then 0 else goods) ∧
        (t.lane l).entry.spacing = (if turns then (if e.spacing = .normal then .crowded else .normal) else e.spacing) ∧
        (t.lane l).entry.feedSlow = decide ((t.lane l).entry.spacing = .crowded)) ∧
    (e.lastTrailing = none →
      ∃ t, exec (.entryEyeConfirm l) s = .next t ∧ (t.lane l).entry.shortCount = e.shortCount ∧
        (t.lane l).entry.goodCount = e.goodCount ∧ (t.lane l).entry.spacing = e.spacing)

/-- The trailing edge of a piece with one unmarked, matching token and a snapshot: of a length and width within its windows it is ACCEPT, and
its fire windows join the schedule when none is late or crowded and there is room. Too short, it is REJECT SHORT: with a reject window
in time, over no other gate window, with a slot free and an end still ahead, that window joins the schedule, GATE is asserted if it is
OPEN, and the record's retire position is its end; too late, the record has its force overflow set and the schedule stays.
The trailing edge of any piece: a stray takes the snapshot of the one article that identifies it, under IDENTIFY_STRAYS, and else none; a
record with one token and a snapshot takes the head token as its second when it is a double. It is then judged and tried as
`TrailingTried` says, with LATE before CROWD, the merge of gate windows, and GATE_FULL. -/
def Obligations.TrailingEdgeSchedules : Prop :=
  (∀ (s : State) (l : LaneId) (c : PendingChange) (lead : Pos) (front : List PieceRecord) (r : PieceRecord) (k : Token) (sn : Snapshot),
    s.poolWhole → (s.lane l).entry.pendingChange = some c → (s.lane l).entry.rawLevel = .clear → (s.lane l).entry.level = .covered →
    reached s.track.position c.confirm = true → (s.lane l).mode.passes = true → (s.lane l).entry.openPiece = some lead →
    (s.lane l).inFlight = front ++ [r] → r.phase = .entering → r.tokens = [k] → k.marked = false → k.mismatch = false →
    r.snapshot = some sn →
    let length := (c.start - lead).toNat
    let width := (s.lane l).entry.widthMax
    let measured : PieceRecord := { r with length := some length, widthClass := some width, phase := .travelling }
    let fl := (s.lane l).sched
    let folds := s.foldWindows l measured c.confirm
    (sn.minLength ≤ length → length ≤ sn.maxLength → sn.minWidth ≤ width → width ≤ sn.maxWidth →
      (∀ w ∈ folds, before w.start (c.confirm + posOf s.scheduleMargin) = false) → fl.crowded folds = false →
      fl.windows.length + folds.length ≤ 16 →
      ∃ t, exec (.entryEyeConfirm l) s = .next t ∧ (t.lane l).inFlight = front ++ [{ measured with verdict := some .accept }] ∧
        (t.lane l).sched.windows = fl.windows ++ folds ∧ (t.lane l).sched.gate = fl.gate ∧ t.free = s.free) ∧
    (length < sn.minLength →
      let start := r.lead + posOf (s.gateDistance l) - posOf s.gateLead
      let stop := r.lead + posOf length + posOf (s.gateDistance l) + posOf s.gateTrail
      let opened := reached c.confirm start
      let w : Window := ⟨.gate, start, stop, if opened then .opened else .waiting, none⟩
      (before start (c.confirm + posOf s.scheduleMargin) = false → (∀ x ∈ fl.windows, x.output = .gate → w.overlaps x = false) →
        fl.windows.length < 16 → reached s.track.position stop = false →
        ∃ t, exec (.entryEyeConfirm l) s = .next t ∧
          (t.lane l).inFlight = front ++ [{ measured with verdict := some (.reject .short), retirePosition := some stop }] ∧
          (t.lane l).sched.windows = fl.windows ++ [w] ∧ (t.lane l).sched.gate = (fl.gate || opened) ∧
          (t.lane l).sched.folds = fl.folds) ∧
      (before start (c.confirm + posOf s.scheduleMargin) = true →
        ∃ t, exec (.entryEyeConfirm l) s = .next t ∧
          (t.lane l).inFlight = front ++ [{ measured with verdict := some (.reject .short), forceOverflow := true }] ∧
          (t.lane l).sched = fl))) ∧
  ∀ (s : State) (l : LaneId) (c : PendingChange) (lead : Pos) (front : List PieceRecord) (r : PieceRecord),
    s.poolWhole → (s.lane l).entry.pendingChange = some c → (s.lane l).entry.rawLevel = .clear → (s.lane l).entry.level = .covered →
    reached s.track.position c.confirm = true → (s.lane l).mode.passes = true → (s.lane l).entry.openPiece = some lead →
    (s.lane l).inFlight = front ++ [r] → r.phase = .entering →
    let length := (c.start - lead).toNat
    let width := (s.lane l).entry.widthMax
    let queue := (s.lane l).tokens
    let seen (tokens : List Token) (snapshot : Option Snapshot) : PieceRecord :=
      { r with tokens := tokens, snapshot := snapshot, length := some length, widthClass := some width, phase := .travelling }
    let tried (x : PieceRecord) (left : List QueuedToken) : Prop :=
      ∃ t, exec (.entryEyeConfirm l) s = .next t ∧ TrailingTried l front x left c.confirm s t
    let fits (a : Nat) : Prop :=
      1 ≤ a ∧ a ≤ 63 ∧ s.articleValid a = true ∧ s.articleIdent a = true ∧ s.articleWord a 2 ≤ length ∧ length ≤ s.articleWord a 3 ∧
      s.articleWord a 4 ≤ width ∧ width ≤ s.articleWord a 5
    let double (k : Token) (sn : Snapshot) (h : QueuedToken) : Prop :=
      sn.maxLength < length ∧ 2 * sn.minLength ≤ length ∧ h.token.article = k.article
    (r.tokens = [] →
      (∀ a, s.identifyStrays = true → fits a → (∀ b, fits b → b = a) → tried (seen [] (some (s.snapshotOf a))) queue) ∧
      (s.identifyStrays = false ∨ (¬ ∃ a, fits a ∧ ∀ b, fits b → b = a) → tried (seen [] none) queue)) ∧
    ∀ k, r.tokens = [k] →
      (∀ sn h rest, r.snapshot = some sn → queue = h :: rest → double k sn h → tried (seen [k, h.token] (some sn)) rest) ∧
      ((∀ sn h rest, r.snapshot = some sn → queue = h :: rest → ¬ double k sn h) → tried (seen [k] r.snapshot) queue)

/-- BLOCKED_TARGET_REACHED, MISSING_TARGET_REACHED and EXIT_BLOCKED_TARGET_REACHED: the check waits on a pending change that can settle it, and
otherwise faults the lane, EYE_BLOCKED or JAM, with its purge. -/
def Obligations.ReachedTargetsFault : Prop :=
  (∀ (s : State) (l : LaneId) (target : Pos), s.linesFollow → (s.lane l).entry.blockedTarget = some target →
    reached s.track.position target = true → (s.lane l).entry.level = .covered → (s.lane l).entry.blockedWaits = false →
    ((s.lane l).entry.pendingChange.isSome = true →
      exec (.blockedTargetReached l) s = .next (s.modEntry l fun e => { e with blockedWaits := true })) ∧
    ((s.lane l).entry.pendingChange = none → (s.lane l).mode.passes = true →
      ∃ t, exec (.blockedTargetReached l) s = .next t ∧ (t.lane l).mode = .faulted ∧
        (t.lane l).faultCode = some .eyeBlocked ∧ (t.lane l).returnToWait = false ∧ (t.lane l).feedHold = true ∧
        (t.lane l).tokens = [] ∧ (t.lane l).inFlight = [] ∧ (t.lane l).sched.windows = [] ∧
        (t.lane l).sched.folds = Vector.replicate 6 false ∧ (t.lane l).sched.gate = true ∧
        (t.lane l).sched.gateHold = true ∧ (t.lane l).entry.openPiece = none ∧ (t.lane l).entry.blockedTarget = none ∧
        (t.lane l).exit.arrival = .absent ∧ (t.lane l).exit.route = .overflow ∧ t.tables.alert = true)) ∧
  (∀ (s : State) (l : LaneId) (r : PieceRecord), s.linesFollow → (s.lane l).mode.passes = true → s.candidate l = some r →
    reached s.track.position (r.expectedExit + posOf (s.exitWindow l) + 1) = true → (s.lane l).exit.missingWaits = false →
    ((s.lane l).exit.level = .clear → (s.lane l).exit.pendingChange.isSome = true →
      exec (.missingTargetReached l) s = .next (s.modExit l fun x => { x with missingWaits := true })) ∧
    ((s.lane l).exit.level = .covered ∨ (s.lane l).exit.pendingChange = none →
      ∃ t, exec (.missingTargetReached l) s = .next t ∧ (t.lane l).mode = .faulted ∧ (t.lane l).faultCode = some .jam ∧
        (t.lane l).tokens = [] ∧ (t.lane l).inFlight = [] ∧ (t.lane l).sched.windows = [] ∧ (t.lane l).sched.gate = true)) ∧
  (∀ (s : State) (l : LaneId) (target : Pos), s.linesFollow → (s.lane l).exit.blockedTarget = some target →
    reached s.track.position target = true → (s.lane l).exit.level = .covered → (s.lane l).exit.blockedWaits = false →
    ((s.lane l).exit.pendingChange.isSome = true →
      exec (.exitBlockedTargetReached l) s = .next (s.modExit l fun x => { x with blockedWaits := true })) ∧
    ((s.lane l).exit.pendingChange = none → (s.lane l).mode.passes = true →
      ∃ t, exec (.exitBlockedTargetReached l) s = .next t ∧ (t.lane l).mode = .faulted ∧ (t.lane l).faultCode = some .jam ∧
        (t.lane l).tokens = [] ∧ (t.lane l).inFlight = [] ∧ (t.lane l).exit.arrival = .absent ∧
        (t.lane l).exit.blockedTarget = none ∧ (t.lane l).exit.route = .overflow))

/-! ## Chapters 3 and 4 -/

/-- A PIECE telegram for a lane with room in its queue. Working, with an ACTIVE entry: the token is assigned, and queued with its arrival and
expiry positions; a SUSPENDED lane turns SUSPENDING; at the quota the entry is CLOSING, the cursor moves and the entry at the next index
is claimed, or the claim fails and a RUNNING lane turns DRY. Working, with no ACTIVE entry: the re-read claims at the cursor and the token
is assigned to that entry and queued, a DRY lane turning RUNNING, or it is discarded with UNPLANNED_TOKEN. FAULTED: the token is assigned
to the ACTIVE entry and at once counted LOST there and on page 7, or with no ACTIVE entry discarded with UNPLANNED_TOKEN. -/
def Obligations.PieceTelegramQueuesToken : Prop :=
  ∀ (s : State) (t : Telegram) (a : Announcement), s.memWf → s.ring.receive = .withSlot →
    passesChecks t = true → s.ring.isRepeater = false → t.src.toNat ≤ 31 → t.src ≠ addressByte s.ring.address →
    t.dest = addressByte s.ring.address → isBounced t = false → t.kind = 0x01#8 → announcementOf t.body = some a →
    (s.lane a.lane).tokens.length < 8 →
    let L := s.lane a.lane
    let queued (e : EntryId) : List QueuedToken :=
      L.tokens ++
        [{ token :=
            { serial := a.serial, article := a.article, marked := a.marked, entry := e
              mismatch := decide (a.article = 0 ∨ a.article ≠ s.entryArticle e) }
           arrival := s.track.position
           expiry := s.track.position + posOf (s.tokenTravelLimit a.lane) }]
    let claimed (u : State) (c : EntryId) : Prop := u.entryStatus c = some .active ∧ u.entryWord c 5 = wordOf a.lane.val
    (∀ e, L.mode.passes = true → s.activeEntry a.lane = some e →
      ∃ u, exec (.telegramReceived t) s = .next u ∧ u.ring.receive = .none ∧ (u.lane a.lane).tokens = queued e ∧
        (u.lane a.lane).inFlight = L.inFlight ∧ u.entryWord e 6 = s.entryWord e 6 + 1 ∧
        (L.mode = .suspended → (u.lane a.lane).mode = .suspending) ∧
        (s.entryWord e 6 + 1 ≠ s.entryWord e 3 →
          u.entryStatus e = some .active ∧ (u.lane a.lane).cursor = L.cursor ∧ (u.lane a.lane).openList = L.openList ∧
          (L.mode ≠ .suspended → (u.lane a.lane).mode = L.mode)) ∧
        (s.entryWord e 6 + 1 = s.entryWord e 3 →
          let n := s.nextIndex a.lane e
          u.entryStatus e = some .closing ∧ (u.lane a.lane).cursor = n ∧
          (s.claimable n = true → L.openList.length < 16 →
            claimed u n ∧ (∀ k, 6 ≤ k → k ≤ 11 → u.entryWord n k = 0) ∧
            (u.lane a.lane).openList = L.openList ++ [⟨n, s.resolvedTarget n⟩] ∧
            (L.mode ≠ .suspended → (u.lane a.lane).mode = L.mode)) ∧
          (s.claimable n = false ∨ 16 ≤ L.openList.length →
            (u.lane a.lane).openList = L.openList ∧
            (L.mode ≠ .suspended → (u.lane a.lane).mode = if L.mode = .running then .dry else L.mode)) ∧
          (s.entryWaits n = true → s.planValid n = false → u.tables.warnings.badEntry = true))) ∧
    (L.mode.passes = true → s.activeEntry a.lane = none →
      let c := L.cursor
      (s.claimable c = true → L.openList.length < 16 →
        ∃ u, exec (.telegramReceived t) s = .next u ∧ (u.lane a.lane).tokens = queued c ∧
          (u.lane a.lane).inFlight = L.inFlight ∧ u.entryWord c 6 = 1 ∧ u.entryWord c 5 = wordOf a.lane.val ∧
          (L.mode = .suspended → (u.lane a.lane).mode = .suspending) ∧
          (s.entryQuota c ≠ 1 →
            claimed u c ∧ (u.lane a.lane).cursor = c ∧ (u.lane a.lane).openList = L.openList ++ [⟨c, s.resolvedTarget c⟩] ∧
            (L.mode = .dry → (u.lane a.lane).mode = .running) ∧
            (L.mode = .wait ∨ L.mode = .suspending → (u.lane a.lane).mode = L.mode)) ∧
          (s.entryQuota c = 1 → u.entryStatus c = some .closing ∧ (u.lane a.lane).cursor = s.nextIndex a.lane c)) ∧
      (s.claimable c = false ∨ 16 ≤ L.openList.length →
        ∃ u, exec (.telegramReceived t) s = .next u ∧ (u.lane a.lane).tokens = L.tokens ∧ (u.lane a.lane).mode = L.mode ∧
          (u.lane a.lane).cursor = c ∧ (u.lane a.lane).openList = L.openList ∧ u.mem = s.mem ∧
          u.tables.warnings.unplannedToken = true ∧
          (s.entryWaits c = true → s.planValid c = false → u.tables.warnings.badEntry = true))) ∧
    (L.mode = .faulted →
      (∀ e, s.activeEntry a.lane = some e →
        ∃ u, exec (.telegramReceived t) s = .next u ∧ (u.lane a.lane).tokens = L.tokens ∧ (u.lane a.lane).mode = .faulted ∧
          u.entryWord e 6 = s.entryWord e 6 + 1 ∧ u.entryWord e 10 = s.entryWord e 10 + 1 ∧
          u.word 7 (32 * a.lane.val + 3) = s.word 7 (32 * a.lane.val + 3) + 1 ∧
          u.tables.warnings.tokenLost = s.tables.warnings.tokenLost) ∧
      (s.activeEntry a.lane = none →
        exec (.telegramReceived t) s =
          .next ({ s with ring := { s.ring with receive := .none } }.raise .unplannedToken (some a.lane)).settle))

/-- A PIECE telegram for a lane whose token queue holds 8 tokens, and a REQUEST while the request queue holds 4, are bounced: BOUNCED set,
the CRC computed again, at the tail of the forward queue, and the bounced count raised. -/
def Obligations.FullQueuesBounceTelegrams : Prop :=
  ∀ (s : State) (t : Telegram), s.ring.receive = .withSlot → passesChecks t = true →
    s.ring.isRepeater = false → t.src.toNat ≤ 31 → t.src ≠ addressByte s.ring.address → t.dest = addressByte s.ring.address →
    isBounced t = false →
    (∃ a, t.kind = 0x01#8 ∧ announcementOf t.body = some a ∧ 8 ≤ (s.lane a.lane).tokens.length) ∨
      (t.kind = 0x02#8 ∧ 4 ≤ s.ring.requestQueue.length) →
    ∃ b : Telegram, b.kind = t.kind ∧ b.dest = t.dest ∧ b.src = t.src ∧ b.body = t.body ∧ b.flags = t.flags ||| 1#8 ∧
      b.crc = crcOf (checkedBytes b) ∧
      exec (.telegramReceived t) s =
        .next ({ s.setWord 7 129 (s.word 7 129 + 1) with
          ring := { s.ring with
            receive := .none
            forwardQueue := s.ring.forwardQueue ++ [Forwarded.mk b false] } }.settle)

/-- TOKEN_EXPIRY: the oldest expired token leaves the queue, the lane's lost counter rises, TOKEN_LOST is latched.
RETIRE_POSITION_REACHED: the first gated record that has reached its retire position leaves its lane's list for the tail of the free
list, and the lane's rejected counter rises by its bookings. -/
def Obligations.RetirementsBookOutcomes : Prop :=
  (∀ (s : State) (l : LaneId) (q : QueuedToken) (rest : List QueuedToken), s.memWf → (s.lane l).tokens = q :: rest →
     reached s.track.position q.expiry = true →
     ∃ t, exec (.tokenExpiry l) s = .next t ∧ (t.lane l).tokens = rest ∧ (t.lane l).inFlight = (s.lane l).inFlight ∧
       t.free = s.free ∧ t.tables.warnings.tokenLost = true ∧ t.tables.alert = true ∧
       t.word 7 (32 * l.val + 3) = s.word 7 (32 * l.val + 3) + 1 ∧
       t.entryWord q.token.entry 10 = s.entryWord q.token.entry 10 + 1) ∧
  (∀ (s : State) (l : LaneId) (n : RecordNo) (r : PieceRecord), s.memWf → s.poolWhole → s.dueRetirement l = some r →
     r.number = n →
     ∃ t, exec (.retirePositionReached l) s = .next t ∧ t.free = s.free ++ [n] ∧
       (t.lane l).inFlight = (s.lane l).inFlight.filter (fun x => decide (x.number ≠ n)) ∧
       (t.lane l).tokens = (s.lane l).tokens ∧
       t.word 7 (32 * l.val + 1) = s.word 7 (32 * l.val + 1) + wordOf (if r.tokens = [] then 1 else r.tokens.length))

/-- The verdict: the first reject reason that applies, in the order of R55, and else ACCEPT_OVERFLOW without a token, ACCEPT with one. -/
def Obligations.VerdictFollowsOrder : Prop :=
  ∀ r : PieceRecord,
    (∀ t rest, r.tokens = t :: rest → t.marked = true → verdictOf r = .reject .marked) ∧
    (∀ t rest, r.tokens = t :: rest → t.marked = false → t.mismatch = true → verdictOf r = .reject .article) ∧
    (∀ t rest, r.tokens = t :: rest → t.marked = false → t.mismatch = false → r.snapshot = none →
      verdictOf r = .reject .noEntry) ∧
    (r.tokens = [] → r.snapshot = none → verdictOf r = .reject .stray) ∧
    ∀ sn, r.snapshot = some sn → (∀ t rest, r.tokens = t :: rest → t.marked = false ∧ t.mismatch = false) →
      verdictOf r =
        if r.tokens.length = 2 then .reject .double
        else if r.lengthOf < sn.minLength then .reject .short
        else if sn.maxLength < r.lengthOf then .reject .long
        else if r.widthOf < sn.minWidth ∨ sn.maxWidth < r.widthOf then .reject .width
        else if r.tokens = [] then .acceptOverflow else .accept

/-! ## Chapter 5 -/

/-- WINDOW_OPEN: the first WAITING window of the output whose start is reached becomes OPEN, and its output is asserted. WINDOW_END: the first
window of the output whose end is reached is removed; an OPEN one releases its output, but GATE stays asserted under the gate hold. That a
row names the output and takes the first such window of the list is the model's choice (log entry 17). -/
def Obligations.WindowsOpenAndEnd : Prop :=
  (∀ (s : State) (l : LaneId) (o : Output) (front back : List Window) (w : Window), s.linesFollow →
    (s.lane l).sched.windows = front ++ w :: back → w.opensAt o s.track.position = true →
    (∀ x ∈ front, x.opensAt o s.track.position = false) →
    exec (.windowOpen l o) s =
      .next (s.modSched l fun fl =>
        { fl with
          windows := front ++ { w with state := .opened } :: back
          folds := match o with | .fold f => fl.folds.set f true | .gate => fl.folds
          gate := match o with | .fold _ => fl.gate | .gate => true })) ∧
  (∀ (s : State) (l : LaneId) (o : Output) (front back : List Window) (w : Window), s.linesFollow →
    (s.lane l).sched.windows = front ++ w :: back → w.endsAt o s.track.position = true →
    (∀ x ∈ front, x.endsAt o s.track.position = false) →
    exec (.windowEnd l o) s =
      .next (s.modSched l fun fl =>
        { fl with
          windows := front ++ back
          folds := match o, w.state with | .fold f, .opened => fl.folds.set f false | _, _ => fl.folds
          gate := match o, w.state with | .gate, .opened => fl.gateHold | _, _ => fl.gate }))

/-! ## Chapter 6 -/

/-- EXIT_EYE_CHANGE: a change from the accepted level begins a pending change, a return discards it, a return on which a check waits
reports JAM, and while a reset is held only the pin is kept. -/
def Obligations.ExitEyeChangeFilters : Prop :=
  ∀ (s : State) (l : LaneId) (level : Level), s.linesFollow → (s.lane l).exit.rawLevel ≠ level →
    let x := (s.lane l).exit
    let put (x' : ExitUnit) : State := s.modExit l fun _ => x'
    (s.resetHeld = false → level ≠ x.level → x.pendingChange = none →
      exec (.exitEyeChange l level) s = .next (put
        { x with rawLevel := level, pendingChange := some ⟨s.track.position, s.track.position + posOf s.eyeFilter⟩ })) ∧
    (s.resetHeld = false → level = x.level → x.pendingChange.isSome = true → x.blockedWaits = false → x.missingWaits = false →
      exec (.exitEyeChange l level) s = .next (put { x with rawLevel := level, pendingChange := none })) ∧
    (s.resetHeld = false → level = x.level → x.pendingChange.isSome = true → x.blockedWaits = true ∨ x.missingWaits = true →
      exec (.exitEyeChange l level) s = .next (((put
        { x with rawLevel := level, pendingChange := none, blockedWaits := false, missingWaits := false }).reportFault l
          .jam).settle)) ∧
    (s.resetHeld = true → exec (.exitEyeChange l level) s = .next (put { x with rawLevel := level }))

/-- An exit leading edge that the candidate matches: the record AT_EXIT with its destination, ROUTE on it, and the exit blocked target. The
destination is OVERFLOW for a record that is not ACCEPT or is set to force overflow, and, with its warning, in WAIT. Else it is the lane's
FILLING place of the identity of the first token's entry; or, with none, the first FREE place of the held list, opened with the stack
serial, whose counter adds 1; or, with none FREE, OVERFLOW with the starved mark. A FILLING place of another identity is first closed
short, or freed at count 0.
An exit leading edge with no candidate, or whose edge position lies before the candidate's window, is a phantom: ROUTE stays, the
phantom count rises, PHANTOM is latched, and no record is touched; with a missing check that waited on it the lane then faults JAM. -/
def Obligations.ExitLeadingEdgeActs : Prop :=
  (∀ (s : State) (l : LaneId) (c : PendingChange) (r : PieceRecord), s.poolWhole → (s.lane l).exit.pendingChange = some c →
     (s.lane l).exit.rawLevel = .covered → (s.lane l).exit.level = .clear → reached s.track.position c.confirm = true →
     (s.lane l).mode.passes = true → s.candidate l = some r → r.phase = .travelling →
     inExitWindow c.start r.expectedExit (s.exitWindow l) = true →
     ∃ t d, exec (.exitEyeConfirm l) s = .next t ∧ (t.lane l).exit.level = .covered ∧ (t.lane l).exit.pendingChange = none ∧
       (t.lane l).exit.arrival = .matched r.number ∧ (t.lane l).exit.route = d ∧
       (t.lane l).exit.blockedTarget = some (c.start + posOf r.lengthOf + posOf (s.exitWindow l) + 1) ∧
       (t.lane l).inFlight = (s.lane l).inFlight.map (fun x =>
         if x.number = r.number then { x with phase := .atExit, destination := some d } else x) ∧
       (r.verdict ≠ some .accept ∨ r.forceOverflow = true →
         d = .overflow ∧ t.places = s.places ∧ t.stackSerial = s.stackSerial ∧ t.tables.warnings = s.tables.warnings) ∧
       (r.verdict = some .accept → r.forceOverflow = false → (s.lane l).mode = .wait →
         d = .overflow ∧ t.places = s.places ∧ t.stackSerial = s.stackSerial ∧ t.tables.warnings.overflow = true) ∧
       (r.verdict = some .accept → r.forceOverflow = false → (s.lane l).mode ≠ .wait → s.stacksCoherent →
         ∀ k rest, r.tokens = k :: rest →
         let customer := s.entryCustomer k.entry
         let article := s.entryArticle k.entry
         let same (q : PlaceId) : Prop := (s.place q).customer = customer ∧ (s.place q).article = article
         let opens (p : PlaceId) : Prop :=
           d = .place p ∧ t.stackSerial = s.stackSerial + 1 ∧
           t.place p =
             { Place.reset with
               state := .filling, lane := some l, customer := customer, article := article, target := s.heldTarget l k.entry,
               serial := s.stackSerial, inbound := true }
         let starves : Prop :=
           d = .overflow ∧ t.stackSerial = s.stackSerial ∧ (t.lane l).starved = true ∧ t.tables.warnings.overflow = true
         let firstOf (free : PlaceId → Prop) (p : PlaceId) : Prop :=
           ∃ front back, (s.lane l).held = front ++ p :: back ∧ (∀ q ∈ front, ¬ free q) ∧ free p
         let free (p : PlaceId) : Prop := (s.place p).state = .free
         (∀ q, s.fillingPlace l = some q → same q →
           d = .place q ∧ t.place q = { s.place q with inbound := true } ∧ t.stackSerial = s.stackSerial ∧
           ∀ p, p ≠ q → t.place p = s.place p) ∧
         (s.fillingPlace l = none →
           (∀ p, firstOf free p → opens p ∧ ∀ q, q ≠ p → t.place q = s.place q) ∧
           ((∀ p ∈ (s.lane l).held, ¬ free p) → starves ∧ t.places = s.places)) ∧
         (∀ q, s.fillingPlace l = some q → ¬ same q → (s.place q).inbound = false → 0 < (s.place q).count →
           (t.place q).short = true ∧ (t.place q).count = (s.place q).count ∧
           ((t.place q).state = .full ∨ (t.place q).state = .discharging) ∧
           (∀ p, firstOf free p → opens p) ∧ ((∀ p ∈ (s.lane l).held, ¬ free p) → starves)) ∧
         (∀ q, s.fillingPlace l = some q → ¬ same q → (s.place q).inbound = false → (s.place q).count = 0 →
           (∀ p, firstOf (fun x => free x ∨ x = q) p → opens p ∧ (p ≠ q → t.place q = Place.reset)) ∧
           ((∀ p ∈ (s.lane l).held, ¬ free p ∧ p ≠ q) → starves ∧ t.place q = Place.reset)))) ∧
  (∀ (s : State) (l : LaneId) (c : PendingChange), s.memWf → (s.lane l).exit.pendingChange = some c →
     (s.lane l).exit.rawLevel = .covered → (s.lane l).exit.level = .clear → reached s.track.position c.confirm = true →
     (s.lane l).mode.passes = true →
     (s.candidate l = none ∨ ∃ r, s.candidate l = some r ∧
       (r.phase = .entering ∨ before c.start (r.expectedExit - posOf (s.exitWindow l)) = true)) →
     ∃ t, exec (.exitEyeConfirm l) s = .next t ∧ (t.lane l).exit.level = .covered ∧ (t.lane l).exit.pendingChange = none ∧
       t.word 7 (32 * l.val + 16) = s.word 7 (32 * l.val + 16) + 1 ∧ t.tables.warnings.phantom = true ∧
       ((s.lane l).exit.missingWaits = false →
         (t.lane l).exit.arrival = .phantom ∧ (t.lane l).exit.route = (s.lane l).exit.route ∧
         (t.lane l).exit.blockedTarget = some (c.start + posOf s.maxPieceLength + posOf (s.exitWindow l) + 1) ∧
         (t.lane l).inFlight = (s.lane l).inFlight ∧ t.places = s.places) ∧
       ((s.lane l).exit.missingWaits = true →
         (t.lane l).mode = .faulted ∧ (t.lane l).faultCode = some .jam ∧ (t.lane l).exit.arrival = .absent ∧
         (t.lane l).exit.blockedTarget = none ∧ (t.lane l).exit.missingWaits = false ∧ (t.lane l).inFlight = [] ∧
         (t.lane l).tokens = []))

/-- An exit trailing edge of a matched record: the record is retired, the arrival and its target become absent, ROUTE returns to OVERFLOW,
and the lane counter of its outcome rises by its bookings, the count of its entry by 1. A record routed to a place is counted into it: the
count, the last serial and entry, at count 1 the first ones, and the inbound mark cleared. At the target the place is FULL, with short no,
in the discharge queue, or its discharge has begun; below it a pending close makes it FULL with short yes. -/
def Obligations.ExitTrailingEdgeRetires : Prop :=
  ∀ (s : State) (l : LaneId) (c : PendingChange) (r : PieceRecord), s.memWf → s.poolWhole →
    (s.lane l).exit.pendingChange = some c → (s.lane l).exit.rawLevel = .clear → (s.lane l).exit.level = .covered →
    reached s.track.position c.confirm = true → (s.lane l).mode.passes = true → r ∈ (s.lane l).inFlight →
    (s.lane l).exit.arrival = .matched r.number →
    ∃ t, exec (.exitEyeConfirm l) s = .next t ∧ (t.lane l).exit.level = .clear ∧ (t.lane l).exit.arrival = .absent ∧
      (t.lane l).exit.blockedTarget = none ∧ (t.lane l).exit.route = .overflow ∧ t.free = s.free ++ [r.number] ∧
      (t.lane l).inFlight = (s.lane l).inFlight.filter (fun x => decide (x.number ≠ r.number)) ∧
      (∀ p, r.destination = some (.place p) →
        t.word 7 (32 * l.val) = s.word 7 (32 * l.val) + wordOf (if r.tokens = [] then 1 else r.tokens.length) ∧
        ∀ k, r.tokens = [k] → t.entryWord k.entry 7 = s.entryWord k.entry 7 + 1) ∧
      (r.destination = some .overflow → r.forceOverflow = false →
        t.word 7 (32 * l.val + 2) = s.word 7 (32 * l.val + 2) + wordOf (if r.tokens = [] then 1 else r.tokens.length) ∧
        ∀ k, r.tokens = [k] → t.entryWord k.entry 9 = s.entryWord k.entry 9 + 1) ∧
      (r.destination = some .overflow → r.forceOverflow = true →
        t.word 7 (32 * l.val + 1) = s.word 7 (32 * l.val + 1) + wordOf (if r.tokens = [] then 1 else r.tokens.length) ∧
        ∀ k, r.tokens = [k] → t.entryWord k.entry 8 = s.entryWord k.entry 8 + 1) ∧
      (s.stacksCoherent → ∀ p k rest, r.destination = some (.place p) → r.tokens = k :: rest →
        let pl := s.place p
        let q := t.place p
        q.count = pl.count + 1 ∧ q.lastSerial = k.serial ∧ q.lastEntry = some k.entry ∧ q.inbound = false ∧
        q.firstSerial = (if pl.count = 0 then k.serial else pl.firstSerial) ∧
        q.firstEntry = (if pl.count = 0 then some k.entry else pl.firstEntry) ∧
        q.lane = pl.lane ∧ q.customer = pl.customer ∧ q.article = pl.article ∧ q.target = pl.target ∧ q.serial = pl.serial ∧
        (pl.count + 1 = pl.target →
          q.short = false ∧ q.closePending = false ∧ (q.state = .full ∨ q.state = .discharging) ∧
          (s.discharge.outfeed ≠ .idle → q.state = .full ∧ p ∈ t.discharge.queue)) ∧
        (pl.count + 1 ≠ pl.target → pl.closePending = true →
          q.short = true ∧ q.closePending = false ∧ (q.state = .full ∨ q.state = .discharging) ∧
          (s.discharge.outfeed ≠ .idle → q.state = .full ∧ p ∈ t.discharge.queue)) ∧
        (pl.count + 1 ≠ pl.target → pl.closePending = false → (∀ x ∈ r.tokens, s.entryStatus x.entry ≠ some .closing) →
          q.state = .filling ∧ q.short = pl.short))

/-- CLOSE PLACE by the state of the place named; a place above 7 is BAD_PARAM, a body of the wrong length BAD_LENGTH. -/
def Obligations.ClosePlaceActs : Prop :=
  ∀ (s : State) (t : Telegram), s.linesFollow → s.requestReady = some t → t.body.head? = some 0x18#8 →
    (∀ (h l : Byte) (p : PlaceId), t.body = [0x18#8, h, l, byteOf p.val] →
      ((s.place p).state = .filling → (s.place p).inbound = true →
        exec .closePlace s =
          .next ((s.dequeued.modPlace p fun pl => { pl with closePending := true }).respond t (answer .ok []))) ∧
      ((s.place p).state = .filling → (s.place p).inbound = false → 0 < (s.place p).count →
        exec .closePlace s = .next (((s.dequeued.makeFull p true).respond t (answer .ok [])).settle)) ∧
      ((s.place p).state = .filling → (s.place p).inbound = false → (s.place p).count = 0 →
        exec .closePlace s = .next (((s.dequeued.freePlace p).respond t (answer .ok [])).settle)) ∧
      ((s.place p).state ≠ .filling → exec .closePlace s = .next (s.answered t .wrongState []))) ∧
    (∀ h l b : Byte, t.body = [0x18#8, h, l, b] → 7 < b.toNat → exec .closePlace s = .next (s.answered t .badParam [])) ∧
    (t.body.length ≠ 4 → exec .closePlace s = .next (s.answered t .badLength []))

/-! ## Chapter 7 -/

/-- DISCHARGE_START: the head place DISCHARGING and current, its STACK report made from its record at the tail of the report queue, PUSH of
the place and OUTFEED_RUN asserted, the outfeed MOVING, seen covered no, the timer started with the outfeed timeout. -/
def Obligations.DischargeStartPushesHead : Prop :=
  ∀ (s : State) (p : PlaceId) (rest : List PlaceId), s.linesFollow → s.discharge.outfeed = .idle →
    s.discharge.queue = p :: rest → s.ring.reportQueue.length < 16 →
    exec .dischargeStart s =
      .next { s.modPlace p fun pl => { pl with state := .discharging } with
        ring := { s.ring with reportQueue := s.ring.reportQueue ++ [s.reportTelegram (.stack p (s.place p))] }
        discharge := { s.discharge with
          queue := rest
          current := some p
          outfeed := .moving
          seenCovered := false
          timer := some s.outfeedTimeoutMs
          push := (Vector.replicate 8 false).set p true
          run := true } }

/-- OUTFEED_EYE_CHANGE: the change is pending while the raw level differs from the accepted one, and is discarded on its return.
OUTFEED_EYE_CONFIRM: out of MOVING, and on clearing with seen covered no, only the accepted level moves; in MOVING a covering sets seen
covered, and a clearing after one completes the discharge: the place FREE, the outfeed IDLE, the count raised, the next discharge
started if it can. -/
def Obligations.OutfeedEyeActs : Prop :=
  (∀ (s : State) (level : Level), s.linesFollow → s.discharge.rawLevel ≠ level →
    exec (.outfeedEyeChange level) s =
      .next { s with
        discharge := { s.discharge with
          rawLevel := level
          changePending := if s.resetHeld then s.discharge.changePending else decide (level ≠ s.discharge.level) } }) ∧
  (∀ s : State, s.linesFollow → s.discharge.changePending = true → s.discharge.rawLevel ≠ s.discharge.level →
    let accepted : Discharge := { s.discharge with level := s.discharge.rawLevel, changePending := false }
    (s.discharge.outfeed ≠ .moving ∨ (s.discharge.rawLevel = .clear ∧ s.discharge.seenCovered = false) →
      exec .outfeedEyeConfirm s = .next { s with discharge := accepted }) ∧
    (s.discharge.outfeed = .moving → s.discharge.rawLevel = .covered →
      exec .outfeedEyeConfirm s = .next { s with discharge := { accepted with seenCovered := true } }) ∧
    ∀ p, s.discharge.outfeed = .moving → s.discharge.rawLevel = .clear → s.discharge.seenCovered = true →
      s.discharge.current = some p →
      exec .outfeedEyeConfirm s =
        .next (((({ s with discharge :=
            { accepted with outfeed := .idle, current := none, timer := none, seenCovered := false } }.freePlace
          p).addStationCounter 128).tryDischarge).settle))

/-- OUTFEED_TIMEOUT: the current place BLOCKED with all its fields, PUSH and OUTFEED_RUN released, the outfeed STALLED, seen covered no, the
timer stopped, and a FAULT report naming OUTFEED_TIMEOUT and the place produced. -/
def Obligations.OutfeedTimeoutStalls : Prop :=
  ∀ (s : State) (p : PlaceId), s.discharge.outfeed = .moving → s.discharge.timer.isSome = true →
    s.discharge.current = some p →
    exec .outfeedTimeout s =
      .next ((({ s.modPlace p fun pl => { pl with state := .blocked } with
        discharge := { s.discharge with outfeed := .stalled, timer := none, seenCovered := false } }).produce
          (.outfeedTimeout p)).settle) ∧
    ∃ t, exec .outfeedTimeout s = .next t ∧ t.place p = { s.place p with state := .blocked } ∧
      t.discharge.push = Vector.replicate 8 false ∧ t.discharge.run = false ∧ t.tables.alert = true ∧
      t.discharge.queue = s.discharge.queue

/-- RELEASE OUTFEED: in STALLED the BLOCKED place becomes FREE, the outfeed IDLE with no current place, starved lanes are examined and the
head of the queue starts if it can; in IDLE and MOVING it answers WRONG_STATE; a body of the wrong length answers BAD_LENGTH. -/
def Obligations.ReleaseOutfeedActs : Prop :=
  ∀ (s : State) (t : Telegram), s.linesFollow → s.requestReady = some t → t.body.head? = some 0x19#8 →
    (∀ (h l : Byte) (p : PlaceId), t.body = [0x19#8, h, l] → s.discharge.outfeed = .stalled → s.discharge.current = some p →
      exec .releaseOutfeed s =
        .next (((({ s.dequeued with discharge :=
            { s.discharge with outfeed := .idle, current := none, timer := none, seenCovered := false } }.freePlace
          p).tryDischarge).respond t (answer .ok [])).settle)) ∧
    (∀ h l : Byte, t.body = [0x19#8, h, l] → s.discharge.outfeed ≠ .stalled →
      exec .releaseOutfeed s = .next (s.answered t .wrongState [])) ∧
    (t.body.length ≠ 3 → exec .releaseOutfeed s = .next (s.answered t .badLength []))

/-! ## Chapter 8 -/

/-- A booking that drains the one entry of a lane's list completes it: COMPLETE with VALID cleared, off the list, its counts added to the
open lot, which a LOT_END closes; its ENTRY report is queued when it has NOTIFY and there is room; a RUNNING lane enters WAIT on
HOLD_AFTER. Here the booking is the loss of an expired token. That a lot closed by LOT_END keeps its sums is the model's choice (log entry 24).
An entry that drains behind the head becomes DRAINED and waits. A head that drains completes, and every DRAINED entry behind it up to the
first other one: all are COMPLETE and off the list, and added to the lot; of their HOLD_AFTER flags the first puts a RUNNING lane in WAIT
and a second sets wait-pending.
An entry with LOT_START cuts off an open lot, which is reported UNTERMINATED, and opens the accumulator anew, as the first entry of a closed
one does, marked UNMARKED_START without LOT_START. LOT_END reports the lot with the entry's counts added. Here the entry has NOTIFY 0
and the lane no FILLING place of its identity. -/
def Obligations.LastBookingCompletesEntry : Prop :=
  (∀ (s : State) (l : LaneId) (q : QueuedToken) (rest : List QueuedToken) (it : OpenItem), s.memWf → (s.lane l).tokens = q :: rest →
    reached s.track.position q.expiry = true → (s.lane l).openList = [it] → q.token.entry = it.entry →
    s.entryStatus it.entry = some .closing → (s.entryWord it.entry 10).toNat + 1 < 65536 →
    s.entryAssigned it.entry = s.entryRetired it.entry + 1 → (s.lane l).mode = .running →
    ∃ t, exec (.tokenExpiry l) s = .next t ∧ t.entryStatus it.entry = some .complete ∧ t.entryValid it.entry = false ∧
      (t.lane l).openList = [] ∧ (t.lane l).mode = (if s.entryHoldAfter it.entry then .wait else .running) ∧
      (s.entryNotify it.entry = true → s.ring.reportQueue.length < 16 →
        ∃ more, t.ring.reportQueue = s.ring.reportQueue ++ s.ownTelegram .entry 0x00#8
          ([byteOf l.val, byteOf it.entry.val, 0x05#8] ++ wordBytes (s.entryWord it.entry 2) ++
            [byteOf (s.entryArticle it.entry)] ++ wordBytes (s.entryWord it.entry 3) ++ [byteOf it.target] ++
            wordBytes (s.entryWord it.entry 6) ++ wordBytes (s.entryWord it.entry 7) ++ wordBytes (s.entryWord it.entry 8) ++
            wordBytes (s.entryWord it.entry 9) ++ wordBytes (s.entryWord it.entry 10 + 1) ++ wordBytes (s.entryWord it.entry 11)) ::
          more) ∧
      ((s.lane l).lot.inProgress = true → s.entryLotStart it.entry = false →
        (t.lane l).lot.inProgress = !s.entryLotEnd it.entry ∧ (t.lane l).lot.entries = (s.lane l).lot.entries + 1 ∧
        (t.lane l).lot.lastEntry = it.entry ∧
        (t.lane l).lot.delivered = (s.lane l).lot.delivered + s.entryWord it.entry 7 ∧
        (t.lane l).lot.rejected = (s.lane l).lot.rejected + s.entryWord it.entry 8 ∧
        (t.lane l).lot.overflowed = (s.lane l).lot.overflowed + s.entryWord it.entry 9 ∧
        (t.lane l).lot.lost = (s.lane l).lot.lost + (s.entryWord it.entry 10 + 1))) ∧
  (∀ (s : State) (l : LaneId) (q : QueuedToken) (rest : List QueuedToken) (it : OpenItem) (items : List OpenItem), s.memWf →
    (s.lane l).tokens = q :: rest → reached s.track.position q.expiry = true → (s.lane l).openList = it :: items →
    q.token.entry ≠ it.entry → s.entryStatus q.token.entry = some .closing → (s.entryWord q.token.entry 10).toNat + 1 < 65536 →
    s.entryAssigned q.token.entry = s.entryRetired q.token.entry + 1 →
    ∃ t, exec (.tokenExpiry l) s = .next t ∧ t.entryStatus q.token.entry = some .drained ∧
      t.entryValid q.token.entry = s.entryValid q.token.entry ∧ (t.lane l).openList = it :: items ∧ (t.lane l).lot = (s.lane l).lot) ∧
  (∀ (s : State) (l : LaneId) (q : QueuedToken) (rest : List QueuedToken) (it : OpenItem) (waiting items : List OpenItem), s.memWf →
    (s.lane l).tokens = q :: rest → reached s.track.position q.expiry = true → (s.lane l).openList = it :: (waiting ++ items) →
    (s.lane l).openEntries.Nodup → q.token.entry = it.entry → s.entryStatus it.entry = some .closing →
    (s.entryWord it.entry 10).toNat + 1 < 65536 → s.entryAssigned it.entry = s.entryRetired it.entry + 1 →
    (∀ x ∈ waiting, s.entryStatus x.entry = some .drained) → (∀ x, items.head? = some x → s.entryStatus x.entry ≠ some .drained) →
    (s.lane l).mode = .running →
    let done := it :: waiting
    let holds := (done.filter fun x => s.entryHoldAfter x.entry).length
    ∃ t, exec (.tokenExpiry l) s = .next t ∧ (t.lane l).openList = items ∧
      (∀ x ∈ done, t.entryStatus x.entry = some .complete ∧ t.entryValid x.entry = false) ∧
      (∀ x ∈ items, t.entryStatus x.entry = s.entryStatus x.entry) ∧
      (t.lane l).mode = (if holds = 0 then .running else .wait) ∧
      (t.lane l).waitPending = ((s.lane l).waitPending || decide (1 < holds)) ∧
      ((s.lane l).lot.inProgress = true → (∀ x ∈ done, s.entryLotStart x.entry = false ∧ s.entryLotEnd x.entry = false) →
        (t.lane l).lot.inProgress = true ∧ (t.lane l).lot.entries = (s.lane l).lot.entries + wordOf done.length ∧
        ∀ x, done.getLast? = some x → (t.lane l).lot.lastEntry = x.entry)) ∧
  ∀ (s : State) (l : LaneId) (q : QueuedToken) (rest : List QueuedToken) (it : OpenItem), s.memWf → (s.lane l).tokens = q :: rest →
    reached s.track.position q.expiry = true → (s.lane l).openList = [it] → q.token.entry = it.entry →
    s.entryStatus it.entry = some .closing → (s.entryWord it.entry 10).toNat + 1 < 65536 →
    s.entryAssigned it.entry = s.entryRetired it.entry + 1 → s.entryNotify it.entry = false → s.ring.reportQueue.length ≤ 14 →
    (∀ p, s.fillingPlace l = some p →
      (s.place p).customer ≠ s.entryCustomer it.entry ∨ (s.place p).article ≠ s.entryArticle it.entry) →
    let e := it.entry
    let lot := (s.lane l).lot
    let cut := lot.inProgress && s.entryLotStart e
    let base : Lot :=
      if lot.inProgress = true ∧ s.entryLotStart e = false then lot
      else { Lot.reset with
        inProgress := true, customer := s.entryCustomer e, firstEntry := e, unmarkedStart := !s.entryLotStart e }
    let added : Lot :=
      { base with
        lastEntry := e, entries := base.entries + 1, delivered := base.delivered + s.entryWord e 7
        rejected := base.rejected + s.entryWord e 8, overflowed := base.overflowed + s.entryWord e 9
        lost := base.lost + (s.entryWord e 10 + 1), stacksClosed := base.stacksClosed + s.entryWord e 11 }
    ∃ t more, exec (.tokenExpiry l) s = .next t ∧ (t.lane l).lot = { added with inProgress := !s.entryLotEnd e } ∧
      t.ring.reportQueue = s.ring.reportQueue ++
        (if cut then [s.ownTelegram .lot 0x00#8 (lotBytes l { lot with unterminated := true })] else []) ++
        (if s.entryLotEnd e then [s.ownTelegram .lot 0x00#8 (lotBytes l added)] else []) ++ more

/-! ## Chapter 10 -/

/-- RECEIVE_START: a receive in hand, with a slot while RING_RDY_OUT is asserted, so not while a reset is held (log entry 18); a telegram
already in hand is discarded and the CRC error count raised, and its slot is given up before the new one is sought (the model's choice,
log entry 14).
TELEGRAM_RECEIVED: the checks of R163, then the classification of R164 with the handling of R165 that needs no other block, a PIECE that
is discarded, and the broadcasts of R166, which are forwarded and give no response; LANE SUSPEND and LANE RESUME act on the lanes they
name; a repeater forwards whatever passes the checks. A telegram with a source above 31 is forwarded, whatever its destination, and
one that this station sent is removed, also with a destination above 31 (R193 and the order of R164 differ; the model's choices, log entry
28). -/
def Obligations.ReceivingActs : Prop :=
  (∀ s : State,
     let started : Receive := if s.resetHeld = false ∧ s.ring.forwardQueue.length < 8 then .withSlot else .withoutSlot
     (s.ring.receive = .none →
       exec .receiveStart s = .next ({ s with ring := { s.ring with receive := started } }.settle)) ∧
     (s.ring.receive ≠ .none →
       exec .receiveStart s =
         .next ({ s.setWord 7 130 (s.word 7 130 + 1) with ring := { s.ring with receive := started } }.settle))) ∧
  (∀ (s : State) (t : Telegram), s.ring.receive ≠ .none →
     let ended : Ring := { s.ring with receive := .none }
     let forwarded : State := { s with ring := { ended with forwardQueue := s.ring.forwardQueue ++ [⟨t, false⟩] } }
     (s.ring.receive = .withoutSlot ∨ 40 < t.body.length ∨ t.crc ≠ crcOf (checkedBytes t) →
       exec (.telegramReceived t) s = .next ({ s.setWord 7 130 (s.word 7 130 + 1) with ring := ended }.settle)) ∧
     (s.ring.receive = .withSlot → t.body.length ≤ 40 → t.crc = crcOf (checkedBytes t) →
       (s.ring.address = 0#5 ∨ s.ring.address = 31#5 → exec (.telegramReceived t) s = .next forwarded.settle) ∧
       (31 < t.src.toNat → exec (.telegramReceived t) s = .next forwarded.settle) ∧
       (s.ring.address ≠ 0#5 → s.ring.address ≠ 31#5 → t.src.toNat ≤ 31 →
         (t.src = addressByte s.ring.address → exec (.telegramReceived t) s = .next ({ s with ring := ended }.settle)) ∧
         (t.src ≠ addressByte s.ring.address → t.dest ≠ addressByte s.ring.address → t.dest ≠ 0x1F#8 →
           exec (.telegramReceived t) s = .next forwarded.settle) ∧
         (t.src ≠ addressByte s.ring.address → t.dest = addressByte s.ring.address → isBounced t = false →
           t.kind = 0x02#8 → s.ring.requestQueue.length < 4 →
           exec (.telegramReceived t) s =
             .next ({ s with ring := { ended with requestQueue := s.ring.requestQueue ++ [t] } }.settle)) ∧
         (t.src ≠ addressByte s.ring.address → t.dest = addressByte s.ring.address →
           isBounced t = true ∨ (t.kind ≠ 0x01#8 ∧ t.kind ≠ 0x02#8) ∨ (t.kind = 0x01#8 ∧ announcementOf t.body = none) →
           exec (.telegramReceived t) s = .next ({ s with ring := ended }.badTelegram.settle)) ∧
         (t.src ≠ addressByte s.ring.address → t.dest = addressByte s.ring.address → isBounced t = false → t.kind = 0x01#8 →
           ∀ a, announcementOf t.body = some a → (s.lane a.lane).tokens.length < 8 →
             (s.lane a.lane).mode = .idle ∨
               (s.activeEntry a.lane = none ∧ s.canClaim a.lane = false ∧ s.entryWaits (s.lane a.lane).cursor = false) →
             exec (.telegramReceived t) s = .next ({ s with ring := ended }.raise .unplannedToken (some a.lane)).settle) ∧
         (t.src ≠ addressByte s.ring.address → t.dest = 0x1F#8 →
           (t.kind ≠ 0x02#8 ∨ isBounced t = true → exec (.telegramReceived t) s = .next forwarded.settle) ∧
           (t.kind = 0x02#8 → isBounced t = false →
             (codeByte t.body ∉ [0x11#8, 0x12#8, 0x0A#8] → exec (.telegramReceived t) s = .next forwarded.settle) ∧
             (codeByte t.body ∈ [0x11#8, 0x12#8] ∧ t.body.length ≠ 4 ∨ codeByte t.body = 0x0A#8 ∧ t.body.length ≠ 3 →
               exec (.telegramReceived t) s = .next forwarded.badTelegram.settle) ∧
             (codeByte t.body = 0x0A#8 → t.body.length = 3 →
               exec (.telegramReceived t) s =
                 .next ({ s with ring := { ended with forwardQueue := s.ring.forwardQueue ++ [Forwarded.mk t true] } }.settle)) ∧
             ∀ h l value : Byte, t.body = [0x11#8, h, l, value] ∨ t.body = [0x12#8, h, l, value] →
               ∃ u, exec (.telegramReceived t) s = .next u ∧ u.ring.forwardQueue = s.ring.forwardQueue ++ [Forwarded.mk t false] ∧
                 u.ring.response = s.ring.response ∧ u.ring.receive = .none ∧
                 (s.linesFollow → t.body = [0x11#8, h, l, value] → LanesSuspended (s.namedBy value) s u) ∧
                 (s.linesFollow → s.memWf → s.lotRingBalances → t.body = [0x12#8, h, l, value] →
                   LanesResumed (s.namedBy value) s u))))))

/-- SEND_START: the five rows of R171, with RING_RDY_IN asserted and no send in hand; otherwise the arbiter chooses nothing. The model's
choices: the forwarding run changes at the choice (log entry 19), and the operand is the level of RING_RDY_IN (log entry 21). -/
def Obligations.ArbiterChooses : Prop :=
  ∀ s : State, s.linesFollow →
    let r : Ring := { s.ring with readyIn := true }
    let own : SendSource := if s.ring.response.isSome then .response else .report
    let waits := s.ring.response.isSome = true ∨ s.ring.reportQueue ≠ []
    (s.ring.sending = none → s.ring.forwardQueue ≠ [] → ¬ waits →
      exec (.sendStart true) s = .next { s with ring := { r with sending := some .forwarded, run := 0 } }) ∧
    (s.ring.sending = none → s.ring.forwardQueue ≠ [] → waits → s.ring.run < 3 →
      exec (.sendStart true) s = .next { s with ring := { r with sending := some .forwarded, run := s.ring.run + 1 } }) ∧
    (s.ring.sending = none → s.ring.forwardQueue ≠ [] → waits → s.ring.run = 3 →
      exec (.sendStart true) s = .next { s with ring := { r with sending := some own, run := 0 } }) ∧
    (s.ring.sending = none → s.ring.forwardQueue = [] → waits →
      exec (.sendStart true) s = .next { s with ring := { r with sending := some own, run := 0 } }) ∧
    (s.ring.sending = none → s.ring.forwardQueue = [] → ¬ waits → exec (.sendStart true) s = .next { s with ring := r }) ∧
    (s.ring.sending.isSome = true → exec (.sendStart true) s = .next { s with ring := r }) ∧
    exec (.sendStart false) s = .next { s with ring := { s.ring with readyIn := false } }

/-- TELEGRAM_SENT: the telegram leaves its queue or buffer; a report's slot lets a waiting discharge start in this event, unless the sender
has ordered DISCHARGE_START (the model's way to both orders of R114, log entry 8); a response or a forwarded copy that orders a reset
begins the warm reset, which lasts until RESET_END (log entry 9). -/
def Obligations.SentTelegramLeaves : Prop :=
  ∀ s : State,
    (∀ f rest, s.ring.sending = some .forwarded → s.ring.forwardQueue = f :: rest →
      let left : State := { s with ring := { s.ring with sending := none, forwardQueue := rest } }
      exec .telegramSent s = .next (if f.ordersReset then left.warmReset.settle else left.settle)) ∧
    (∀ r, s.ring.sending = some .response → s.ring.response = some r →
      let left : State := { s with ring := { s.ring with sending := none, response := none } }
      exec .telegramSent s = .next (if r.ordersReset then left.warmReset.settle else left.settle)) ∧
    ∀ t rest, s.ring.sending = some .report → s.ring.reportQueue = t :: rest →
      let left : State := { s with ring := { s.ring with sending := none, reportQueue := rest } }
      (Instr.dischargeStart ∉ s.pending → exec .telegramSent s = .next left.tryDischarge.settle) ∧
      (Instr.dischargeStart ∈ s.pending → exec .telegramSent s = .next left.settle)

/-! ## Chapters 11 and 12: the station requests -/

/-- IDENTIFY answers the part code, the revision, the station address and lanes enabled, and changes no state; BEGIN MODIFY saves the pointer and
sets modify mode on; STATION RESET answers OK and orders the warm reset that begins when its response has left. -/
def Obligations.PlainRequestsAnswer : Prop :=
  (∀ (s : State) (t : Telegram) (h l : Byte), s.linesFollow → s.requestReady = some t → t.body = [0x01#8, h, l] →
    exec .identify s = .next (s.answered t .ok [0x46A4#16, 0x0001#16, s.ring.address.setWidth 16, s.word 0 0])) ∧
  (∀ (s : State) (t : Telegram) (h l : Byte), s.linesFollow → s.requestReady = some t → t.body = [0x06#8, h, l] →
    exec .beginModify s =
      .next ({ s.dequeued with tables := { s.tables with saved := s.tables.pointer, modify := true } }.respond t (answer .ok []))) ∧
  (∀ (s : State) (t : Telegram) (h l : Byte), s.linesFollow → s.requestReady = some t → t.body = [0x0A#8, h, l] →
    exec .stationReset s = .next (s.dequeued.respond t { status := .ok, words := [], ordersReset := true }))

/-- A response: addressed to the source, this station as source, flags 00h, the code and tag of the request, status, word count and words,
high byte first. -/
def Obligations.ResponseLayout : Prop :=
  ∀ (s : State) (t : Telegram) (c h l : Byte) (ps : List Byte) (a : Answer), t.body = c :: h :: l :: ps →
    ∃ r, (s.respond t a).ring.response = some r ∧ r.telegram.kind = 0x03#8 ∧ r.telegram.dest = t.src ∧
      r.telegram.src = addressByte s.ring.address ∧ r.telegram.flags = 0x00#8 ∧
      r.telegram.body = [c, h, l, a.status.code, byteOf a.words.length] ++ a.words.flatMap wordBytes ∧
      r.telegram.crc = crcOf (checkedBytes r.telegram) ∧ r.ordersReset = a.ordersReset

/-- READ STATUS answers the nine words as they stand and empties the latched warning set; ALERT then stands only for a FAULTED lane or a
STALLED outfeed. The lane, motion, outfeed and warning words have the bits that R195 gives, and every other bit 0. -/
def Obligations.ReadStatusClearsWarnings : Prop :=
  (∀ (s : State) (t : Telegram) (h l : Byte), s.linesFollow → s.requestReady = some t → t.body = [0x02#8, h, l] →
    exec .readStatus s =
      .next ({ s.dequeued with tables :=
        { s.tables with
          warnings := WarningSet.empty
          alert := s.anyFaulted || decide (s.discharge.outfeed = Outfeed.stalled) } }.respond t
        (answer .ok ([0, 1, 2, 3].map (fun l => (s.lane l).statusWord) ++
          [s.track.statusWord, s.discharge.statusWord, wordOf s.free.length, wordOf s.ring.reportQueue.length,
           s.tables.warnings.statusWord])))) ∧
  (∀ L : Lane, (L.statusWord.extractLsb' 0 3).toNat = L.mode.code ∧
    (L.statusWord.extractLsb' 4 3).toNat = faultCodeValue L.faultCode ∧ L.statusWord.getLsbD 8 = L.starved ∧
    L.statusWord.getLsbD 9 = decide (L.entry.spacing = .crowded) ∧ L.statusWord.getLsbD 10 = L.waitPending ∧
    L.statusWord &&& 0xF888#16 = 0) ∧
  (∀ t : Track, t.statusWord.getLsbD 0 = decide (t.presented = .running) ∧
    t.statusWord.getLsbD 1 = decide (t.computed = .running) ∧ (t.statusWord.extractLsb' 4 2).toNat = t.mode.code ∧
    t.statusWord &&& 0xFFCC#16 = 0) ∧
  (∀ d : Discharge, (d.statusWord.extractLsb' 0 2).toNat = d.outfeed.code ∧
    d.statusWord.getLsbD 8 = decide (d.outfeed = .stalled) ∧ d.statusWord &&& 0xFEFC#16 = 0) ∧
  ∀ ws : WarningSet, (∀ w : Warning, ws.statusWord.getLsbD (w.code - 1) = ws.has w) ∧ ws.statusWord &&& 0xFE00#16 = 0

/-- A warning raised that the set holds changes nothing; one it does not hold enters the set, with a FAULT report of class 3 at the tail of
the report queue, which is dropped with REPORT_DROPPED when the queue holds 16. -/
def Obligations.WarningsLatchOnce : Prop :=
  ∀ (s : State) (w : Warning) (lane : Option LaneId),
    let report := s.ownTelegram .fault 0x00#8 [0x03#8, byteOf w.code, optionByte lane, 0xFF#8, 0#8, 0#8, 0#8, 0#8]
    (s.tables.warnings.has w = true → s.raise w lane = s) ∧
    (s.tables.warnings.has w = false → s.ring.reportQueue.length < 16 →
      s.raise w lane = { s with
        tables := { s.tables with warnings := s.tables.warnings.latch w }
        ring := { s.ring with reportQueue := s.ring.reportQueue ++ [report] } }) ∧
    (s.tables.warnings.has w = false → 16 ≤ s.ring.reportQueue.length →
      s.raise w lane = { s with tables := { s.tables with warnings := (s.tables.warnings.latch w).latch .reportDropped } }) ∧
    ∀ v : Warning, (s.tables.warnings.latch w).has v = (s.tables.warnings.has v || decide (v = w))

/-- SET POINTER sets the pointer; in modify mode it answers MODIFY_ACTIVE; a page above 7 or an offset above 1023 is BAD_PARAM. -/
def Obligations.SetPointerActs : Prop :=
  ∀ (s : State) (t : Telegram) (h l page high low : Byte), s.linesFollow → s.requestReady = some t →
    t.body = [0x03#8, h, l, page, high, low] →
    (∀ p : Pointer, p.page.val = page.toNat → p.offset.val = 256 * high.toNat + low.toNat → s.tables.modify = false →
      exec .setPointer s =
        .next ({ s.dequeued with tables := { s.tables with pointer := p } }.respond t (answer .ok []))) ∧
    (page.toNat ≤ 7 → 256 * high.toNat + low.toNat ≤ 1023 → s.tables.modify = true →
      exec .setPointer s = .next (s.answered t .modifyActive [])) ∧
    (7 < page.toNat ∨ 1023 < 256 * high.toNat + low.toNat → exec .setPointer s = .next (s.answered t .badParam []))

/-- WRITE TABLE of one word: stored at the pointer, which advances, when the write right holds, and refused with nothing changed when it
does not. Of 1 to 16 words: those before the first refused one are stored, each at its place from the pointer on, and no other word
changes; the pointer rests on the refused one, or past the last. A count of 0 or above 16 with a body that agrees is BAD_PARAM. -/
def Obligations.WriteTableStoresWord : Prop :=
  ∀ (s : State) (t : Telegram) (h l : Byte), s.linesFollow → s.requestReady = some t →
    (∀ high low : Byte, t.body = [0x04#8, h, l, 0x01#8, high, low] →
      let p := s.tables.pointer
      (s.writable p (high ++ low) = true →
        exec .writeTable s =
          .next ({ (s.dequeued.setWord p.page.val p.offset.val (high ++ low)) with
            tables := { s.tables with pointer := p.advance } }.respond t (answer .ok [1#16]))) ∧
      (s.writable p (high ++ low) = false → exec .writeTable s = .next (s.answered t .refusedWrite [0#16]))) ∧
    ∀ (n : Byte) (ws : List Word), t.body = [0x04#8, h, l, n] ++ ws.flatMap wordBytes → n.toNat = ws.length →
      (1 ≤ ws.length → ws.length ≤ 16 →
        ∃ (k : Nat) (m : Mem), k ≤ ws.length ∧
          (s.memWf → ∀ i w, i < k → ws[i]? = some w → s.writable (s.tables.pointer.ahead i) w = true) ∧
          (s.memWf → ∀ w, ws[k]? = some w → s.writable (s.tables.pointer.ahead k) w = false) ∧
          (s.memWf → m.wf ∧ ∀ i w, i < k → ws[i]? = some w →
            m.read (1024 * s.tables.pointer.page.val + (s.tables.pointer.ahead i).offset.val) = w) ∧
          exec .writeTable s =
            .next ({ s.dequeued with mem := m, tables := { s.tables with pointer := s.tables.pointer.ahead k } }.respond t
              (answer (if k = ws.length then .ok else .refusedWrite) [wordOf k])) ∧
          ∀ a, (∀ i < k, a ≠ 1024 * s.tables.pointer.page.val + ((s.tables.pointer.ahead i).offset.val)) →
            m.read a = s.mem.read a) ∧
      (ws.length = 0 ∨ 16 < ws.length → exec .writeTable s = .next (s.answered t .badParam []))

/-- The write rights, page by page. That the right of page 0 holds for its words outside the layout too, as R5, R40 and R179 say of the page
whole, though R197 has such words written like page 5, and that words 17 to 31 of a row's span lie outside the row, are log entry 22. -/
def Obligations.WriteRightsByPage : Prop :=
  ∀ (s : State) (p : Pointer) (w : Word),
    (p.page = 0 → (s.writable p w = true ↔ ∀ l, (s.lane l).mode = .idle)) ∧
    (p.page = 1 → (s.writable p w = true ↔
      ∀ l : LaneId, 32 * l.val ≤ p.offset.val → p.offset.val ≤ 32 * l.val + 16 →
        (s.lane l).mode = .idle ∨ (s.lane l).mode = .suspended)) ∧
    (p.page = 2 ∨ p.page = 3 ∨ p.page = 5 → s.writable p w = true) ∧
    (p.page = 4 → (s.writable p w = true ↔
      ∀ e : EntryId, 12 * e.val ≤ p.offset.val → p.offset.val ≤ 12 * e.val + 11 →
        isClaimed (s.entryStatus e) = false ∧ (p.offset.val = 12 * e.val → isClaimed (statusField w) = false))) ∧
    (p.page = 6 ∨ p.page = 7 → s.writable p w = false)

/-- READ TABLE: the first word is the latch as it stood, each later word the word before the pointer's next; with modify mode off the
pointer advances by the count, in modify mode it stays; a count of 0 or above 16 is BAD_PARAM. -/
def Obligations.ReadTableThroughLatch : Prop :=
  ∀ (s : State) (t : Telegram) (h l n : Byte), s.linesFollow → s.requestReady = some t → t.body = [0x05#8, h, l, n] →
    let p := s.tables.pointer
    (∀ k, n.toNat = k + 1 → k < 16 → s.tables.modify = false →
      exec .readTable s =
        .next ({ s.dequeued with tables :=
            { s.tables with latch := s.tableWord (p.ahead k), pointer := p.ahead (k + 1) } }.respond t
          (answer .ok (s.tables.latch :: (List.range k).map fun i => s.tableWord (p.ahead i))))) ∧
    (∀ k, n.toNat = k + 1 → k < 16 → s.tables.modify = true →
      exec .readTable s =
        .next ({ s.dequeued with tables := { s.tables with latch := s.tableWord p } }.respond t
          (answer .ok (s.tables.latch :: List.replicate k (s.tableWord p))))) ∧
    (n.toNat = 0 ∨ 16 < n.toNat → exec .readTable s = .next (s.answered t .badParam []))

/-- END MODIFY in modify mode restores the pointer and sets modify mode off; outside it changes nothing; the latch keeps its word. -/
def Obligations.EndModifyRestoresPointer : Prop :=
  ∀ (s : State) (t : Telegram) (h l : Byte), s.linesFollow → s.requestReady = some t → t.body = [0x07#8, h, l] →
    (s.tables.modify = true →
      exec .endModify s =
        .next ({ s.dequeued with tables := { s.tables with pointer := s.tables.saved, modify := false } }.respond t
          (answer .ok []))) ∧
    (s.tables.modify = false → exec .endModify s = .next (s.answered t .ok []))

/-- CLEAR COUNTERS: the counters of the scope are 0, every other word is kept; a scope above 5 is BAD_PARAM. -/
def Obligations.ClearCountersByScope : Prop :=
  ∀ (s : State) (t : Telegram) (h l scope : Byte), s.linesFollow → s.memWf → s.requestReady = some t →
    t.body = [0x09#8, h, l, scope] →
    (scope.toNat ≤ 5 →
      ∃ m : Mem, exec .clearCounters s = .next ({ s.dequeued with mem := m }.respond t (answer .ok [])) ∧
        (∀ (n : LaneId) (k : Nat), k ≤ 16 → m.read (7168 + 32 * n.val + k) =
          if scope.toNat = n.val ∨ scope.toNat = 5 then 0 else s.mem.read (7168 + 32 * n.val + k)) ∧
        (∀ k ∈ [128, 129, 130], m.read (7168 + k) = if 4 ≤ scope.toNat then 0 else s.mem.read (7168 + k)) ∧
        ∀ a, (∀ (n : LaneId) (k : Nat), k ≤ 16 → a ≠ 7168 + 32 * n.val + k) → (∀ k ∈ [128, 129, 130], a ≠ 7168 + k) →
          m.read a = s.mem.read a) ∧
    (5 < scope.toNat → exec .clearCounters s = .next (s.answered t .badParam []))

/-- A request turned away by the first two checks changes nothing else: a body of the wrong length for its code answers BAD_LENGTH, a code
that names no request UNKNOWN_REQUEST, and a body of fewer than 3 bytes BAD_LENGTH (which row takes a short body is log entry 11). -/
def Obligations.RequestsTurnedAway : Prop :=
  (∀ (r : Request) (s : State) (t : Telegram), s.linesFollow → s.requestReady = some t →
    Request.ofCode (codeByte t.body) = some r → t.body.length ≠ r.bodyLength t.body →
    exec r.row s = .next (s.answered t .badLength [])) ∧
  (∀ (s : State) (t : Telegram), s.linesFollow → s.requestReady = some t → Request.ofCode (codeByte t.body) = none →
    exec .unknownRequest s = .next (s.answered t (if t.body.length < 3 then .badLength else .unknownRequest) [])) ∧
  ∀ r : Request, Request.ofCode r.code = some r

/-! ## Chapter 9: the lane requests -/

/-- LANE START of an IDLE lane that passes its checks: spacing at rest, the place list held, the starved mark and wait-pending cleared, ring
start and cursor set; RUNNING with the entry at the cursor claimed when the claim claims, else DRY.
LANE START refused leaves every block as it was: BAD_PARAM with no data word, and WRONG_STATE, BAD_CONFIG and CONFLICT, tried in that
order, with the lane state. -/
def Obligations.LaneStartActs : Prop :=
  (∀ (s : State) (t : Telegram) (h b : Byte) (l : LaneId) (e : EntryId), s.memWf → s.requestReady = some t →
    t.body = [0x10#8, h, b, byteOf l.val, byteOf e.val] → (s.lane l).mode = .idle → s.configFit l = true →
    s.placesFit l = true →
    ∃ v, exec .laneStart s = .next v ∧ (v.lane l).held = s.placeList l ∧ (v.lane l).starved = false ∧
      (v.lane l).waitPending = false ∧ (v.lane l).ringStart = e ∧ (v.lane l).cursor = e ∧
      (v.lane l).entry =
        { (s.lane l).entry with
          spacing := .normal, shortCount := 0, goodCount := 0, lastTrailing := none, feedSlow := false } ∧
      v.places = s.places ∧
      (s.claimable e = true → (s.lane l).openList.length < 16 →
        (v.lane l).mode = .running ∧ (v.lane l).feedHold = false ∧ v.entryStatus e = some .active ∧
        v.entryWord e 5 = wordOf l.val ∧ (∀ k, 6 ≤ k → k ≤ 11 → v.entryWord e k = 0) ∧
        (v.lane l).openList = (s.lane l).openList ++ [⟨e, s.resolvedTarget e⟩] ∧
        v.ring.response = (s.answered t .ok [1#16]).ring.response) ∧
      (s.claimable e = false → (v.lane l).mode = .dry ∧ (v.lane l).feedHold = true ∧
        (v.lane l).openList = (s.lane l).openList ∧ v.mem = s.mem ∧
        v.ring.response = (s.answered t .ok [2#16]).ring.response)) ∧
  (∀ (s : State) (t : Telegram) (h b lane start : Byte), s.linesFollow → s.requestReady = some t →
    t.body = [0x10#8, h, b, lane, start] →
    (3 < lane.toNat ∨ 63 < start.toNat → exec .laneStart s = .next (s.answered t .badParam [])) ∧
    ∀ l : LaneId, lane = byteOf l.val → start.toNat ≤ 63 →
      ((s.lane l).mode ≠ .idle → exec .laneStart s = .next (s.answered t .wrongState [wordOf (s.lane l).mode.code])) ∧
      ((s.lane l).mode = .idle → s.configFit l = false → exec .laneStart s = .next (s.answered t .badConfig [0#16])) ∧
      ((s.lane l).mode = .idle → s.configFit l = true → s.placesFit l = false →
        exec .laneStart s = .next (s.answered t .conflict [0#16])))

/-- LANE SUSPEND: a RUNNING, DRY or WAIT lane becomes SUSPENDING, or SUSPENDED when it holds nothing, WAIT setting return to WAIT; a
SUSPENDING or SUSPENDED lane is answered OK unchanged, an IDLE or FAULTED one WRONG_STATE; with lane value 4 each enabled lane, with a
status and a lane state for each lane; a lane value above 4 is BAD_PARAM. -/
def Obligations.LaneSuspendActs : Prop :=
  ∀ (s : State) (t : Telegram) (h b value : Byte), s.linesFollow → s.requestReady = some t →
    t.body = [0x11#8, h, b, value] →
    let rest (l : LaneId) : LaneMode :=
      if (s.lane l).tokens = [] ∧ (s.lane l).inFlight = [] then .suspended else .suspending
    let works (l : LaneId) : Prop := (s.lane l).mode = .running ∨ (s.lane l).mode = .dry ∨ (s.lane l).mode = .wait
    let after (l : LaneId) : Lane :=
      { s.lane l with
        mode := rest l
        feedHold := true
        returnToWait := (s.lane l).returnToWait || decide ((s.lane l).mode = .wait) }
    (∀ l : LaneId, value = byteOf l.val →
      (works l →
        exec .laneSuspend s =
          .next ((s.dequeued.modLane l fun _ => after l).respond t (answer .ok [wordOf (rest l).code]))) ∧
      ((s.lane l).mode = .suspending ∨ (s.lane l).mode = .suspended →
        exec .laneSuspend s = .next (s.answered t .ok [wordOf (s.lane l).mode.code])) ∧
      ((s.lane l).mode = .idle ∨ (s.lane l).mode = .faulted →
        exec .laneSuspend s = .next (s.answered t .wrongState [wordOf (s.lane l).mode.code]))) ∧
    (value = 0x04#8 →
      ∃ v, exec .laneSuspend s = .next v ∧
        (∀ l, (s.laneEnabled l = true ∧ works l → v.lane l = after l) ∧
          (s.laneEnabled l = false ∨ ¬ works l → v.lane l = s.lane l)) ∧
        v.mem = s.mem ∧ v.places = s.places ∧ v.track = s.track ∧ v.discharge = s.discharge ∧
        v.ring.response = (s.answered t .ok ([0, 1, 2, 3].flatMap fun l : LaneId =>
          if s.laneEnabled l then
            [if (s.lane l).mode = .idle ∨ (s.lane l).mode = .faulted then 4#16 else 0#16, wordOf (v.lane l).mode.code]
          else [7#16, 0#16])).ring.response) ∧
    (4 < value.toNat → exec .laneSuspend s = .next (s.answered t .badParam []))

/-- LANE RESUME of a SUSPENDING or SUSPENDED lane and LANE RELEASE of a lane in WAIT make the return of R151; in any other state they answer
WRONG_STATE with the lane state. LANE RESUME with lane value 4 does so for each enabled lane, lane 0 first, and answers a status and a lane
state for each of the four; a lane value above 4, or above 3 for LANE RELEASE, is BAD_PARAM. -/
def Obligations.LaneReturns : Prop :=
  (∀ (s : State) (t : Telegram) (h b : Byte) (l : LaneId), s.linesFollow → s.requestReady = some t →
     ∀ (resume : Bool), t.body = [if resume then 0x12#8 else 0x13#8, h, b, byteOf l.val] →
     let command : Instr := if resume then .laneResume else .laneRelease
     let accepted : Prop :=
       if resume then (s.lane l).mode = .suspending ∨ (s.lane l).mode = .suspended else (s.lane l).mode = .wait
     (accepted → (s.lane l).returnToWait = true →
       exec command s =
         .next ((s.dequeued.modLane l fun L => { L with mode := .wait, returnToWait := false }).respond t (answer .ok [3#16]))) ∧
     (accepted → (s.lane l).returnToWait = false → (s.lane l).waitPending = true →
       exec command s =
         .next ((s.dequeued.modLane l fun L => { L with mode := .wait, waitPending := false }).respond t (answer .ok [3#16]))) ∧
     (accepted → (s.lane l).returnToWait = false → (s.lane l).waitPending = false → (s.activeEntry l).isSome = true →
       exec command s =
         .next ((s.dequeued.modLane l fun L => { L with mode := .running, feedHold := L.starved }).respond t
           (answer .ok [1#16]))) ∧
     (accepted → (s.lane l).returnToWait = false → (s.lane l).waitPending = false → s.activeEntry l = none →
       exec command s =
         .next (((s.dequeued.claim l).modLane l fun L => { L with mode := if s.canClaim l then .running else .dry }).respond t
           (answer .ok [if s.canClaim l then 1#16 else 2#16])).settle) ∧
     (¬ accepted → exec command s = .next (s.answered t .wrongState [wordOf (s.lane l).mode.code]))) ∧
  (∀ (s : State) (t : Telegram) (h b value : Byte), s.linesFollow → s.requestReady = some t → t.body = [0x12#8, h, b, value] →
    (4 < value.toNat → exec .laneResume s = .next (s.answered t .badParam [])) ∧
    (value = 0x04#8 →
      ∃ v, exec .laneResume s = .next v ∧ v.places = s.places ∧ v.track = s.track ∧ v.discharge = s.discharge ∧
        (∀ l : LaneId, s.laneEnabled l = false ∨ ((s.lane l).mode ≠ .suspending ∧ (s.lane l).mode ≠ .suspended) →
          v.lane l = s.lane l) ∧
        (s.memWf → s.lotRingBalances → LanesResumed (fun l => s.laneEnabled l = true) s v) ∧
        v.ring.response = (s.answered t .ok ([0, 1, 2, 3].flatMap fun l : LaneId =>
          if s.laneEnabled l then
            [if (s.lane l).mode = .suspending ∨ (s.lane l).mode = .suspended then 0#16 else 4#16, wordOf (v.lane l).mode.code]
          else [7#16, 0#16])).ring.response)) ∧
  ∀ (s : State) (t : Telegram) (h b value : Byte), s.linesFollow → s.requestReady = some t → t.body = [0x13#8, h, b, value] →
    3 < value.toNat → exec .laneRelease s = .next (s.answered t .badParam [])

/-- LANE STOP of a SUSPENDED lane: IDLE with no FILLING place, its open entries written back ABORTED and gone from the list, its lot closed,
wait-pending and return to WAIT no, open piece, arrival and targets absent; in any other state WRONG_STATE, and a lane above 3
BAD_PARAM. -/
def Obligations.LaneStopAborts : Prop :=
  (∀ (s : State) (t : Telegram) (h b : Byte) (l : LaneId), s.linesFollow → s.memWf → s.requestReady = some t →
     t.body = [0x14#8, h, b, byteOf l.val] →
     ((s.lane l).mode = .suspended →
       ∃ v, exec .laneStop s = .next v ∧ (v.lane l).mode = .idle ∧ (v.lane l).openList = [] ∧
         (v.lane l).lot.inProgress = false ∧ (v.lane l).waitPending = false ∧ (v.lane l).returnToWait = false ∧
         (v.lane l).feedHold = true ∧ (v.lane l).entry.openPiece = none ∧ (v.lane l).entry.blockedTarget = none ∧
         (v.lane l).exit.arrival = .absent ∧ (v.lane l).exit.blockedTarget = none ∧ (v.lane l).exit.route = .overflow ∧
         (∀ it ∈ (s.lane l).openList, v.entryStatus it.entry = some .aborted ∧ v.entryValid it.entry = false) ∧
         (s.placesCoherent → s.inboundCoherent → s.restCoherent →
           ∀ p, (v.place p).state = .filling → (v.place p).lane ≠ some l) ∧
         v.ring.response = (s.answered t .ok [0#16]).ring.response) ∧
     ((s.lane l).mode ≠ .suspended →
       exec .laneStop s = .next (s.answered t .wrongState [wordOf (s.lane l).mode.code]))) ∧
  ∀ (s : State) (t : Telegram) (h b value : Byte), s.linesFollow → s.requestReady = some t → t.body = [0x14#8, h, b, value] →
    3 < value.toNat → exec .laneStop s = .next (s.answered t .badParam [])

/-- CLEAR FAULT of a FAULTED lane: the fault code none, the gate hold no and GATE released, the lane SUSPENDED, and a check that waited on a
pending change ended; in any other state WRONG_STATE with the lane state, and a lane above 3 BAD_PARAM. -/
def Obligations.ClearFaultSuspends : Prop :=
  ∀ (s : State) (t : Telegram) (h b value : Byte), s.linesFollow → s.requestReady = some t → t.body = [0x15#8, h, b, value] →
    (∀ l : LaneId, value = byteOf l.val →
      ((s.lane l).mode = .faulted →
        exec .clearFault s =
          .next (((s.dequeued.modLane l fun L =>
            { L with
              mode := .suspended
              faultCode := none
              sched := { L.sched with gateHold := false, gate := false }
              entry := { L.entry with blockedWaits := false }
              exit := { L.exit with blockedWaits := false, missingWaits := false } }).respond t (answer .ok [5#16])).settle)) ∧
      ((s.lane l).mode ≠ .faulted →
        exec .clearFault s = .next (s.answered t .wrongState [wordOf (s.lane l).mode.code]))) ∧
    (3 < value.toNat → exec .clearFault s = .next (s.answered t .badParam []))
end

