-- ==== Sys2Proof/Laws/State.lean ====
section
/-! SUPPORT. One lemma for each field and each update of the state, so that a proof need not unfold a record update; and what `settle`
does: it brings the lines to their rules' values and leaves everything else. -/
namespace Sys2Proof.Machine

/-! ## modLane -/

theorem State.modLane_lane (s : State) (l m : LaneId) (f : Lane → Lane) :
    (s.modLane l f).lane m = if m = l then f (s.lane l) else s.lane m := by
  unfold State.modLane State.lane
  by_cases h : m = l
  · subst h; simp
  · have h' : ¬ (l : Nat) = (m : Nat) := fun e => h (Fin.ext e.symm)
    simp [h, h']

@[simp] theorem State.modLane_lane_same (s : State) (l : LaneId) (f : Lane → Lane) : (s.modLane l f).lane l = f (s.lane l) := by
  rw [State.modLane_lane]; simp

@[simp] theorem State.modLane_lane_other (s : State) {l m : LaneId} (f : Lane → Lane) (h : m ≠ l) :
    (s.modLane l f).lane m = s.lane m := by
  rw [State.modLane_lane]; simp [h]

@[simp] theorem State.modLane_track (s : State) (l : LaneId) (f : Lane → Lane) : (s.modLane l f).track = s.track := rfl
@[simp] theorem State.modLane_free (s : State) (l : LaneId) (f : Lane → Lane) : (s.modLane l f).free = s.free := rfl
@[simp] theorem State.modLane_places (s : State) (l : LaneId) (f : Lane → Lane) : (s.modLane l f).places = s.places := rfl
@[simp] theorem State.modLane_place (s : State) (l : LaneId) (f : Lane → Lane) (p : PlaceId) :
    (s.modLane l f).place p = s.place p := rfl
@[simp] theorem State.modLane_stackSerial (s : State) (l : LaneId) (f : Lane → Lane) :
    (s.modLane l f).stackSerial = s.stackSerial := rfl
@[simp] theorem State.modLane_discharge (s : State) (l : LaneId) (f : Lane → Lane) :
    (s.modLane l f).discharge = s.discharge := rfl
@[simp] theorem State.modLane_ring (s : State) (l : LaneId) (f : Lane → Lane) : (s.modLane l f).ring = s.ring := rfl
@[simp] theorem State.modLane_tables (s : State) (l : LaneId) (f : Lane → Lane) : (s.modLane l f).tables = s.tables := rfl
@[simp] theorem State.modLane_mem (s : State) (l : LaneId) (f : Lane → Lane) : (s.modLane l f).mem = s.mem := rfl
@[simp] theorem State.modLane_resetHeld (s : State) (l : LaneId) (f : Lane → Lane) :
    (s.modLane l f).resetHeld = s.resetHeld := rfl
@[simp] theorem State.modLane_freeCount (s : State) (l : LaneId) (f : Lane → Lane) :
    (s.modLane l f).freeCount = s.freeCount := rfl
@[simp] theorem State.modLane_pending (s : State) (l : LaneId) (f : Lane → Lane) : (s.modLane l f).pending = s.pending := rfl
@[simp] theorem State.modLane_word (s : State) (l : LaneId) (f : Lane → Lane) (page offset : Nat) :
    (s.modLane l f).word page offset = s.word page offset := rfl

theorem State.lane_ext {s t : State} (h : ∀ l, s.lane l = t.lane l) : s.lanes = t.lanes := by
  apply Vector.ext
  intro i hi
  exact h ⟨i, hi⟩

theorem State.place_ext {s t : State} (h : ∀ p, s.place p = t.place p) : s.places = t.places := by
  apply Vector.ext
  intro i hi
  exact h ⟨i, hi⟩

/-! ## mapLanes -/

@[simp] theorem State.mapLanes_lane (s : State) (f : Lane → Lane) (l : LaneId) : (s.mapLanes f).lane l = f (s.lane l) := by
  unfold State.mapLanes
  fin_cases l <;> simp

@[simp] theorem State.mapLanes_track (s : State) (f : Lane → Lane) : (s.mapLanes f).track = s.track := rfl
@[simp] theorem State.mapLanes_free (s : State) (f : Lane → Lane) : (s.mapLanes f).free = s.free := rfl
@[simp] theorem State.mapLanes_places (s : State) (f : Lane → Lane) : (s.mapLanes f).places = s.places := rfl
@[simp] theorem State.mapLanes_place (s : State) (f : Lane → Lane) (p : PlaceId) : (s.mapLanes f).place p = s.place p := rfl
@[simp] theorem State.mapLanes_stackSerial (s : State) (f : Lane → Lane) : (s.mapLanes f).stackSerial = s.stackSerial := rfl
@[simp] theorem State.mapLanes_discharge (s : State) (f : Lane → Lane) : (s.mapLanes f).discharge = s.discharge := rfl
@[simp] theorem State.mapLanes_ring (s : State) (f : Lane → Lane) : (s.mapLanes f).ring = s.ring := rfl
@[simp] theorem State.mapLanes_tables (s : State) (f : Lane → Lane) : (s.mapLanes f).tables = s.tables := rfl
@[simp] theorem State.mapLanes_mem (s : State) (f : Lane → Lane) : (s.mapLanes f).mem = s.mem := rfl
@[simp] theorem State.mapLanes_resetHeld (s : State) (f : Lane → Lane) : (s.mapLanes f).resetHeld = s.resetHeld := rfl
@[simp] theorem State.mapLanes_freeCount (s : State) (f : Lane → Lane) : (s.mapLanes f).freeCount = s.freeCount := rfl
@[simp] theorem State.mapLanes_pending (s : State) (f : Lane → Lane) : (s.mapLanes f).pending = s.pending := rfl

/-! ## modPlace -/

theorem State.modPlace_place (s : State) (p q : PlaceId) (f : Place → Place) :
    (s.modPlace p f).place q = if q = p then f (s.place p) else s.place q := by
  unfold State.modPlace State.place
  by_cases h : q = p
  · subst h; simp
  · have h' : ¬ (p : Nat) = (q : Nat) := fun e => h (Fin.ext e.symm)
    simp [h, h']

@[simp] theorem State.modPlace_place_same (s : State) (p : PlaceId) (f : Place → Place) :
    (s.modPlace p f).place p = f (s.place p) := by rw [State.modPlace_place]; simp

@[simp] theorem State.modPlace_place_other (s : State) {p q : PlaceId} (f : Place → Place) (h : q ≠ p) :
    (s.modPlace p f).place q = s.place q := by rw [State.modPlace_place]; simp [h]

@[simp] theorem State.modPlace_track (s : State) (p : PlaceId) (f : Place → Place) : (s.modPlace p f).track = s.track := rfl
@[simp] theorem State.modPlace_lanes (s : State) (p : PlaceId) (f : Place → Place) : (s.modPlace p f).lanes = s.lanes := rfl
@[simp] theorem State.modPlace_lane (s : State) (p : PlaceId) (f : Place → Place) (l : LaneId) :
    (s.modPlace p f).lane l = s.lane l := rfl
@[simp] theorem State.modPlace_free (s : State) (p : PlaceId) (f : Place → Place) : (s.modPlace p f).free = s.free := rfl
@[simp] theorem State.modPlace_stackSerial (s : State) (p : PlaceId) (f : Place → Place) :
    (s.modPlace p f).stackSerial = s.stackSerial := rfl
@[simp] theorem State.modPlace_discharge (s : State) (p : PlaceId) (f : Place → Place) :
    (s.modPlace p f).discharge = s.discharge := rfl
@[simp] theorem State.modPlace_ring (s : State) (p : PlaceId) (f : Place → Place) : (s.modPlace p f).ring = s.ring := rfl
@[simp] theorem State.modPlace_tables (s : State) (p : PlaceId) (f : Place → Place) : (s.modPlace p f).tables = s.tables := rfl
@[simp] theorem State.modPlace_mem (s : State) (p : PlaceId) (f : Place → Place) : (s.modPlace p f).mem = s.mem := rfl
@[simp] theorem State.modPlace_resetHeld (s : State) (p : PlaceId) (f : Place → Place) :
    (s.modPlace p f).resetHeld = s.resetHeld := rfl
@[simp] theorem State.modPlace_freeCount (s : State) (p : PlaceId) (f : Place → Place) :
    (s.modPlace p f).freeCount = s.freeCount := rfl
@[simp] theorem State.modPlace_pending (s : State) (p : PlaceId) (f : Place → Place) :
    (s.modPlace p f).pending = s.pending := rfl

/-! ## setWord -/

@[simp] theorem State.setWord_track (s : State) (page offset : Nat) (w : Word) : (s.setWord page offset w).track = s.track := rfl
@[simp] theorem State.setWord_lanes (s : State) (page offset : Nat) (w : Word) : (s.setWord page offset w).lanes = s.lanes := rfl
@[simp] theorem State.setWord_lane (s : State) (page offset : Nat) (w : Word) (l : LaneId) :
    (s.setWord page offset w).lane l = s.lane l := rfl
@[simp] theorem State.setWord_free (s : State) (page offset : Nat) (w : Word) : (s.setWord page offset w).free = s.free := rfl
@[simp] theorem State.setWord_places (s : State) (page offset : Nat) (w : Word) :
    (s.setWord page offset w).places = s.places := rfl
@[simp] theorem State.setWord_place (s : State) (page offset : Nat) (w : Word) (p : PlaceId) :
    (s.setWord page offset w).place p = s.place p := rfl
@[simp] theorem State.setWord_stackSerial (s : State) (page offset : Nat) (w : Word) :
    (s.setWord page offset w).stackSerial = s.stackSerial := rfl
@[simp] theorem State.setWord_discharge (s : State) (page offset : Nat) (w : Word) :
    (s.setWord page offset w).discharge = s.discharge := rfl
@[simp] theorem State.setWord_ring (s : State) (page offset : Nat) (w : Word) : (s.setWord page offset w).ring = s.ring := rfl
@[simp] theorem State.setWord_tables (s : State) (page offset : Nat) (w : Word) :
    (s.setWord page offset w).tables = s.tables := rfl
@[simp] theorem State.setWord_resetHeld (s : State) (page offset : Nat) (w : Word) :
    (s.setWord page offset w).resetHeld = s.resetHeld := rfl
@[simp] theorem State.setWord_freeCount (s : State) (page offset : Nat) (w : Word) :
    (s.setWord page offset w).freeCount = s.freeCount := rfl
@[simp] theorem State.setWord_pending (s : State) (page offset : Nat) (w : Word) :
    (s.setWord page offset w).pending = s.pending := rfl

/-! ## settle -/

@[simp] theorem State.settle_lane (s : State) (l : LaneId) : s.settle.lane l = (s.lane l).settle :=
  State.mapLanes_lane s Lane.settle l

@[simp] theorem State.settle_track (s : State) : s.settle.track = s.track := rfl
@[simp] theorem State.settle_free (s : State) : s.settle.free = s.free := rfl
@[simp] theorem State.settle_places (s : State) : s.settle.places = s.places := rfl
@[simp] theorem State.settle_place (s : State) (p : PlaceId) : s.settle.place p = s.place p := rfl
@[simp] theorem State.settle_stackSerial (s : State) : s.settle.stackSerial = s.stackSerial := rfl
@[simp] theorem State.settle_mem (s : State) : s.settle.mem = s.mem := rfl
@[simp] theorem State.settle_resetHeld (s : State) : s.settle.resetHeld = s.resetHeld := rfl
@[simp] theorem State.settle_freeCount (s : State) : s.settle.freeCount = s.freeCount := rfl
@[simp] theorem State.settle_pending (s : State) : s.settle.pending = s.pending := rfl
@[simp] theorem State.settle_word (s : State) (page offset : Nat) : s.settle.word page offset = s.word page offset := rfl

theorem State.mapLanes_readyOutRule (s : State) (f : Lane → Lane) : (s.mapLanes f).readyOutRule = s.readyOutRule := rfl

/-- Whether some lane is FAULTED depends on the lane states alone. -/
theorem State.anyFaulted_congr {s t : State} (h : ∀ l, (s.lane l).mode = (t.lane l).mode) : s.anyFaulted = t.anyFaulted := by
  unfold State.anyFaulted
  congr 1
  funext l
  rw [decide_eq_decide, h l]

/-- ALERT's rule depends on the warnings, the lane states and the outfeed state alone. -/
theorem State.alertRule_congr {s t : State} (hw : s.tables.warnings = t.tables.warnings)
    (hl : ∀ l, (s.lane l).mode = (t.lane l).mode) (hd : s.discharge.outfeed = t.discharge.outfeed) :
    s.alertRule = t.alertRule := by
  unfold State.alertRule
  rw [State.anyFaulted_congr hl, hw, decide_eq_decide.mpr (by rw [hd])]

theorem State.mapLanes_alertRule (s : State) (f : Lane → Lane) (h : ∀ L, (f L).mode = L.mode) :
    (s.mapLanes f).alertRule = s.alertRule :=
  State.alertRule_congr rfl (fun l => by rw [State.mapLanes_lane, h]) rfl

theorem State.settle_discharge (s : State) :
    s.settle.discharge = { s.discharge with push := s.discharge.pushRule, run := s.discharge.runRule } := rfl

theorem State.settle_ring (s : State) : s.settle.ring = { s.ring with readyOut := s.readyOutRule } := rfl

theorem State.settle_tables (s : State) : s.settle.tables = { s.tables with alert := s.alertRule } := by
  have h : (s.mapLanes Lane.settle).alertRule = s.alertRule := State.mapLanes_alertRule s Lane.settle fun _ => rfl
  show ({ s.tables with alert := (s.mapLanes Lane.settle).alertRule } : Tables) = _
  rw [h]

@[simp] theorem Lane.settle_feedHoldRule (L : Lane) : L.settle.feedHoldRule = L.feedHoldRule := rfl
@[simp] theorem Lane.settle_feedSlowRule (L : Lane) : L.settle.entry.feedSlowRule = L.entry.feedSlowRule := rfl
@[simp] theorem Lane.settle_mode (L : Lane) : L.settle.mode = L.mode := rfl
@[simp] theorem Lane.settle_tokens (L : Lane) : L.settle.tokens = L.tokens := rfl
@[simp] theorem Lane.settle_inFlight (L : Lane) : L.settle.inFlight = L.inFlight := rfl
@[simp] theorem Lane.settle_sched (L : Lane) : L.settle.sched = L.sched := rfl
@[simp] theorem Lane.settle_exit (L : Lane) : L.settle.exit = L.exit := rfl
@[simp] theorem Lane.settle_faultCode (L : Lane) : L.settle.faultCode = L.faultCode := rfl
@[simp] theorem Lane.settle_openList (L : Lane) : L.settle.openList = L.openList := rfl

/-- After `settle` every line stands at its rule's value. -/
theorem State.settle_linesFollow (s : State) : s.settle.linesFollow := by
  refine ⟨fun l => ?_, rfl, rfl, rfl, ?_⟩
  · rw [State.settle_lane]; exact ⟨rfl, rfl⟩
  · have h : s.settle.alertRule = s.alertRule :=
      State.alertRule_congr (by rw [State.settle_tables]) (fun l => by rw [State.settle_lane]; rfl) (by rw [State.settle_discharge])
    rw [h, State.settle_tables]

/-- A state whose lines stand at their rules' values is left as it is by `settle`. -/
theorem State.settle_of_linesFollow {s : State} (h : s.linesFollow) : s.settle = s := by
  obtain ⟨hl, hp, hr, ho, ha⟩ := h
  have lanes : s.settle.lanes = s.lanes := by
    apply State.lane_ext
    intro l
    rw [State.settle_lane]
    simp only [Lane.settle]
    rw [← (hl l).1, ← (hl l).2]
  have d : s.settle.discharge = s.discharge := by rw [State.settle_discharge, ← hp, ← hr]
  have r : s.settle.ring = s.ring := by rw [State.settle_ring, ← ho]
  have t : s.settle.tables = s.tables := by rw [State.settle_tables, ← ha]
  cases s
  simp only [State.settle, State.settleStation, State.mapLanes, State.modLane] at lanes d r t ⊢
  simp only [State.mk.injEq]
  exact ⟨trivial, lanes, trivial, trivial, trivial, d, r, t, trivial, trivial, trivial, trivial⟩

/-- The outcome of an event: the event settled when its condition holds, and otherwise the state as it was. -/
theorem event_cases {due : Bool} {s' s t : State} (h : event due s' s = .next t) : (due = true ∧ t = s'.settle) ∨ (due = false ∧ t = s) := by
  cases due <;> simp [event] at h <;> simp [h]

@[simp] theorem event_due (s' s : State) : event true s' s = .next s'.settle := rfl

@[simp] theorem event_not_due (s' s : State) : event false s' s = .next s := rfl

end Sys2Proof.Machine
end

