-- ==== Sys2Proof/Laws/Memory.lean ====
section
/-! SUPPORT. Table memory: what a write and a page clear leave at each address, and that they keep the canonical form. -/
namespace Sys2Proof.Machine

/-! ## Reading after a write -/

/-- A write leaves every other address as it was. -/
theorem Mem.read_write_other (m : Mem) {a b : Nat} (w : Word) (h : b ≠ a) : (m.write a w).read b = m.read b := by
  induction m with
  | nil =>
    unfold Mem.write
    split
    · rfl
    · simp only [Mem.read, h, if_false]
  | cons c rest ih =>
    obtain ⟨d, v⟩ := c
    unfold Mem.write
    by_cases h1 : a < d
    · rw [if_pos h1]
      split
      · rfl
      · simp only [Mem.read, h, if_false]
    · rw [if_neg h1]
      by_cases h2 : a = d
      · rw [if_pos h2]
        subst h2
        split <;> simp only [Mem.read, h, if_false]
      · rw [if_neg h2]
        simp only [Mem.read, ih]

/-- An address below every listed one reads as at power-on. -/
theorem Mem.read_below : ∀ (m : Mem) (a : Nat), (∀ c ∈ m, a < c.1) → m.read a = powerOnWord a
  | [], _, _ => rfl
  | (b, w) :: rest, a, h => by
    have hb : a ≠ b := Nat.ne_of_lt (h (b, w) (List.mem_cons_self ..))
    simp only [Mem.read, hb, if_false]
    exact Mem.read_below rest a fun c hc => h c (List.mem_cons_of_mem _ hc)

/-- In a memory whose addresses rise, a write is read back. -/
theorem Mem.read_write_same (m : Mem) (h : m.Pairwise fun x y => x.1 < y.1) (a : Nat) (w : Word) : (m.write a w).read a = w := by
  induction m with
  | nil =>
    unfold Mem.write
    split
    · next e => rw [e]; rfl
    · simp only [Mem.read, if_true]
  | cons c rest ih =>
    obtain ⟨b, v⟩ := c
    obtain ⟨hlow, hrest⟩ := List.pairwise_cons.mp h
    unfold Mem.write
    by_cases h1 : a < b
    · rw [if_pos h1]
      by_cases h2 : w = powerOnWord a
      · rw [if_pos h2, h2]
        apply Mem.read_below
        intro c hc
        rcases List.mem_cons.mp hc with e | hc
        · rw [e]; exact h1
        · exact Nat.lt_trans h1 (hlow c hc)
      · rw [if_neg h2]
        simp only [Mem.read, if_true]
    · rw [if_neg h1]
      by_cases h2 : a = b
      · rw [if_pos h2]
        subst h2
        by_cases h3 : w = powerOnWord a
        · rw [if_pos h3, h3]
          exact Mem.read_below rest a hlow
        · rw [if_neg h3]
          simp only [Mem.read, if_true]
      · rw [if_neg h2]
        simp only [Mem.read, h2, if_false]
        exact ih hrest

/-! ## The canonical form -/

/-- The addresses after a write are the old ones and the one written. -/
theorem Mem.mem_write {m : Mem} {a : Nat} {w : Word} {c : Nat × Word} (h : c ∈ m.write a w) : c ∈ m ∨ c = (a, w) := by
  induction m with
  | nil =>
    unfold Mem.write at h
    split at h
    · exact absurd h (List.not_mem_nil)
    · exact Or.inr (List.mem_singleton.mp h)
  | cons d rest ih =>
    obtain ⟨b, v⟩ := d
    unfold Mem.write at h
    split at h
    · split at h
      · exact Or.inl h
      · rcases List.mem_cons.mp h with e | h
        · exact Or.inr e
        · exact Or.inl h
    · split at h
      · split at h
        · exact Or.inl (List.mem_cons_of_mem _ h)
        · rcases List.mem_cons.mp h with e | h
          · exact Or.inr e
          · exact Or.inl (List.mem_cons_of_mem _ h)
      · rcases List.mem_cons.mp h with e | h
        · exact Or.inl (e ▸ List.mem_cons_self ..)
        · exact (ih h).imp (List.mem_cons_of_mem _) id

/-- A write keeps the addresses rising. -/
theorem Mem.write_rising {m : Mem} (h : m.Pairwise fun x y => x.1 < y.1) (a : Nat) (w : Word) :
    (m.write a w).Pairwise fun x y => x.1 < y.1 := by
  induction m with
  | nil =>
    unfold Mem.write
    split
    · exact List.Pairwise.nil
    · exact List.pairwise_singleton _ _
  | cons d rest ih =>
    obtain ⟨b, v⟩ := d
    obtain ⟨hlow, hrest⟩ := List.pairwise_cons.mp h
    unfold Mem.write
    split
    · next h1 =>
      split
      · exact h
      · refine List.pairwise_cons.mpr ⟨fun c hc => ?_, h⟩
        rcases List.mem_cons.mp hc with e | hc
        · rw [e]; exact h1
        · exact Nat.lt_trans h1 (hlow c hc)
    · next h1 =>
      split
      · next h2 =>
        split
        · exact hrest
        · exact List.pairwise_cons.mpr ⟨fun c hc => h2 ▸ hlow c hc, hrest⟩
      · next h2 =>
        refine List.pairwise_cons.mpr ⟨fun c hc => ?_, ih hrest⟩
        rcases Mem.mem_write hc with hc | e
        · exact hlow c hc
        · rw [e]
          exact Nat.lt_of_le_of_ne (Nat.le_of_not_lt h1) fun e => h2 e.symm

/-- A word written at its power-on value is not listed. -/
theorem Mem.write_lists {m : Mem} (h : m.wf) {a : Nat} (w : Word) :
    ∀ c ∈ m.write a w, c ∈ m ∨ (c = (a, w) ∧ w ≠ powerOnWord a) := by
  obtain ⟨hr, hm⟩ := h
  induction m with
  | nil =>
    intro c hc
    unfold Mem.write at hc
    split at hc
    · exact absurd hc List.not_mem_nil
    · next hw => exact Or.inr ⟨List.mem_singleton.mp hc, hw⟩
  | cons d rest ih =>
    intro c hc
    obtain ⟨b, v⟩ := d
    unfold Mem.write at hc
    split at hc
    · split at hc
      · exact Or.inl hc
      · next hw =>
        rcases List.mem_cons.mp hc with e | hc
        · exact Or.inr ⟨e, hw⟩
        · exact Or.inl hc
    · split at hc
      · split at hc
        · exact Or.inl (List.mem_cons_of_mem _ hc)
        · next hw =>
          rcases List.mem_cons.mp hc with e | hc
          · exact Or.inr ⟨e, hw⟩
          · exact Or.inl (List.mem_cons_of_mem _ hc)
      · rcases List.mem_cons.mp hc with e | hc
        · exact Or.inl (e ▸ List.mem_cons_self ..)
        · exact (ih (List.pairwise_cons.mp hr).2 (fun c hc => hm c (List.mem_cons_of_mem _ hc)) c hc).imp
            (List.mem_cons_of_mem _) id

/-- A write inside table memory keeps the canonical form. -/
theorem Mem.write_wf {m : Mem} (h : m.wf) {a : Nat} (ha : a < memWords) (w : Word) : (m.write a w).wf := by
  refine ⟨Mem.write_rising h.1 a w, fun c hc => ?_⟩
  rcases Mem.write_lists h w c hc with hc | ⟨e, hw⟩
  · exact h.2 c hc
  · rw [e]; exact ⟨ha, hw⟩

/-! ## Clearing a page -/

/-- A page cleared reads as at power-on, and every other address as before. -/
theorem Mem.read_clearPage (m : Mem) (page a : Nat) :
    (m.clearPage page).read a =
      if pageBase page ≤ a ∧ a < pageBase (page + 1) then powerOnWord a else m.read a := by
  induction m with
  | nil => unfold Mem.clearPage; simp [Mem.read]
  | cons c rest ih =>
    obtain ⟨b, v⟩ := c
    unfold Mem.clearPage at ih ⊢
    by_cases h : pageBase page ≤ b ∧ b < pageBase (page + 1)
    · rw [List.filter_cons_of_neg (by simp [h]), ih]
      by_cases e : a = b
      · subst e; rw [if_pos h, if_pos h]
      · simp only [Mem.read, e, if_false]
    · rw [List.filter_cons_of_pos (by show (!decide _) = true; rw [decide_eq_false h]; rfl)]
      by_cases e : a = b
      · subst e
        rw [if_neg h]
        simp only [Mem.read, if_true]
      · simp only [Mem.read, e, if_false]
        exact ih

theorem Mem.clearPage_wf {m : Mem} (h : m.wf) (page : Nat) : (m.clearPage page).wf :=
  ⟨h.1.filter _, fun c hc => h.2 c (List.mem_filter.mp hc).1⟩

/-- The memory of the state after reset stands in its canonical form. -/
theorem State.reset_mem_wf : State.reset.mem.wf := ⟨List.Pairwise.nil, fun _ h => absurd h List.not_mem_nil⟩

/-! ## Words of the state -/

/-- A word written leaves every other word as it was; pages do not overlap. -/
theorem State.word_setWord_other (s : State) {page offset page' offset' : Nat} (w : Word)
    (h : pageBase page' + offset' ≠ pageBase page + offset) : (s.setWord page offset w).word page' offset' = s.word page' offset' :=
  Mem.read_write_other _ w h

theorem State.word_setWord_same (s : State) (h : s.mem.wf) (page offset : Nat) (w : Word) :
    (s.setWord page offset w).word page offset = w :=
  Mem.read_write_same _ h.1 _ w

theorem State.setWord_wf {s : State} (h : s.mem.wf) {page offset : Nat} (hp : page < 8) (ho : offset < 1024) (w : Word) :
    (s.setWord page offset w).mem.wf := by
  refine Mem.write_wf h ?_ w
  unfold pageBase memWords
  omega

theorem State.word_addWord_same (s : State) (h : s.mem.wf) (page offset n : Nat) :
    (s.addWord page offset n).word page offset = s.word page offset + wordOf n :=
  State.word_setWord_same s h page offset _

theorem State.word_addWord_other (s : State) {page offset page' offset' : Nat} (n : Nat)
    (h : pageBase page' + offset' ≠ pageBase page + offset) : (s.addWord page offset n).word page' offset' = s.word page' offset' :=
  State.word_setWord_other s _ h

end Sys2Proof.Machine
end

