-- ==== Sys2Proof/Laws/Frame.lean ====
section
/-! SUPPORT. What the operations of the blocks can do, said once: `Inside l s t` says that `t` comes from `s` by operations that act for
lane `l`. Each shared operation has one lemma here, which a proof cites in place of unfolding it. -/
namespace Sys2Proof.Machine

/-! ## The relation -/

/-- The words that operations for lane `l` may write: the status and the runtime words of the entries (R125, R131, R133), and the lane's
counters (R60). -/
def Booked (l : LaneId) (a : Nat) : Prop :=
  (∃ (e : EntryId) (k : Nat), a = pageBase 4 + (12 * e.val + k) ∧ k < 12 ∧ (k = 0 ∨ 5 ≤ k)) ∨
  (∃ k ≤ 16, a = pageBase 7 + laneCounterOffset l k)

/-- What operations for lane `l` keep of another lane: all but its starved mark, which they may clear, and the stacks-closed count of its
lot (R101, R135). -/
structure Lane.Spared (L M : Lane) : Prop where
  same : M = { L with starved := M.starved, lot := { L.lot with stacksClosed := M.lot.stacksClosed } }
  starved : M.starved = true → L.starved = true

/-- `t` comes from `s` by operations for lane `l`. -/
structure Inside (l : LaneId) (s t : State) : Prop where
  others : ∀ m, m ≠ l → (s.lane m).Spared (t.lane m)
  track : t.track = s.track
  rawLevel : t.discharge.rawLevel = s.discharge.rawLevel
  level : t.discharge.level = s.discharge.level
  changePending : t.discharge.changePending = s.discharge.changePending
  tables : t.tables = { s.tables with warnings := t.tables.warnings, alert := t.tables.alert }
  ring : ∃ reports, t.ring = { s.ring with reportQueue := s.ring.reportQueue ++ reports }
  wf : s.mem.wf → t.mem.wf
  read : ∀ a, ¬ Booked l a → t.mem.read a = s.mem.read a
  resetHeld : t.resetHeld = s.resetHeld
  freeCount : t.freeCount = s.freeCount
  pending : t.pending = s.pending

theorem Lane.Spared.refl (L : Lane) : L.Spared L := ⟨rfl, id⟩

theorem Lane.Spared.trans {L M N : Lane} (h : L.Spared M) (k : M.Spared N) : L.Spared N :=
  ⟨by rw [k.same, h.same], fun e => h.starved (k.starved e)⟩

namespace Inside

variable {l : LaneId} {s t u : State}

theorem refl (l : LaneId) (s : State) : Inside l s s where
  others := fun m _ => Lane.Spared.refl _
  track := rfl
  rawLevel := rfl
  level := rfl
  changePending := rfl
  tables := rfl
  ring := ⟨[], by rw [List.append_nil]⟩
  wf := id
  read := fun _ _ => rfl
  resetHeld := rfl
  freeCount := rfl
  pending := rfl

theorem trans (h : Inside l s t) (k : Inside l t u) : Inside l s u where
  others := fun m hm => (h.others m hm).trans (k.others m hm)
  track := k.track.trans h.track
  rawLevel := k.rawLevel.trans h.rawLevel
  level := k.level.trans h.level
  changePending := k.changePending.trans h.changePending
  tables := by rw [k.tables, h.tables]
  ring := by
    obtain ⟨a, ha⟩ := h.ring
    obtain ⟨b, hb⟩ := k.ring
    exact ⟨a ++ b, by rw [hb, ha, List.append_assoc]⟩
  wf := fun e => k.wf (h.wf e)
  read := fun a ha => (k.read a ha).trans (h.read a ha)
  resetHeld := k.resetHeld.trans h.resetHeld
  freeCount := k.freeCount.trans h.freeCount
  pending := k.pending.trans h.pending

/-- An operation repeated along a list. -/
theorem foldl {α : Type} {f : State → α → State} (h : ∀ s a, Inside l s (f s a)) (xs : List α) (s : State) :
    Inside l s (xs.foldl f s) := by
  induction xs generalizing s with
  | nil => exact refl l s
  | cons x xs ih => exact (h s x).trans (ih _)

/-! ## Updates of the state -/

/-- A state that differs from `s` in one lane's own fields only, or in fields the relation does not name. -/
theorem ofLane (l : LaneId) (s : State) (f : Lane → Lane) : Inside l s (s.modLane l f) :=
  { refl l s with others := fun m hm => by rw [State.modLane_lane_other s f hm]; exact Lane.Spared.refl _ }

theorem modPlace (l : LaneId) (s : State) (p : PlaceId) (f : Place → Place) : Inside l s (s.modPlace p f) :=
  { refl l s with }

theorem modEntry (l : LaneId) (s : State) (f : EntrySensor → EntrySensor) : Inside l s (s.modEntry l f) := ofLane l s _

theorem modExit (l : LaneId) (s : State) (f : ExitUnit → ExitUnit) : Inside l s (s.modExit l f) := ofLane l s _

theorem modSched (l : LaneId) (s : State) (f : FoldLane → FoldLane) : Inside l s (s.modSched l f) := ofLane l s _

theorem setMode (l : LaneId) (s : State) (m : LaneMode) : Inside l s (s.setMode l m) := ofLane l s _

theorem setWaitPending (l : LaneId) (s : State) (b : Bool) : Inside l s (s.setWaitPending l b) := ofLane l s _

theorem modLot (l : LaneId) (s : State) (f : Lot → Lot) : Inside l s (s.modLot l f) := ofLane l s _

theorem modRecord (l : LaneId) (s : State) (n : RecordNo) (f : PieceRecord → PieceRecord) : Inside l s (s.modRecord l n f) :=
  ofLane l s _

/-- Any change of every lane that spares each. -/
theorem mapLanes (l : LaneId) (s : State) (f : Lane → Lane) (h : ∀ L : Lane, L.Spared (f L)) : Inside l s (s.mapLanes f) :=
  { refl l s with others := fun m _ => by rw [State.mapLanes_lane]; exact h _ }

/-! ## Words of table memory -/

theorem setWord (l : LaneId) (s : State) (page offset : Nat) (w : Word) (hp : page < 8) (ho : offset < 1024)
    (hb : Booked l (pageBase page + offset)) : Inside l s (s.setWord page offset w) :=
  { refl l s with
    wf := fun h => State.setWord_wf h hp ho w
    read := fun _ ha => Mem.read_write_other _ w fun e => ha (e ▸ hb) }

theorem setEntryWord (l : LaneId) (s : State) (e : EntryId) (k : Nat) (w : Word) (hk : k < 12) (h : k = 0 ∨ 5 ≤ k) :
    Inside l s (s.setEntryWord e k w) := by
  refine setWord l s _ _ w (by decide) ?_ (Or.inl ⟨e, k, rfl, hk, h⟩)
  have := e.isLt
  omega

theorem bumpEntry (l : LaneId) (s : State) (e : EntryId) (k : Nat) (hk : k < 12) (h : 5 ≤ k) : Inside l s (s.bumpEntry e k) :=
  setEntryWord l s e k _ hk (Or.inr h)

theorem setEntryStatus (l : LaneId) (s : State) (e : EntryId) (st : EntryStatus) : Inside l s (s.setEntryStatus e st) :=
  setEntryWord l s e 0 _ (by decide) (Or.inl rfl)

theorem writeBackEntry (l : LaneId) (s : State) (e : EntryId) (st : EntryStatus) : Inside l s (s.writeBackEntry e st) :=
  setEntryWord l s e 0 _ (by decide) (Or.inl rfl)

theorem addLaneCounter (l : LaneId) (s : State) (k n : Nat) (hk : k ≤ 16) : Inside l s (s.addLaneCounter l k n) := by
  refine setWord l s _ _ _ (by decide) ?_ (Or.inr ⟨k, hk, rfl⟩)
  have := l.isLt
  unfold laneCounterOffset
  omega

/-! ## Reports and warnings (R170, R180) -/

theorem pushReport (l : LaneId) (s : State) (r : Report) : Inside l s (s.pushReport r) :=
  { refl l s with ring := ⟨_, rfl⟩ }

theorem latchWarning (l : LaneId) (s : State) (w : Warning) : Inside l s (s.latchWarning w) := { refl l s with tables := rfl }

theorem raiseReportDropped (l : LaneId) (s : State) : Inside l s s.raiseReportDropped := by
  unfold State.raiseReportDropped
  split
  · exact refl l s
  · split
    · exact (latchWarning l s _).trans (pushReport l _ _)
    · exact latchWarning l s _

theorem produce (l : LaneId) (s : State) (r : Report) : Inside l s (s.produce r) := by
  unfold State.produce
  split
  · exact pushReport l s r
  · exact raiseReportDropped l s

theorem raise (l : LaneId) (s : State) (w : Warning) (n : Option LaneId) : Inside l s (s.raise w n) := by
  unfold State.raise
  split
  · exact refl l s
  · exact (latchWarning l s w).trans (produce l _ _)

/-! ## Places and the discharge (chapters 6 and 7) -/

theorem beginPush (l : LaneId) (s : State) (p : PlaceId) (rest : List PlaceId) : Inside l s (s.beginPush p rest) :=
  { refl l s with }

theorem startDischarge (l : LaneId) (s : State) : Inside l s s.startDischarge := by
  unfold State.startDischarge
  split
  · exact refl l s
  · exact (beginPush l s _ _).trans (pushReport l _ _)

theorem tryDischarge (l : LaneId) (s : State) : Inside l s s.tryDischarge := by
  unfold State.tryDischarge
  split
  · exact startDischarge l s
  · exact refl l s

theorem stackClosed (l m : LaneId) (s : State) (customer : Word) (last : EntryId) : Inside l s (s.stackClosed m customer last) := by
  unfold State.stackClosed
  split
  · exact bumpEntry l s last 11 (by decide) (by decide)
  · split
    · refine { refl l s with others := fun n _ => ?_ }
      by_cases e : n = m
      · subst e
        rw [State.modLane_lane_same]
        exact ⟨rfl, id⟩
      · rw [State.modLane_lane_other s _ e]
        exact Lane.Spared.refl _
    · exact refl l s

theorem tellStackClosed (l : LaneId) (s : State) (p : PlaceId) : Inside l s (s.tellStackClosed p) := by
  unfold State.tellStackClosed
  split
  · exact stackClosed l _ s _ _
  · exact refl l s

theorem unstarve (l : LaneId) (s : State) (p : PlaceId) : Inside l s (s.unstarve p) := by
  refine mapLanes l s _ fun L => ?_
  split
  · exact ⟨rfl, fun e => absurd e Bool.false_ne_true⟩
  · exact Lane.Spared.refl _

theorem freePlace (l : LaneId) (s : State) (p : PlaceId) : Inside l s (s.freePlace p) := (modPlace l s p _).trans (unstarve l _ p)

theorem makeFull (l : LaneId) (s : State) (p : PlaceId) (short : Bool) : Inside l s (s.makeFull p short) := by
  unfold State.makeFull
  refine trans (t := { s.modPlace p _ with discharge := { s.discharge with queue := s.discharge.queue ++ [p] } }) ?_
    ((tellStackClosed l _ p).trans (tryDischarge l _))
  exact { refl l s with }

theorem shortClose (l : LaneId) (s : State) (p : PlaceId) : Inside l s (s.shortClose p) := by
  unfold State.shortClose
  repeat' split
  · exact modPlace l s p _
  · exact makeFull l s p true
  · exact freePlace l s p
  · exact refl l s

theorem clearInbound (l : LaneId) (s : State) (p : PlaceId) : Inside l s (s.clearInbound p) := by
  unfold State.clearInbound
  split
  · dsimp only
    split
    · exact (modPlace l s p _).trans (shortClose l _ p)
    · exact modPlace l s p _
  · exact refl l s

theorem closeOtherIdentity (l m : LaneId) (s : State) (customer : Word) (article : Nat) :
    Inside l s (s.closeOtherIdentity m customer article) := by
  unfold State.closeOtherIdentity
  repeat' split
  · exact refl l s
  · exact shortClose l s _
  · exact refl l s

theorem closeIdentity (l m : LaneId) (s : State) (customer : Word) (article : Nat) :
    Inside l s (s.closeIdentity m customer article) := by
  unfold State.closeIdentity
  repeat' split
  · exact shortClose l s _
  · exact refl l s
  · exact refl l s

theorem closeFilling (l m : LaneId) (s : State) : Inside l s (s.closeFilling m) := by
  unfold State.closeFilling
  split
  · exact shortClose l s _
  · exact refl l s

theorem freeEmptyFilling (l m : LaneId) (s : State) : Inside l s (s.freeEmptyFilling m) := by
  unfold State.freeEmptyFilling
  repeat' split
  · exact shortClose l s _
  · exact refl l s
  · exact refl l s

theorem openPlace (l m : LaneId) (s : State) (p : PlaceId) (customer : Word) (article target : Nat) :
    Inside l s (s.openPlace p m customer article target) := { refl l s with }

theorem markInbound (l : LaneId) (s : State) (p : PlaceId) : Inside l s (s.markInbound p) := modPlace l s p _

theorem starve (l : LaneId) (s : State) : Inside l s (s.starve l) := (raise l s _ _).trans (ofLane l _ _)

theorem placeFor (l : LaneId) (s : State) (customer : Word) (article target : Nat) :
    Inside l s (s.placeFor l customer article target).1 := by
  unfold State.placeFor
  split
  · exact markInbound l s _
  · split
    · exact (openPlace l l s _ customer article target).trans (markInbound l _ _)
    · exact starve l s

theorem destinationFor (l : LaneId) (s : State) (r : PieceRecord) : Inside l s (s.destinationFor l r).1 := by
  unfold State.destinationFor
  split
  · split
    · exact raise l s _ _
    · split
      · exact refl l s
      · exact (closeOtherIdentity l l s _ _).trans (placeFor l _ _ _ _)
  · exact refl l s

theorem countDelivery (l : LaneId) (s : State) (p : PlaceId) (t : Option Token) : Inside l s (s.countDelivery p t) := by
  unfold State.countDelivery
  dsimp only
  repeat' split
  · exact (modPlace l s p _).trans (makeFull l _ p false)
  · exact (modPlace l s p _).trans (shortClose l _ p)
  · exact modPlace l s p _

/-! ## The Lot Sequencer (chapter 8) -/

theorem zeroEntryCounts (l : LaneId) (s : State) (e : EntryId) : Inside l s (s.zeroEntryCounts e) := by
  have h (t : State) (k : Nat) (hk : k < 12) (h5 : 5 ≤ k) : Inside l t (t.setEntryWord e k 0#16) := setEntryWord l t e k _ hk (Or.inr h5)
  exact (h s 6 (by decide) (by decide)).trans ((h _ 7 (by decide) (by decide)).trans ((h _ 8 (by decide) (by decide)).trans
    ((h _ 9 (by decide) (by decide)).trans ((h _ 10 (by decide) (by decide)).trans (h _ 11 (by decide) (by decide))))))

theorem takeEntry (l : LaneId) (s : State) (e : EntryId) : Inside l s (s.takeEntry l e) :=
  (setEntryWord l s e 5 _ (by decide) (Or.inr (by decide))).trans
    ((setEntryStatus l _ e _).trans ((zeroEntryCounts l _ e).trans (ofLane l _ _)))

theorem claim (l : LaneId) (s : State) : Inside l s (s.claim l) := by
  unfold State.claim
  repeat' split
  · exact takeEntry l s _
  · exact raise l s _ _
  · exact refl l s

theorem stepClaim (l : LaneId) (s : State) : Inside l s (s.stepClaim l) := by
  unfold State.stepClaim
  repeat' split
  · exact claim l s
  · exact (claim l s).trans (setMode l _ _)
  · exact claim l s

theorem quotaStep (l : LaneId) (s : State) (e : EntryId) : Inside l s (s.quotaStep l e) :=
  (setEntryStatus l s e _).trans ((ofLane l _ _).trans (stepClaim l _))

theorem assign (l : LaneId) (s : State) (e : EntryId) : Inside l s (s.assign l e) := by
  unfold State.assign
  dsimp only
  split
  · exact (bumpEntry l s e 6 (by decide) (by decide)).trans (quotaStep l _ e)
  · exact bumpEntry l s e 6 (by decide) (by decide)

theorem reportLot (l : LaneId) (s : State) (mark : Lot → Lot) : Inside l s (s.reportLot l mark) := (produce l s _).trans (modLot l _ _)

theorem cutLot (l : LaneId) (s : State) (e : EntryId) : Inside l s (s.cutLot l e) := by
  unfold State.cutLot
  split
  · exact reportLot l s _
  · exact refl l s

theorem openLot (l : LaneId) (s : State) (e : EntryId) : Inside l s (s.openLot l e) := by
  unfold State.openLot
  split
  · exact refl l s
  · exact modLot l s _

theorem addToLot (l : LaneId) (s : State) (e : EntryId) : Inside l s (s.addToLot l e) := by
  unfold State.addToLot
  exact (cutLot l s e).trans ((openLot l _ e).trans (modLot l _ _))

theorem notifyEntry (l : LaneId) (s : State) (it : OpenItem) (st : EntryStatus) : Inside l s (s.notifyEntry l it st) := by
  unfold State.notifyEntry
  split
  · exact produce l s _
  · exact refl l s

theorem dropHead (l : LaneId) (s : State) : Inside l s (s.dropHead l) := ofLane l s _

theorem closeItem (l : LaneId) (s : State) (it : OpenItem) (st : EntryStatus) : Inside l s (s.closeItem l it st) :=
  (writeBackEntry l s it.entry st).trans ((notifyEntry l _ it st).trans (addToLot l _ it.entry))

theorem endLot (l : LaneId) (s : State) (e : EntryId) : Inside l s (s.endLot l e) := by
  unfold State.endLot
  split
  · exact (closeIdentity l l s _ _).trans (reportLot l _ _)
  · exact refl l s

theorem holdAfter (l : LaneId) (s : State) (e : EntryId) : Inside l s (s.holdAfter l e) := by
  unfold State.holdAfter
  repeat' split
  · exact setMode l s _
  · exact setWaitPending l s _
  · exact refl l s

theorem completeHead (l : LaneId) (s : State) (it : OpenItem) : Inside l s (s.completeHead l it) :=
  (closeItem l s it _).trans ((endLot l _ _).trans ((holdAfter l _ _).trans (dropHead l _)))

theorem cascade (l : LaneId) (n : Nat) (s : State) : Inside l s (State.cascade n l s) := by
  induction n generalizing s with
  | zero => exact refl l s
  | succ n ih =>
    unfold State.cascade
    repeat' split
    · exact refl l s
    · exact (completeHead l s _).trans (ih _)
    · exact refl l s

theorem drain (l : LaneId) (s : State) (e : EntryId) : Inside l s (s.drain l e) := by
  unfold State.drain
  repeat' split
  · exact setEntryStatus l s e _
  · exact (completeHead l s _).trans (cascade l _ _)
  · exact setEntryStatus l s e _

theorem book (l : LaneId) (s : State) (o : Retirement) (e : EntryId) : Inside l s (s.book l o e) := by
  have h : Inside l s (s.bumpEntry e o.entryIndex) := bumpEntry l s e _ (by cases o <;> decide) (by cases o <;> decide)
  unfold State.book
  dsimp only
  split
  · exact h.trans (drain l _ e)
  · exact h

theorem abortLane (l : LaneId) (s : State) : Inside l s (s.abortLane l) := by
  unfold State.abortLane
  dsimp only
  refine trans (t := (s.lane l).openList.foldl (fun t it => t.abortHead l it) s) (foldl (fun t it => (closeItem l t it .aborted).trans (dropHead l _)) _ s)
    (trans ?_ (setWaitPending l _ false))
  split
  · exact reportLot l _ _
  · exact refl l _

theorem reread (l : LaneId) (s : State) : Inside l s (s.reread l) := by
  unfold State.reread
  split
  · exact refl l s
  · exact claim l s

/-! ## Records and retirement (chapter 4), lane faults (chapter 9) -/

theorem examineSuspending (l : LaneId) (s : State) : Inside l s (s.examineSuspending l) := by
  unfold State.examineSuspending
  split
  · exact setMode l s _
  · exact refl l s

theorem wakeSuspended (l : LaneId) (s : State) : Inside l s (s.wakeSuspended l) := by
  unfold State.wakeSuspended
  split
  · exact setMode l s _
  · exact refl l s

theorem leavePlace (l : LaneId) (s : State) (r : PieceRecord) : Inside l s (s.leavePlace r) := by
  unfold State.leavePlace
  split
  · exact clearInbound l s _
  · exact refl l s

theorem freeRecord (l : LaneId) (s : State) (r : PieceRecord) : Inside l s (s.freeRecord l r) :=
  { refl l s with
    others := fun m hm => by
      have h : (s.freeRecord l r).lane m = s.lane m := by
        unfold State.freeRecord
        exact State.modLane_lane_other s (fun L => _) hm
      rw [h]
      exact Lane.Spared.refl _ }

theorem bookTokens (l : LaneId) (s : State) (o : Retirement) (ts : List Token) : Inside l s (s.bookTokens l o ts) := by
  unfold State.bookTokens
  refine foldl ?_ ts s
  intro t x
  exact book l t o x.entry

theorem countRetirement (l : LaneId) (s : State) (r : PieceRecord) (o : Retirement) : Inside l s (s.countRetirement l r o) := by
  have h : Inside l s (s.addLaneCounter l o.laneIndex r.bookings) := addLaneCounter l s _ _ (by cases o <;> decide)
  unfold State.countRetirement
  dsimp only
  split
  · exact h.trans (addLaneCounter l _ _ _ (by rename_i why _; cases why <;> decide))
  · exact h

theorem retire (l : LaneId) (s : State) (n : RecordNo) (o : Retirement) : Inside l s (s.retire l n o) := by
  unfold State.retire
  split
  · exact refl l s
  · exact (freeRecord l s _).trans ((leavePlace l _ _).trans ((bookTokens l _ _ _).trans ((countRetirement l _ _ _).trans
      (examineSuspending l _))))

theorem loseToken (l : LaneId) (s : State) (t : Token) : Inside l s (s.loseToken l t) :=
  (book l s _ _).trans ((addLaneCounter l _ _ _ (by decide)).trans (examineSuspending l _))

theorem popToken (l : LaneId) (s : State) : Inside l s (s.popToken l) := ofLane l s _

theorem holdEdges (l : LaneId) (s : State) : Inside l s (s.holdEdges l) := ofLane l s _

theorem purge (l : LaneId) (s : State) (f : LaneFault) : Inside l s (s.purge l f) := by
  have h1 : Inside l s (s.enterFaulted l f) := (ofLane l s _).trans (holdEdges l _)
  have h2 (t : State) : Inside l t (t.purgeRecords l) := by
    unfold State.purgeRecords
    refine foldl ?_ _ t
    intro t n
    exact retire l t n .lost
  have h3 (t : State) : Inside l t (t.purgeTokens l) := by
    unfold State.purgeTokens
    refine foldl ?_ _ t
    intro t q
    exact (popToken l t).trans (loseToken l _ q.token)
  exact h1.trans ((h2 _).trans ((h3 _).trans ((modSched l _ _).trans ((freeEmptyFilling l l _).trans (produce l _ _)))))

theorem reportFault (l : LaneId) (s : State) (f : LaneFault) : Inside l s (s.reportFault l f) := by
  unfold State.reportFault
  split
  · exact refl l s
  · exact raise l s _ _
  all_goals exact purge l s f

theorem retireAtGate (l : LaneId) (s : State) : Inside l s (s.retireAtGate l) := by
  unfold State.retireAtGate
  split
  · exact retire l s _ _
  · exact refl l s

/-! ## Tokens (chapter 3) -/

theorem acceptToken (s : State) (a : Announcement) (e : EntryId) : Inside a.lane s (s.acceptToken a e) :=
  (assign a.lane s e).trans ((ofLane a.lane _ _).trans (wakeSuspended a.lane _))

theorem rereadForToken (s : State) (a : Announcement) : Inside a.lane s (s.rereadForToken a) := by
  unfold State.rereadForToken
  split
  · refine (claim a.lane s).trans (trans (t := (s.claim a.lane).wakeDry a.lane) ?_ (acceptToken _ a _))
    unfold State.wakeDry
    split
    · exact setMode _ _ _
    · exact refl _ _
  · exact (claim a.lane s).trans (raise _ _ _ _)

theorem intake (s : State) (a : Announcement) : Inside a.lane s (s.intake a) := by
  have ht : Inside a.lane s (s.takeToken a) := by
    unfold State.takeToken
    split
    · exact acceptToken s a _
    · exact rereadForToken s a
  unfold State.intake
  split
  · exact raise _ s _ _
  all_goals first
    | exact ht
    | (unfold State.writeOffToken
       split
       · exact (assign a.lane s _).trans (loseToken a.lane _ _)
       · exact raise _ s _ _)

theorem expireToken (l : LaneId) (s : State) : Inside l s (s.expireToken l) := by
  unfold State.expireToken
  split
  · exact (ofLane l s _).trans ((loseToken l _ _).trans (raise l _ _ _))
  · exact refl l s

/-! ## The Fold Scheduler (chapter 5) -/

theorem gateRecord (l : LaneId) (s : State) (n : RecordNo) (p : Pos) : Inside l s (s.gateRecord l n p) := by
  unfold State.gateRecord
  dsimp only
  split
  · exact (modRecord l s n _).trans (retire l _ n _)
  · exact modRecord l s n _

theorem tryReject (l : LaneId) (s : State) (n : RecordNo) (now : Pos) (w : Window) : Inside l s (s.tryReject l n now w) := by
  unfold State.tryReject
  repeat' split
  · exact modRecord l s n _
  · exact (modSched l s _).trans (gateRecord l _ n _)
  · exact (modSched l s _).trans (gateRecord l _ n _)
  · exact reportFault l s _

theorem giveReject (l : LaneId) (s : State) (n : RecordNo) (now : Pos) : Inside l s (s.giveReject l n now) := by
  unfold State.giveReject
  split
  · exact tryReject l s n now _
  · exact refl l s

theorem scheduleFolds (l : LaneId) (s : State) (r : PieceRecord) (now : Pos) : Inside l s (s.scheduleFolds l r now) := by
  unfold State.scheduleFolds
  split
  · exact (modRecord l s _ _).trans (giveReject l _ _ now)
  · exact modSched l s _

theorem scheduleRecord (l : LaneId) (s : State) (n : RecordNo) (now : Pos) : Inside l s (s.scheduleRecord l n now) := by
  unfold State.scheduleRecord
  split
  · exact refl l s
  · split
    · exact scheduleFolds l s _ now
    · exact scheduleFolds l s _ now
    · exact giveReject l s n now
    · exact refl l s

theorem spoil (l : LaneId) (s : State) (n : RecordNo) : Inside l s (s.spoil l n) := by
  unfold State.spoil
  split
  · exact refl l s
  · dsimp only
    refine trans (t := (s.modSched l fun fl => fl.dropPiece n).setVerdict l n (.reject .spoiled))
      ((modSched l s _).trans (modRecord l _ n _)) ?_
    split
    · exact (modRecord l _ _ _).trans ((modExit l _ _).trans (leavePlace l _ _))
    · exact giveReject l _ n _

theorem openWindow (l : LaneId) (s : State) (o : Output) : Inside l s (s.openWindow l o) := modSched l s _

theorem endWindow (l : LaneId) (s : State) (o : Output) : Inside l s (s.endWindow l o) := by
  unfold State.endWindow
  split
  · exact modSched l s _
  · exact refl l s

/-! ## The Entry Sensor (chapter 2) -/

theorem entryEyeChange (l : LaneId) (s : State) (level : Level) : Inside l s (s.entryEyeChange l level) := by
  unfold State.entryEyeChange
  split
  · exact modEntry l s _
  · refine trans (t := s.setEntryRaw l level) (modEntry l s _) ?_
    unfold State.entryRawChanged
    repeat' split
    · exact modEntry l _ _
    · exact refl l _
    · exact (modEntry l _ _).trans (reportFault l _ _)
    · exact modEntry l _ _
    · exact refl l _

theorem leadingEdge (l : LaneId) (s : State) (lead : Pos) : Inside l s (s.leadingEdge l lead) := by
  have ha (n : RecordNo) : Inside l s (s.appendRecord l n lead) :=
    trans (t := { s.modLane l _ with free := s.free.tail }) { ofLane l s _ with } (wakeSuspended l _)
  unfold State.leadingEdge
  repeat' split
  · exact reportFault l s _
  · exact (ha _).trans ((addLaneCounter l _ _ _ (by decide)).trans (raise l _ _ _))
  · exact ha _

theorem entryLeading (l : LaneId) (s : State) (lead : Pos) : Inside l s (s.entryLeading l lead) := by
  unfold State.entryLeading
  split
  · have h (t : State) : Inside l t (t.takeGap l lead) := by
      unfold State.takeGap
      split
      · exact refl l t
      · exact modEntry l t _
    exact trans (t := s.openPiece l lead) (modEntry l s _) ((h _).trans (leadingEdge l _ lead))
  · exact refl l s

theorem withRecord (l : LaneId) (s : State) (n : RecordNo) {f : State → PieceRecord → State} (h : ∀ t r, Inside l t (f t r)) :
    Inside l s (s.withRecord l n f) := by
  unfold State.withRecord
  split
  · exact h s _
  · exact refl l s

theorem tryStray (l : LaneId) (s : State) (r : PieceRecord) : Inside l s (s.tryStray l r) := by
  unfold State.tryStray
  split
  · exact modRecord l s _ _
  · exact refl l s

theorem takeDouble (l : LaneId) (s : State) (r : PieceRecord) : Inside l s (s.takeDouble l r) := by
  unfold State.takeDouble
  split
  · exact (modRecord l s _ _).trans (popToken l _)
  · exact refl l s

theorem trailingEdge (l : LaneId) (s : State) (length width : Nat) (now : Pos) : Inside l s (s.trailingEdge l length width now) := by
  unfold State.trailingEdge
  split
  · exact refl l s
  · exact (modRecord l s _ _).trans ((withRecord l _ _ fun t r => tryStray l t r).trans
      ((withRecord l _ _ fun t r => takeDouble l t r).trans ((modRecord l _ _ _).trans (scheduleRecord l _ _ now))))

theorem entryTrailing (l : LaneId) (s : State) (c : PendingChange) (width : Nat) : Inside l s (s.entryTrailing l c width) := by
  unfold State.entryTrailing
  repeat' split
  · exact (modEntry l s _).trans (trailingEdge l _ _ _ _)
  · exact modEntry l s _
  · exact refl l s

theorem entryEyeConfirm (l : LaneId) (s : State) : Inside l s (s.entryEyeConfirm l) := by
  unfold State.entryEyeConfirm
  split
  · unfold State.confirmEntry
    split
    · exact (modEntry l s _).trans (entryLeading l _ _)
    · exact (modEntry l s _).trans (entryTrailing l _ _ _)
  · exact refl l s

theorem blockedTargetReached (l : LaneId) (s : State) : Inside l s (s.blockedTargetReached l) := by
  unfold State.blockedTargetReached
  split
  · exact modEntry l s _
  · exact reportFault l s _

/-! ## The Exit Unit (chapter 6) -/

theorem exitEyeChange (l : LaneId) (s : State) (level : Level) : Inside l s (s.exitEyeChange l level) := by
  unfold State.exitEyeChange
  split
  · exact modExit l s _
  · refine trans (t := s.setExitRaw l level) (modExit l s _) ?_
    unfold State.exitRawChanged
    repeat' split
    · exact modExit l _ _
    · exact refl l _
    · exact (modExit l _ _).trans (reportFault l _ _)
    · exact modExit l _ _
    · exact refl l _

theorem matchArrival (l : LaneId) (s : State) (r : PieceRecord) (p : Pos) : Inside l s (s.matchArrival l r p) := by
  have h1 : Inside l s (s.markMatched l r.number) := (modRecord l s _ _).trans (modExit l _ _)
  have h2 (t : State) (d : Destination) (q : Pos) : Inside l t (t.setDestination l r.number d q) :=
    (modRecord l t _ _).trans (modExit l _ _)
  exact h1.trans ((destinationFor l _ r).trans (h2 _ _ _))

theorem phantomArrival (l : LaneId) (s : State) (p : Pos) : Inside l s (s.phantomArrival l p) :=
  (addLaneCounter l s _ _ (by decide)).trans ((raise l _ _ _).trans (modExit l _ _))

theorem exitLeading (l : LaneId) (s : State) (p : Pos) (missingWaited : Bool) : Inside l s (s.exitLeading l p missingWaited) := by
  unfold State.exitLeading
  repeat' split
  · exact matchArrival l s _ p
  · exact (phantomArrival l s p).trans (reportFault l _ _)
  · exact phantomArrival l s p

theorem countIfDelivered (l : LaneId) (s : State) (r : PieceRecord) : Inside l s (s.countIfDelivered r) := by
  unfold State.countIfDelivered
  split
  · exact countDelivery l s _ _
  · exact refl l s

theorem exitTrailing (l : LaneId) (s : State) : Inside l s (s.exitTrailing l) := by
  unfold State.exitTrailing
  split
  · refine trans (t := s.passExit l _) ?_ (modExit l _ _)
    unfold State.passExit
    split
    · exact (countIfDelivered l s _).trans (retire l _ _ _)
    · exact refl l s
  · exact modExit l s _
  · exact refl l s

theorem exitEyeConfirm (l : LaneId) (s : State) : Inside l s (s.exitEyeConfirm l) := by
  unfold State.exitEyeConfirm
  split
  · unfold State.confirmExit
    dsimp only
    repeat' split
    · exact (modExit l s _).trans (exitLeading l _ _ _)
    · exact (modExit l s _).trans (exitTrailing l _)
    · exact modExit l s _
  · exact refl l s

theorem missingTargetReached (l : LaneId) (s : State) : Inside l s (s.missingTargetReached l) := by
  unfold State.missingTargetReached
  split
  · exact modExit l s _
  · exact reportFault l s _

theorem exitBlockedTargetReached (l : LaneId) (s : State) : Inside l s (s.exitBlockedTargetReached l) := by
  unfold State.exitBlockedTargetReached
  split
  · exact modExit l s _
  · exact reportFault l s _

end Inside

end Sys2Proof.Machine
end

