-- ==== Sys2Proof/Laws/Lines.lean ====
section
/-! SUPPORT. When an update leaves the lines alone: `State.linesFollow` depends on a few fields only, so a state that keeps them keeps its
lines, and `settle` returns it unchanged. -/
namespace Sys2Proof.Machine

/-- The fields of a lane that its lines show or follow. -/
def Lane.sameLines (L M : Lane) : Prop :=
  L.mode = M.mode ∧ L.starved = M.starved ∧ L.feedHold = M.feedHold ∧ L.entry.spacing = M.entry.spacing ∧
  L.entry.feedSlow = M.entry.feedSlow

theorem Lane.sameLines_refl (L : Lane) : L.sameLines L := ⟨rfl, rfl, rfl, rfl, rfl⟩

theorem Lane.sameLines_rules {L M : Lane} (h : L.sameLines M) (hf : M.feedHold = M.feedHoldRule ∧ M.entry.feedSlow = M.entry.feedSlowRule) :
    L.feedHold = L.feedHoldRule ∧ L.entry.feedSlow = L.entry.feedSlowRule := by
  obtain ⟨hm, hs, hh, hp, hw⟩ := h
  refine ⟨?_, ?_⟩
  · rw [hh, hf.1, Lane.feedHoldRule, Lane.feedHoldRule, hs,
      decide_eq_decide.mpr (show M.mode = .running ↔ L.mode = .running by rw [hm])]
  · rw [hw, hf.2, EntrySensor.feedSlowRule, EntrySensor.feedSlowRule,
      decide_eq_decide.mpr (show M.entry.spacing = .crowded ↔ L.entry.spacing = .crowded by rw [hp])]

/-- A state that shows what `s` shows and has what the lines of `s` follow, has lines that follow. -/
theorem State.linesFollow_congr {s t : State} (hf : s.linesFollow) (hl : ∀ l, (t.lane l).sameLines (s.lane l))
    (hd : t.discharge.push = s.discharge.push ∧ t.discharge.run = s.discharge.run ∧ t.discharge.outfeed = s.discharge.outfeed ∧
      t.discharge.current = s.discharge.current)
    (hr : t.ring.readyOut = s.ring.readyOut ∧ t.resetHeld = s.resetHeld ∧ t.ring.forwardCount = s.ring.forwardCount)
    (ht : t.tables.alert = s.tables.alert ∧ t.tables.warnings = s.tables.warnings) : t.linesFollow := by
  obtain ⟨fl, fp, fr, fo, fa⟩ := hf
  obtain ⟨hp, hrun, hout, hcur⟩ := hd
  obtain ⟨hro, hh, hc⟩ := hr
  refine ⟨fun l => Lane.sameLines_rules (hl l) (fl l), ?_, ?_, ?_, ?_⟩
  · rw [hp, fp, Discharge.pushRule, Discharge.pushRule, hout, hcur]
  · rw [hrun, fr, Discharge.runRule, Discharge.runRule,
      decide_eq_decide.mpr (show s.discharge.outfeed = .moving ↔ t.discharge.outfeed = .moving by rw [hout])]
  · rw [hro, fo, State.readyOutRule, State.readyOutRule, hh, hc]
  · rw [ht.1, fa]
    exact State.alertRule_congr ht.2.symm (fun l => (hl l).1.symm) hout.symm

/-- Such a state is left as it is by `settle`. -/
theorem State.settle_congr {s t : State} (hf : s.linesFollow) (hl : ∀ l, (t.lane l).sameLines (s.lane l))
    (hd : t.discharge.push = s.discharge.push ∧ t.discharge.run = s.discharge.run ∧ t.discharge.outfeed = s.discharge.outfeed ∧
      t.discharge.current = s.discharge.current)
    (hr : t.ring.readyOut = s.ring.readyOut ∧ t.resetHeld = s.resetHeld ∧ t.ring.forwardCount = s.ring.forwardCount)
    (ht : t.tables.alert = s.tables.alert ∧ t.tables.warnings = s.tables.warnings) : t.settle = t :=
  State.settle_of_linesFollow (State.linesFollow_congr hf hl hd hr ht)

theorem State.settle_withTrack {s : State} (h : s.linesFollow) (t : Track) : ({ s with track := t } : State).settle = { s with track := t } :=
  State.settle_congr h (fun _ => Lane.sameLines_refl _) ⟨rfl, rfl, rfl, rfl⟩ ⟨rfl, rfl, rfl⟩ ⟨rfl, rfl⟩

/-- A change of one lane that keeps what its lines show and follow. -/
theorem State.settle_modLane {s : State} (h : s.linesFollow) (l : LaneId) (f : Lane → Lane) (hf : (f (s.lane l)).sameLines (s.lane l)) :
    (s.modLane l f).settle = s.modLane l f := by
  refine State.settle_congr h (fun m => ?_) ⟨rfl, rfl, rfl, rfl⟩ ⟨rfl, rfl, rfl⟩ ⟨rfl, rfl⟩
  by_cases e : m = l
  · subst e; rw [State.modLane_lane_same]; exact hf
  · rw [State.modLane_lane_other s f e]; exact Lane.sameLines_refl _

/-- A change of a lane's Entry Sensor that keeps its spacing state and FEED_SLOW. -/
theorem State.settle_modEntry {s : State} (h : s.linesFollow) (l : LaneId) (f : EntrySensor → EntrySensor)
    (hs : (f (s.lane l).entry).spacing = (s.lane l).entry.spacing) (hw : (f (s.lane l).entry).feedSlow = (s.lane l).entry.feedSlow) :
    (s.modEntry l f).settle = s.modEntry l f :=
  State.settle_modLane h l _ ⟨rfl, rfl, rfl, hs, hw⟩

/-- A change of a lane's Exit Unit. -/
theorem State.settle_modExit {s : State} (h : s.linesFollow) (l : LaneId) (f : ExitUnit → ExitUnit) :
    (s.modExit l f).settle = s.modExit l f :=
  State.settle_modLane h l _ ⟨rfl, rfl, rfl, rfl, rfl⟩

/-- A change of a lane's part of the Fold Scheduler. -/
theorem State.settle_modSched {s : State} (h : s.linesFollow) (l : LaneId) (f : FoldLane → FoldLane) :
    (s.modSched l f).settle = s.modSched l f :=
  State.settle_modLane h l _ ⟨rfl, rfl, rfl, rfl, rfl⟩

/-- A request answered leaves the lines alone. -/
theorem State.linesFollow_answered {s : State} (h : s.linesFollow) (t : Telegram) (a : Answer) :
    (s.dequeued.respond t a).linesFollow :=
  State.linesFollow_congr h (fun _ => Lane.sameLines_refl _) ⟨rfl, rfl, rfl, rfl⟩ ⟨rfl, rfl, rfl⟩ ⟨rfl, rfl⟩

end Sys2Proof.Machine
end

