-- ==== Sys2Proof/Laws/Events.lean ====
section
/-! SUPPORT. What a lane's event can do: it comes about or not, and where it does, the lane's operations act and the lines settle. -/
namespace Sys2Proof.Machine

/-- A command is an event: either its condition holds and the state is the settled outcome of its operations, or nothing happens. -/
theorem exec_event (c : Instr) (s : State) : ∃ due s', exec c s = event due s' s := by
  cases c <;> exact ⟨_, _, rfl⟩

/-- The event of a lane, where it comes about, is its operations and then the lines. -/
theorem exec_inside {c : Instr} {l : LaneId} {s t : State} (hc : laneOf c = some l) (h : exec c s = .next t) :
    t = s ∨ ∃ u, Inside l s u ∧ t = u.settle := by
  have key (due : Bool) (u : State) (e : event due u s = .next t) (hu : Inside l s u) : t = s ∨ ∃ u, Inside l s u ∧ t = u.settle := by
    rcases event_cases e with ⟨_, rfl⟩ | ⟨_, rfl⟩
    · exact Or.inr ⟨u, hu, rfl⟩
    · exact Or.inl rfl
  cases c with
  | entryEyeChange m level => cases hc; exact key _ _ h (Inside.entryEyeChange l s level)
  | widthBeamChange m beams => cases hc; exact key _ _ h (Inside.modEntry l s _)
  | entryEyeConfirm m => cases hc; exact key _ _ h (Inside.entryEyeConfirm l s)
  | blockedTargetReached m => cases hc; exact key _ _ h (Inside.blockedTargetReached l s)
  | tokenExpiry m => cases hc; exact key _ _ h (Inside.expireToken l s)
  | retirePositionReached m => cases hc; exact key _ _ h (Inside.retireAtGate l s)
  | windowOpen m o => cases hc; exact key _ _ h (Inside.openWindow l s o)
  | windowEnd m o => cases hc; exact key _ _ h (Inside.endWindow l s o)
  | exitEyeChange m level => cases hc; exact key _ _ h (Inside.exitEyeChange l s level)
  | exitEyeConfirm m => cases hc; exact key _ _ h (Inside.exitEyeConfirm l s)
  | missingTargetReached m => cases hc; exact key _ _ h (Inside.missingTargetReached l s)
  | exitBlockedTargetReached m => cases hc; exact key _ _ h (Inside.exitBlockedTargetReached l s)
  | _ => cases hc

end Sys2Proof.Machine
end

