-- ==== Sys2Proof/Laws/Order.lean ====
section
/-! SUPPORT. The order that a stop notice takes the lanes in is free, and whatever the free value is, it takes each lane that has
something to spoil once (R79, R80; log entry 7). -/
namespace Sys2Proof.Machine

/-- Whatever is chosen, every item is taken once. -/
theorem pickOrder_perm {α : Type} (choice : Nat → Nat) (n : Nat) (xs : List α) (h : xs.length = n) :
    (pickOrder choice n xs).Perm xs := by
  induction n generalizing xs with
  | zero =>
    rw [List.length_eq_zero_iff.mp h]
    exact List.Perm.refl _
  | succ n ih =>
    have hlt : choice n % xs.length < xs.length := Nat.mod_lt _ (by omega)
    have ht : (xs.drop (choice n % xs.length)).take 1 = [xs[choice n % xs.length]] := by
      rw [List.drop_eq_getElem_cons hlt]
      rfl
    have hl : (xs.eraseIdx (choice n % xs.length)).length = n := by
      rw [List.length_eraseIdx_of_lt hlt, h]
      rfl
    unfold pickOrder
    rw [ht]
    refine ((ih _ hl).cons _).trans ?_
    exact List.getElem_cons_eraseIdx_perm hlt

/-- The lanes spoiled are those with something to spoil, each once. -/
theorem State.spoilOrder_perm (s : State) : s.spoilOrder.Perm (allLanes.filter fun l => !(s.toSpoil l).isEmpty) := by
  unfold State.spoilOrder
  dsimp only
  split
  · exact List.Perm.refl _
  · exact pickOrder_perm _ _ _ rfl

end Sys2Proof.Machine
end

