-- ==== Sys2Proof/Laws/Requests.lean ====
section
/-! SUPPORT. What a request row does: the head of the request queue is taken and answered, by its act when the body length fits, and by
BAD_LENGTH when it does not. -/
namespace Sys2Proof.Machine

/-- A code that names a request names it alone. -/
theorem Request.ofCode_code (r : Request) : Request.ofCode r.code = some r := by cases r <;> decide

/-- A request row on the request that waits for it. -/
theorem request_waiting {s : State} {t : Telegram} {r : Request} (act : Act) (h : s.requestReady = some t)
    (hc : Request.ofCode (codeByte t.body) = some r) :
    request r act s = .next (((r.checked act t.body s.dequeued).1.respond t (r.checked act t.body s.dequeued).2).settle) := by
  have hd : s.requestDue r = true := by simp [State.requestDue, h, hc]
  have hr : s.runRequest r act = s.takeRequest t (r.checked act t.body) := by simp [State.runRequest, h]
  rw [request, hd, hr, event_due]
  rfl

/-- A request row on a body of the right length. -/
theorem request_act {s : State} {t : Telegram} {r : Request} (act : Act) (h : s.requestReady = some t)
    (hc : Request.ofCode (codeByte t.body) = some r) (hl : t.body.length = r.bodyLength t.body) :
    request r act s =
      .next (((act (t.body.drop 3) s.dequeued).1.respond t (act (t.body.drop 3) s.dequeued).2).settle) := by
  rw [request_waiting act h hc, Request.checked, Request.lengthFits, decide_eq_true hl]
  rfl

/-- A request row on a body of the wrong length. -/
theorem request_badLength {s : State} {t : Telegram} {r : Request} (act : Act) (hf : s.linesFollow) (h : s.requestReady = some t)
    (hc : Request.ofCode (codeByte t.body) = some r) (hl : t.body.length ≠ r.bodyLength t.body) :
    request r act s = .next (s.answered t .badLength []) := by
  rw [request_waiting act h hc, Request.checked, Request.lengthFits, decide_eq_false hl]
  exact congrArg _ (State.settle_of_linesFollow (State.linesFollow_answered hf t _))

/-- A request row whose act answers and changes nothing. -/
theorem request_answers {s : State} {t : Telegram} {r : Request} {act : Act} {a : Answer} (hf : s.linesFollow)
    (h : s.requestReady = some t) (hc : Request.ofCode (codeByte t.body) = some r) (hl : t.body.length = r.bodyLength t.body)
    (ha : act (t.body.drop 3) s.dequeued = (s.dequeued, a)) : request r act s = .next (s.dequeued.respond t a) := by
  rw [request_act act h hc hl, ha]
  exact congrArg _ (State.settle_of_linesFollow (State.linesFollow_answered hf t a))

end Sys2Proof.Machine
end

