-- ==== Sys2Proof/Laws/Ring.lean ====
section
/-! SUPPORT. What the Ring Port's start mark, a report's freed slot and a telegram of a foreign source can do, and the write right of
page 0. -/
namespace Sys2Proof.Machine

/-- A start mark while a reset is held takes no slot (R163, R175). -/
theorem State.takeSlot_held {s : State} (h : s.resetHeld = true) : s.takeSlot = s.setReceive .withoutSlot := by
  simp [State.takeSlot, State.readyOutRule, h]

/-- RECEIVE_START always comes about. -/
theorem execReceiveStart_next (s : State) : execReceiveStart s = .next s.cutReceive.takeSlot.settle := rfl

/-- The sender has ordered DISCHARGE_START: the slot frees and nothing else happens. -/
theorem State.freeReportSlot_ordered {s : State} (h : Instr.dischargeStart ∈ s.pending) : s.freeReportSlot = s.popReport := by
  simp [State.freeReportSlot, State.startOrdered, h]

/-- It has not: the start conditions are examined in the same event. -/
theorem State.freeReportSlot_examined {s : State} (h : Instr.dischargeStart ∉ s.pending) :
    s.freeReportSlot = s.popReport.tryDischarge := by
  simp [State.freeReportSlot, State.startOrdered, h]

theorem State.allIdle_iff (s : State) : s.allIdle = true ↔ ∀ l, (s.lane l).mode = .idle := by
  simp [State.allIdle, allLanes, Fin.forall_fin_succ]

/-- A telegram whose source is no station address is forwarded, whatever its destination (R193). -/
theorem State.classify_foreign {s : State} {t : Telegram} (h : 31 < t.src.toNat) : s.classify t = s.forward t false := by
  unfold State.classify
  rw [if_pos h, ite_self]

end Sys2Proof.Machine
end

