-- ==== Sys2Proof/WellFormed.lean ====
section
/-! DEFINITION. Which commands are well formed. Lanes, places, outputs, pin levels and straps are typed to their ranges; the one
check left is on a received telegram, whose body length must fit the length byte of the header (chapter 12, section 12.1:
byte 4). The machine gives an ill-formed telegram a meaning all the same: its length is above 40, so it is discarded (R163). -/
namespace Sys2Proof

/-- The body length fits the one length byte of the header. -/
def Telegram.wellFormed (t : Telegram) : Bool := decide (t.body.length ≤ 255)

/-- Every command but TELEGRAM_RECEIVED is well formed by its type. -/
def Instr.wellFormed : Instr → Bool
  | .telegramReceived t => t.wellFormed
  | .powerOn => true
  | .warmReset => true
  | .encoderPulse => true
  | .motionSampleClose => true
  | .setMotionMode => true
  | .entryEyeChange _ _ => true
  | .widthBeamChange _ _ => true
  | .entryEyeConfirm _ => true
  | .blockedTargetReached _ => true
  | .tokenExpiry _ => true
  | .retirePositionReached _ => true
  | .windowOpen _ _ => true
  | .windowEnd _ _ => true
  | .exitEyeChange _ _ => true
  | .exitEyeConfirm _ => true
  | .missingTargetReached _ => true
  | .exitBlockedTargetReached _ => true
  | .closePlace => true
  | .dischargeStart => true
  | .outfeedEyeChange _ => true
  | .outfeedEyeConfirm => true
  | .outfeedTimeout => true
  | .releaseOutfeed => true
  | .receiveStart => true
  | .sendStart _ => true
  | .telegramSent => true
  | .identify => true
  | .readStatus => true
  | .setPointer => true
  | .writeTable => true
  | .readTable => true
  | .beginModify => true
  | .endModify => true
  | .clearCounters => true
  | .stationReset => true
  | .laneStart => true
  | .laneSuspend => true
  | .laneResume => true
  | .laneRelease => true
  | .laneStop => true
  | .clearFault => true
  | .resetEnd _ => true
  | .unknownRequest => true

end Sys2Proof
end

