-- ==== Sys2Proof/Tests/Slice0.lean ====
section
/-! SUPPORT. Tests: the check of WellFormed refuses an ill-formed telegram, values written out from the spec, one step of some commands on
small states, and for every statement with hypotheses a state and operands that meet them (`test_meets_<name>`). -/
namespace Sys2Proof.Machine.Tests

/-! ## Small states -/

/-- A state after an event: its lines settled. -/
theorem test_settled_lines (s : State) : s.settle.linesFollow := State.settle_linesFollow s

/-- A request from the line computer to station 1. -/
def ask (body : List Byte) : Telegram := { kind := 0x02#8, dest := 0x01#8, src := 0x00#8, flags := 0x00#8, body := body, crc := 0#16 }

/-- The state with one request waiting and the response buffer empty. -/
def asking (s : State) (body : List Byte) : State :=
  { s with ring := { s.ring with response := none, requestQueue := [ask body] } }.settle

/-- Every statement on a request has these two hypotheses met. -/
theorem test_asking (s : State) (body : List Byte) : (asking s body).linesFollow ∧ (asking s body).requestReady = some (ask body) :=
  ⟨State.settle_linesFollow _, rfl⟩

/-- The state after reset with lane 0 changed. -/
def lane0 (f : Lane → Lane) : State := (State.reset.modLane 0 f).settle

/-- The state after reset with lane 0 in a mode. -/
def lane0In (m : LaneMode) : State := lane0 fun L => { L with mode := m }

/-- A piece of length 20 whose lead lies at 0, past its trailing edge. -/
def piece : PieceRecord where
  number := 0
  lane := 0
  tokens := [{ serial := 7, article := 1, marked := false, entry := 5, mismatch := false }]
  snapshot := some { minLength := 10, maxLength := 30, minWidth := 1, maxWidth := 9, program := 0 }
  lead := 0
  expectedExit := 0
  length := some 20
  widthClass := some 3
  phase := .travelling
  verdict := some .accept
  forceOverflow := false
  retirePosition := none
  destination := none

/-- Lane 0 RUNNING with one record on its list, the other 63 on the free list. -/
def carrying (r : PieceRecord) (f : Lane → Lane) : State :=
  { lane0 (fun L => f { L with mode := .running, inFlight := [r] }) with free := freeAtPowerOn.tail }.settle

/-- A pending change of an eye at position 0, whose confirmation position is reached. -/
def change : PendingChange := ⟨0, 0⟩

/-- A queued token that has expired. -/
def oldToken : QueuedToken where
  token := { serial := 7, article := 1, marked := false, entry := 5, mismatch := false }
  arrival := 0
  expiry := 0

/-- Entry 5 ACTIVE with a quota, on the open-entry list of lane 0. -/
def planned (quota : Word) : State :=
  { lane0 (fun L => { L with mode := .running, openList := [⟨5, 3⟩], cursor := 5 }) with
    mem := [(4096 + 60, 0x0102#16), (4096 + 61, 1#16), (4096 + 63, quota)] }

/-- A receive in hand that holds a slot. -/
def receiving (s : State) : State := { s with ring := { s.ring with receive := .withSlot } }.settle

/-- The outfeed in a state with place 2 on it. -/
def outfeedIn (o : Outfeed) (seen : Bool) : State :=
  { State.reset with
    places := State.reset.places.set 2 { Place.reset with state := if o = Outfeed.stalled then .blocked else .discharging }
    discharge := { State.reset.discharge with
      outfeed := o
      current := some 2
      timer := if o = Outfeed.moving then some 5000 else none
      seenCovered := seen } }.settle

/-- A working station in the middle of things: lane 0 RUNNING with a token, a record AT_EXIT for place 0 and an OPEN fold window; lane 1
FAULTED; place 1 FULL, place 2 on the moving outfeed. -/
def busy : State :=
  { ((State.reset.modLane 0 fun L =>
      { L with
        mode := .running
        tokens := [oldToken]
        inFlight := [{ piece with phase := .atExit, destination := some (.place 0) }]
        sched := { windows := [⟨.fold 3, 0, 10, .opened, some 0⟩], folds := (Vector.replicate 6 false).set 3 true,
                   gate := false, gateHold := false }
        exit := { L.exit with level := .covered, rawLevel := .covered, arrival := .matched 0, route := .place 0 } }).modLane 1
      fun L =>
        { L with mode := .faulted, faultCode := some .jam,
                 sched := { windows := [], folds := Vector.replicate 6 false, gate := true, gateHold := true } }) with
    free := freeAtPowerOn.tail
    places := (((State.reset.places.set 0 { Place.reset with state := .filling, lane := some 0, inbound := true, target := 3 }).set 1
      { Place.reset with state := .full, lane := some 0, count := 3 }).set 2 { Place.reset with state := .discharging, lane := some 0 })
    discharge := { State.reset.discharge with queue := [1], outfeed := .moving, current := some 2, timer := some 5000 }
    mem := [(0, 15#16), (4096 + 60, 0x0102#16)]
    pending := [.encoderPulse] }.settle

/-! ## Values from the spec -/

set_option maxRecDepth 4096 in
/-- The one check of WellFormed refuses a body that the length byte cannot count. -/
theorem test_ill_formed_refused :
    Instr.wellFormed (.telegramReceived (ask (List.replicate 256 0x00#8))) = false ∧
    Instr.wellFormed (.telegramReceived (ask (List.replicate 255 0x00#8))) = true := by decide

/-- No row of the table gives bits, so no word spells a command. -/
theorem test_no_word_spells : decodeTableWord 8 0 = none ∧ State.reset.withFetchWord 8 0 = State.reset := ⟨rfl, rfl⟩

set_option maxRecDepth 4096 in
/-- The CRC of the nine bytes 31h to 39h with generator 1021h and a register that starts at all ones. -/
theorem test_crc_check : crcOf [0x31#8, 0x32#8, 0x33#8, 0x34#8, 0x35#8, 0x36#8, 0x37#8, 0x38#8, 0x39#8] = 0x29B1#16 := by decide

/-- The defaults of R191 as READ TABLE finds them. -/
theorem test_power_on_words :
    State.reset.word 0 2 = 4000#16 ∧ State.reset.word 0 8 = 50#16 ∧ State.reset.word 1 (32 * 3 + 9) = 30000#16 ∧
    State.reset.word 1 16 = 0xFFFF#16 ∧ State.reset.word 4 0 = 0#16 := by decide

/-- The reset that State.reset stands for: power-on, and its end with the straps at 1. -/
theorem test_reset_is_power_on_ended : exec (.resetEnd 1) (State.reset.powerOnReset) = .next State.reset := by rfl

/-! ## One step of some commands -/

theorem test_pulse_wraps :
    (match exec .encoderPulse { State.reset with track := { Track.reset with position := 0xFFFFFFFF } } with
      | .next t => some t.track.position
      | _ => none) = some 0 := by decide

theorem test_identify_body :
    (match exec .identify (asking State.reset [0x01#8, 0xAB#8, 0xCD#8]) with
      | .next t => t.ring.response.map fun r => r.telegram.body
      | _ => none) =
    some [0x01#8, 0xAB#8, 0xCD#8, 0x00#8, 0x04#8, 0x46#8, 0xA4#8, 0x00#8, 0x01#8, 0x00#8, 0x01#8, 0x00#8, 0x00#8] := by decide

theorem test_step_takes_the_front :
    (match step (State.reset.withPending [.receiveStart, .telegramReceived (withCrc (ask [0x01#8, 0#8, 0#8]))]) with
      | .next t => some (t.ring.receive, t.pending.length)
      | _ => none) = some (.withSlot, 1) := by decide

/-! ## The hypotheses of the statements can be met -/

theorem test_meets_StepTakesFront : State.reset.pending = [] := rfl

theorem test_meets_EveryCommandAnswers : State.reset.due (.entryEyeConfirm 0) = false := by decide

/-- The hypotheses of the statements that every step keeps a condition: a busy state has each condition, and its step answers. -/
theorem test_meets_Kept :
    busy.linesFollow ∧ busy.memWf ∧ busy.ringBounded ∧ busy.lanesBounded ∧ busy.faultsCoherent ∧ busy.restCoherent ∧
    busy.outfeedCoherent ∧ busy.motionCoherent ∧ busy.outputsDriven ∧ ∃ t, step busy = .next t := by
  refine ⟨State.settle_linesFollow _, ?_, ?_, ?_, ?_, ?_, ?_, ?_, ?_, _, rfl⟩
  · unfold State.memWf; decide
  · unfold State.ringBounded Ring.bounded; decide
  · unfold State.lanesBounded Lane.bounded; decide
  · unfold State.faultsCoherent Lane.faultMarked Lane.faultEmpty; decide
  · unfold State.restCoherent Lane.restsEmpty; decide
  · unfold State.outfeedCoherent Discharge.coherent; decide
  · unfold State.motionCoherent Track.coherent; decide
  · unfold State.outputsDriven FoldLane.driven; decide

set_option maxRecDepth 4096 in
theorem test_meets_RecordPoolWholeKept : busy.poolWhole := by unfold State.poolWhole; decide

/-- Entry 5 ACTIVE with a token assigned, which the lane's queue holds. -/
def tokenOut : State := ((planned 4).setWord 4 66 1#16).modLane 0 fun L => { L with tokens := [oldToken] }

set_option maxRecDepth 4096 in
/-- An entry with a token out, which the next step keeps balanced or books. -/
theorem test_meets_LotRingBalanceKept :
    tokenOut.lotRingBalances ∧ tokenOut.memWf ∧ tokenOut.poolWhole ∧ tokenOut.faultsCoherent ∧ tokenOut.restCoherent ∧
    tokenOut.entryAssigned 5 = 1 ∧ ∃ t, step (tokenOut.withPending [.tokenExpiry 0]) = .next t := by
  refine ⟨⟨by decide, by decide, ?_, by decide, ?_⟩, ?_, ?_, ?_, ?_, by decide, _, rfl⟩
  · unfold State.itemCoherent; decide
  · unfold State.entriesBalance; decide
  · unfold State.memWf; decide
  · unfold State.poolWhole; decide
  · unfold State.faultsCoherent Lane.faultMarked Lane.faultEmpty; decide
  · unfold State.restCoherent Lane.restsEmpty; decide

set_option maxRecDepth 4096 in
theorem test_meets_StacksCoherentKept : busy.queueHoldsFull ∧ busy.placesCoherent ∧ busy.exitsCoherent ∧ busy.inboundCoherent := by
  unfold State.queueHoldsFull State.placesCoherent State.exitsCoherent Lane.exitCoherent State.inboundCoherent
  refine ⟨by decide, by decide, fun l => ⟨?_, ?_, ?_, ?_, ?_⟩, by decide⟩ <;> revert l <;> decide

theorem test_meets_TableMemoryFrame :
    (∃ t, exec .encoderPulse State.reset = .next t) ∧ (∃ t, exec .writeTable (planned 4) = .next t) ∧ (planned 4).entryClaimed 5 :=
  ⟨⟨_, rfl⟩, ⟨_, rfl⟩, by unfold State.entryClaimed; decide⟩

theorem test_meets_LaneEventsLeaveOtherLanes :
    busy.linesFollow ∧ laneOf (.tokenExpiry 0) = some 0 ∧ (1 : LaneId) ≠ 0 ∧ ∃ t, exec (.tokenExpiry 0) busy = .next t :=
  ⟨State.settle_linesFollow _, rfl, by decide, _, rfl⟩

theorem test_meets_WarmResetValues : (planned 4).memWf ∧ ⟨5, 3⟩ ∈ ((planned 4).lane 0).openList := by
  unfold State.memWf; decide

theorem test_meets_ResetEndReadsStraps :
    State.reset.powerOnReset.resetHeld = true ∧ State.reset.powerOnReset.ring.forwardCount < 8 := by decide

theorem test_meets_PulsesMoveThePosition_still : movesPosition (.windowEnd 3 .gate) = false ∧ ∃ t, exec (.windowEnd 3 .gate) busy = .next t :=
  ⟨rfl, _, rfl⟩

theorem test_meets_PulsesMoveThePosition_pulse : busy.linesFollow ∧ busy.resetHeld = false := ⟨State.settle_linesFollow _, rfl⟩

theorem test_meets_SampleCloseUpdatesMotion : State.reset.resetHeld = false := rfl

theorem test_meets_SetMotionModeActs : (0x02#8 : Byte) = byteOf MotionMode.forceStopped.code ∧ 2 < (0x03#8 : Byte).toNat := by decide

/-- One state for each clause on the eye and one on the beams. -/
theorem test_meets_EntryPinsFiltered :
    (let e := (State.reset.lane 0).entry
     e.rawLevel ≠ .covered ∧ Level.covered ≠ e.level ∧ e.pendingChange = none ∧ e.beams ≠ 0xFFFF#16) ∧
    (let e := ((lane0 fun L => { L with entry := { L.entry with rawLevel := .covered, pendingChange := some change } }).lane 0).entry
     e.rawLevel ≠ .clear ∧ Level.clear = e.level ∧ e.pendingChange.isSome = true ∧ e.blockedWaits = false) ∧
    (let e := ((lane0 fun L =>
        { L with entry := { L.entry with level := .covered, pendingChange := some change, blockedWaits := true } }).lane 0).entry
     e.rawLevel ≠ .covered ∧ Level.covered = e.level ∧ e.pendingChange.isSome = true ∧ e.blockedWaits = true) ∧
    State.reset.powerOnReset.settle.resetHeld = true := by decide

theorem test_meets_EntryEdgesHeldBack :
    let s (m : LaneMode) := lane0 fun L => { L with mode := m, entry := { L.entry with rawLevel := .covered, pendingChange := some change } }
    (∀ m ∈ [LaneMode.idle, .faulted], ((s m).lane 0).entry.pendingChange = some change ∧ ((s m).lane 0).mode = m ∧
      ((s m).lane 0).entry.rawLevel ≠ ((s m).lane 0).entry.level) ∧ reached 0 change.confirm = true := by decide

/-- With a record free and with none. -/
theorem test_meets_LeadingEdgeTakesRecord :
    let s := lane0 fun L => { L with mode := .running, entry := { L.entry with rawLevel := .covered, pendingChange := some change } }
    (s.lane 0).entry.pendingChange = some change ∧ (s.lane 0).entry.rawLevel = .covered ∧ (s.lane 0).entry.level = .clear ∧
    reached s.track.position change.confirm = true ∧ (s.lane 0).mode.passes = true ∧ s.free = 0 :: s.free.tail ∧
    ({ s with free := [] } : State).free = [] := by decide

/-- A queue with a token of a valid article, and an empty one. -/
theorem test_meets_LeadingEdgeTakesRecord_snapshot :
    (let s : State := { lane0 fun L => { L with tokens := [oldToken] } with
       mem := [(2048 + 8, 1#16), (2048 + 9, 20#16), (2048 + 10, 10#16), (2048 + 11, 30#16), (2048 + 13, 16#16)] }
     s.mem.wf ∧ (s.lane 0).tokens = [oldToken] ∧ oldToken.token.mismatch = false ∧ s.articleValid oldToken.token.article = true) ∧
    (State.reset.lane 0).tokens = [] := by decide

theorem test_meets_TrailingEdgeEndsPiece :
    let s := lane0 fun L =>
      { L with mode := .running, entry := { L.entry with level := .covered, pendingChange := some change, openPiece := some 0 } }
    (s.lane 0).entry.pendingChange = some change ∧ (s.lane 0).entry.rawLevel = .clear ∧ (s.lane 0).entry.level = .covered ∧
    reached s.track.position change.confirm = true ∧ (s.lane 0).mode.passes = true ∧ (s.lane 0).entry.openPiece.isSome = true := by
  decide

/-- A gap one below the minimum, one at it, and none. -/
theorem test_meets_SpacingFollowsGaps :
    let s (last : Option Pos) := lane0 fun L =>
      { L with mode := .running, entry := { L.entry with rawLevel := .covered, pendingChange := some change, lastTrailing := last } }
    (∀ n ∈ [99, 100], ((s (some (0 - posOf n))).lane 0).entry.lastTrailing = some (0 - posOf n) ∧
      (change.start - (0 - posOf n)).toInt = n ∧ (s (some (0 - posOf n))).minimumGap 0 = 100) ∧
    ((s none).lane 0).entry.lastTrailing = none ∧ ((s none).lane 0).entry.pendingChange = some change ∧
    ((s none).lane 0).entry.rawLevel = .covered ∧ ((s none).lane 0).entry.level = .clear ∧
    reached (s none).track.position change.confirm = true ∧ ((s none).lane 0).mode.passes = true := by decide

/-- Lane 0 about to take the trailing edge of a piece of length 20 with the minimum length given, and the gate at a distance. -/
def leaving (minimum : Nat) (gate : Word) : State :=
  { carrying
      { piece with
        lead := -20, phase := .entering, length := none, widthClass := none, verdict := none
        snapshot := some { minLength := minimum, maxLength := 30, minWidth := 0, maxWidth := 9, program := 0 } }
      fun L =>
        { L with entry := { L.entry with level := .covered, pendingChange := some change, openPiece := some (-20) } } with
    mem := [(1024 + 6, gate)] }

set_option maxRecDepth 4096 in
/-- An accepted piece, a reject in time and a reject too late. -/
theorem test_meets_TrailingEdgeSchedules :
    (let s := leaving 20 500#16
     s.allNumbers.Perm freeAtPowerOn ∧ (s.lane 0).entry.pendingChange = some change ∧ (s.lane 0).entry.rawLevel = .clear ∧
     (s.lane 0).entry.level = .covered ∧ reached s.track.position change.confirm = true ∧ (s.lane 0).mode.passes = true ∧
     (s.lane 0).entry.openPiece = some (-20) ∧ (s.lane 0).inFlight.map PieceRecord.phase = [.entering] ∧
     (change.start - (-20 : Pos)).toNat = 20 ∧ (s.lane 0).entry.widthMax = 0 ∧
     (∀ r ∈ (s.lane 0).inFlight, s.foldWindows 0 r change.confirm = [] ∧ r.tokens.length = 1)) ∧
    (let start (s : State) : Pos := (-20 : Pos) + posOf (s.gateDistance 0) - posOf s.gateLead
     let earliest (s : State) : Pos := change.confirm + posOf s.scheduleMargin
     before (start (leaving 21 70#16)) (earliest (leaving 21 70#16)) = false ∧
     before (start (leaving 21 69#16)) (earliest (leaving 21 69#16)) = true ∧
     reached 0 ((-20 : Pos) + posOf 20 + posOf ((leaving 21 70#16).gateDistance 0) + posOf (leaving 21 70#16).gateTrail) = false ∧
     ((leaving 21 70#16).lane 0).sched.windows = []) := by decide

/-- A stray, a double and a piece with a token and no snapshot, before their trailing edge: length 20 of articles of 1 to 8. -/
def leavingWith (tokens : List Token) (snapshot : Option Snapshot) (queue : List QueuedToken) (windows : List Window) : State :=
  (leaving 20 500#16).modLane 0 fun L =>
    { L with
      tokens := queue, sched := { L.sched with windows := windows }
      inFlight := L.inFlight.map fun r => { r with tokens := tokens, snapshot := snapshot } }

set_option maxRecDepth 4096 in
/-- Under IDENTIFY_STRAYS with one candidate and with none, a double, and a schedule whose one gate window the reject window meets or whose
16 slots are taken. -/
theorem test_meets_TrailingEdgeSchedules_any :
    (let s := { leavingWith [] none [] [] with
       mem := [(9, 1#16), (1024 + 6, 500#16), (2048 + 8, 3#16), (2048 + 9, 20#16), (2048 + 10, 10#16), (2048 + 11, 30#16), (2048 + 13, 16#16)] }
     s.mem.wf ∧ s.identifyStrays = true ∧ s.identifies 20 0 1 = true ∧ s.identifies 20 0 2 = false ∧ s.candidates 20 0 = [1] ∧
     (s.lane 0).inFlight.map PieceRecord.tokens = [[]]) ∧
    (leavingWith [] none [] []).identifyStrays = false ∧
    (let k : Token := { serial := 7, article := 1, marked := false, entry := 5, mismatch := false }
     let s := leavingWith [k] (some ⟨8, 19, 0, 9, 0⟩) [oldToken] []
     s.isDouble 0 { piece with tokens := [k], snapshot := some ⟨8, 19, 0, 9, 0⟩ } = true ∧ s.allNumbers.Perm freeAtPowerOn) ∧
    (let w (s : State) := s.rejectWindow 0 { piece with lead := -20 } 0
     let meets := leavingWith [] none [] [⟨.gate, 500, 600, .waiting, none⟩]
     let full := leavingWith [] none [] (List.replicate 16 ⟨.fold 0, 0, 10, .waiting, none⟩)
     (meets.lane 0).sched.gatesOver (w meets) = [⟨.gate, 500, 600, .waiting, none⟩] ∧ (full.lane 0).sched.gatesOver (w full) = [] ∧
     (full.lane 0).sched.windows.length = 16 ∧ before (w full).start (full.earliestStart 0) = false) := by decide

/-- Entries 5 and 6 on the list of lane 0 with status words of the test's choice, and one expired token of an entry. -/
def listing (st5 st6 : Word) (e : EntryId) (items : List OpenItem) : State :=
  { lane0 fun L => { L with
      mode := .running, openList := items, lot := { L.lot with inProgress := true }
      tokens := [{ oldToken with token := { oldToken.token with entry := e } }] } with
    mem := [(4096 + 60, st5), (4096 + 63, 1#16), (4096 + 66, 1#16), (4096 + 72, st6), (4096 + 75, 1#16), (4096 + 78, 1#16)] }

/-- An entry that drains behind the head, a head with a DRAINED entry behind it, and an entry with LOT_START and LOT_END. -/
theorem test_meets_LastBookingCompletesEntry_lots :
    (let s := listing 0x0103#16 0x0103#16 6 [⟨5, 3⟩, ⟨6, 3⟩]
     s.mem.wf ∧ s.entryStatus 6 = some .closing ∧ s.entryAssigned 6 = s.entryRetired 6 + 1) ∧
    (let s := listing 0x1103#16 0x1104#16 5 [⟨5, 3⟩, ⟨6, 3⟩]
     s.mem.wf ∧ s.entryStatus 5 = some .closing ∧ s.entryAssigned 5 = s.entryRetired 5 + 1 ∧ s.entryStatus 6 = some .drained ∧
     s.entryHoldAfter 5 = true ∧ s.entryHoldAfter 6 = true ∧ (s.lane 0).openEntries.Nodup ∧ (s.lane 0).mode = .running) ∧
    (let s := listing 0x0C03#16 0x0103#16 5 [⟨5, 3⟩]
     s.mem.wf ∧ s.entryStatus 5 = some .closing ∧ s.entryAssigned 5 = s.entryRetired 5 + 1 ∧ s.entryNotify 5 = false ∧
     s.entryLotStart 5 = true ∧ s.entryLotEnd 5 = true ∧ s.fillingPlace 0 = none ∧ (s.lane 0).lot.inProgress = true) := by decide

/-- A head that drains with a DRAINED entry behind it: both complete in the one booking, and leave the list. -/
theorem test_cascade :
    (match exec (.tokenExpiry 0) (listing 0x1103#16 0x1104#16 5 [⟨5, 3⟩, ⟨6, 3⟩]) with
      | .next t => some (t.entryStatus 5, t.entryStatus 6, (t.lane 0).openList, (t.lane 0).mode, (t.lane 0).waitPending)
      | _ => none) = some (some .complete, some .complete, [], .wait, true) := by decide

theorem test_meets_LastBookingCompletesEntry :
    let s : State := { (lane0 fun L => { L with mode := .running, tokens := [oldToken], openList := [⟨5, 3⟩], lot := { L.lot with inProgress := true } }) with
      mem := [(4096 + 60, 0x2103#16), (4096 + 63, 1#16), (4096 + 66, 1#16)] }
    s.mem.wf ∧ (s.lane 0).tokens = [oldToken] ∧ reached s.track.position oldToken.expiry = true ∧ (s.lane 0).openList = [⟨5, 3⟩] ∧
    s.entryStatus 5 = some .closing ∧ s.entryAssigned 5 = s.entryRetired 5 + 1 ∧ (s.entryWord 5 10).toNat + 1 < 65536 ∧
    s.entryNotify 5 = true ∧ s.entryLotStart 5 = false ∧ (s.lane 0).lot.inProgress = true := by decide

theorem test_meets_WarningsLatchOnce :
    WarningSet.empty.has .overflow = false ∧ (WarningSet.empty.latch .overflow).has .overflow = true ∧
    (List.replicate 15 (ask [])).length < 16 ∧ 16 ≤ (List.replicate 16 (ask [])).length := by decide

/-- For each of the three targets a state whose check waits and one whose check faults. -/
theorem test_meets_ReachedTargetsFault :
    (∀ p ∈ [some change, none],
      let s := lane0 fun L =>
        { L with mode := .running, entry := { L.entry with level := .covered, blockedTarget := some 0, pendingChange := p } }
      (s.lane 0).entry.blockedTarget = some 0 ∧ reached s.track.position 0 = true ∧ (s.lane 0).entry.level = .covered ∧
      (s.lane 0).entry.blockedWaits = false ∧ (s.lane 0).entry.pendingChange = p ∧ (s.lane 0).mode.passes = true) ∧
    (∀ p ∈ [some change, none],
      let s := carrying { piece with expectedExit := -1000 } fun L => { L with exit := { L.exit with pendingChange := p } }
      s.candidate 0 = some { piece with expectedExit := -1000 } ∧
      reached s.track.position (-1000 + posOf (s.exitWindow 0) + 1) = true ∧ (s.lane 0).exit.missingWaits = false ∧
      (s.lane 0).exit.level = .clear ∧ (s.lane 0).exit.pendingChange = p ∧ (s.lane 0).mode.passes = true) ∧
    ∀ p ∈ [some change, none],
      let s := lane0 fun L =>
        { L with mode := .running, exit := { L.exit with level := .covered, blockedTarget := some 0, pendingChange := p } }
      (s.lane 0).exit.blockedTarget = some 0 ∧ reached s.track.position 0 = true ∧ (s.lane 0).exit.level = .covered ∧
      (s.lane 0).exit.blockedWaits = false ∧ (s.lane 0).exit.pendingChange = p ∧ (s.lane 0).mode.passes = true := by decide

/-- A telegram to station 1 from station 9. -/
def sent (kind : Byte) (body : List Byte) : Telegram :=
  withCrc { kind := kind, dest := 0x01#8, src := 0x09#8, flags := 0x00#8, body := body, crc := 0#16 }

set_option maxRecDepth 4096 in
/-- A quota above the new count, and a quota that it reaches. -/
theorem test_meets_PieceTelegramQueuesToken :
    let t := sent 0x01#8 [0x00#8, 0x00#8, 0x07#8, 0x01#8, 0x00#8]
    passesChecks t = true ∧ isBounced t = false ∧ announcementOf t.body = some ⟨0, 7, 1, false⟩ ∧ t.src ≠ addressByte 1#5 ∧
    ∀ quota ∈ [4, 1],
      let s := receiving (planned (wordOf quota))
      s.mem.wf ∧ s.ring.receive = .withSlot ∧ s.ring.isRepeater = false ∧ t.dest = addressByte s.ring.address ∧
      (s.lane 0).tokens.length < 8 ∧ (s.lane 0).mode.passes = true ∧ s.activeEntry 0 = some 5 ∧
      (s.entryWord 5 6 + 1 = s.entryWord 5 3 ↔ quota = 1) := by decide

/-- Entries 5 and 6 with status words and quotas of the test's choice, and lane 0 in a mode with its cursor at 5. -/
def ringOf (m : LaneMode) (st5 q5 st6 : Word) : State :=
  receiving { lane0 fun L => { L with mode := m, ringStart := 5, cursor := 5, openList := [⟨5, 3⟩] } with
    mem := [(2048 + 8, 1#16), (2048 + 9, 300#16), (2048 + 10, 200#16), (2048 + 11, 400#16), (2048 + 13, 16#16)] ++
      [(4096 + 60, st5), (4096 + 61, 1#16), (4096 + 63, q5), (4096 + 64, 3#16)] ++
      [(4096 + 72, st6), (4096 + 73, 1#16), (4096 + 75, 2#16), (4096 + 76, 3#16)] }

/-- At the quota with the next entry claimable and not. -/
theorem test_meets_PieceTelegramQueuesToken_quota : ∀ claims : Bool,
    let s := ringOf .running 0x0102#16 1#16 (if claims then 0x0101#16 else 0x0001#16)
    s.mem.wf ∧ s.activeEntry 0 = some 5 ∧ s.nextIndex 0 5 = 6 ∧ s.claimable 6 = claims ∧
    s.entryWord 5 6 + 1 = s.entryWord 5 3 := by decide

/-- With no ACTIVE entry: the cursor's claimable, with a quota of 1 and of 2, or not. -/
theorem test_meets_PieceTelegramQueuesToken_cursor : ∀ m ∈ [LaneMode.dry, .suspended], ∀ one claims : Bool,
    let s := ringOf m (if claims then 0x0101#16 else 0#16) (if one then 1#16 else 2#16) 0#16
    (s.lane 0).mode.passes = true ∧ s.activeEntry 0 = none ∧ s.claimable (s.lane 0).cursor = claims ∧
    (s.entryQuota (s.lane 0).cursor = 1 ↔ one = true) := by decide

/-- The FAULTED lane with an ACTIVE entry and with none. -/
theorem test_meets_PieceTelegramQueuesToken_faulted :
    (ringOf .faulted 0x0102#16 2#16 0#16).activeEntry 0 = some 5 ∧ (ringOf .faulted 0#16 2#16 0#16).activeEntry 0 = none := by decide

set_option maxRecDepth 4096 in
theorem test_meets_FullQueuesBounceTelegrams :
    passesChecks (sent 0x02#8 [0x01#8]) = true ∧ isBounced (sent 0x02#8 [0x01#8]) = false ∧
    (let s := receiving { State.reset with ring := { State.reset.ring with requestQueue := List.replicate 4 (ask []) } }
     s.ring.receive = .withSlot ∧ s.ring.isRepeater = false ∧ addressByte s.ring.address = 0x01#8 ∧ 4 ≤ s.ring.requestQueue.length) ∧
    announcementOf [0x00#8, 0x00#8, 0x07#8, 0x01#8, 0x00#8] = some ⟨0, 7, 1, false⟩ ∧
    8 ≤ ((lane0 fun L => { L with tokens := List.replicate 8 oldToken }).lane 0).tokens.length := by decide

theorem test_meets_RetirementsBookOutcomes_token :
    let s := lane0 fun L => { L with mode := .running, tokens := [oldToken] }
    s.mem.wf ∧ (s.lane 0).tokens = [oldToken] ∧ reached s.track.position oldToken.expiry = true := by decide

set_option maxRecDepth 4096 in
theorem test_meets_RetirementsBookOutcomes_record :
    let r : PieceRecord := { piece with retirePosition := some 0, verdict := some (.reject .marked) }
    (carrying r id).mem.wf ∧ (carrying r id).allNumbers.Perm freeAtPowerOn ∧ (carrying r id).dueRetirement 0 = some r ∧ r.number = 0 := by
  decide

/-- A record for each clause. -/
theorem test_meets_VerdictFollowsOrder :
    (∀ marked mismatch : Bool, ∃ r : PieceRecord, ∃ t rest, r.tokens = t :: rest ∧ t.marked = marked ∧ t.mismatch = mismatch ∧
      r.snapshot = none) ∧
    (∃ r : PieceRecord, r.tokens = [] ∧ r.snapshot = none) ∧
    ∃ sn, piece.snapshot = some sn ∧ ∀ t rest, piece.tokens = t :: rest → t.marked = false ∧ t.mismatch = false := by
  refine ⟨fun a b => ⟨{ piece with tokens := [⟨7, 1, a, 5, b⟩], snapshot := none }, _, _, rfl, rfl, rfl, rfl⟩,
    ⟨{ piece with tokens := [], snapshot := none }, rfl, rfl⟩, _, rfl, fun t rest h => ?_⟩
  cases h
  exact ⟨rfl, rfl⟩

theorem test_meets_WindowsOpenAndEnd :
    let w : Window := ⟨.gate, 0, 10, .waiting, none⟩
    let x : Window := ⟨.fold 3, 0, 10, .waiting, some 0⟩
    let v : Window := ⟨.gate, -10, 0, .opened, none⟩
    let s (ws : List Window) := lane0 fun L => { L with sched := { L.sched with windows := ws } }
    ((s [x, w]).lane 0).sched.windows = [x] ++ w :: [] ∧ w.opensAt .gate 0 = true ∧ x.opensAt .gate 0 = false ∧
    ((s [x, v]).lane 0).sched.windows = [x] ++ v :: [] ∧ v.endsAt .gate 0 = true ∧ x.endsAt .gate 0 = false := by decide

/-- Lane 0 carries `r` under an OPEN fold window, with the gate at a distance. -/
def folding (r : PieceRecord) (gate : Word) : State :=
  { carrying r fun L =>
      { L with sched := { L.sched with
          windows := [⟨.fold 3, 0, 10, .opened, some 0⟩], folds := (Vector.replicate 6 false).set 3 true } } with
    mem := [(1024 + 6, gate)] }

set_option maxRecDepth 4096 in
/-- A record AT_EXIT, and one before the exit whose reject window is just in time and one position too late. -/
theorem test_meets_OutputsDrivenKept :
    (∀ phase ∈ [Phase.travelling, .atExit],
      let r : PieceRecord := { piece with phase := phase, destination := some (.place 0) }
      (folding r 50#16).allNumbers.Perm freeAtPowerOn ∧ (folding r 50#16).toSpoil 0 = [r.number] ∧
      (∀ m : LaneId, m ≠ 0 → (folding r 50#16).toSpoil m = []) ∧ r ∈ ((folding r 50#16).lane 0).inFlight) ∧
    (folding piece 50#16).outputsDriven ∧ (folding piece 50#16).lanesBounded ∧
    (let start (gate : Word) : Pos := (0 : Pos) + posOf ((folding piece gate).gateDistance 0) - posOf (folding piece gate).gateLead
     before (start 50#16) (posOf (folding piece 50#16).scheduleMargin) = false ∧
     before (start 49#16) (posOf (folding piece 49#16).scheduleMargin) = true ∧
     reached 0 ((0 : Pos) + posOf 20 + posOf ((folding piece 50#16).gateDistance 0) + posOf (folding piece 50#16).gateTrail) = false) := by
  refine ⟨by decide, ?_, ?_, by decide⟩
  · unfold State.outputsDriven FoldLane.driven; decide
  · unfold State.lanesBounded Lane.bounded; decide

theorem test_meets_ExitEyeChangeFilters :
    (let x := (State.reset.lane 0).exit
     x.rawLevel ≠ .covered ∧ Level.covered ≠ x.level ∧ x.pendingChange = none) ∧
    (∀ waits ∈ [false, true],
      let x := ((lane0 fun L =>
        { L with exit := { L.exit with rawLevel := .covered, pendingChange := some change, missingWaits := waits } }).lane 0).exit
      x.rawLevel ≠ .clear ∧ Level.clear = x.level ∧ x.pendingChange.isSome = true ∧ x.blockedWaits = false ∧
      x.missingWaits = waits) ∧
    State.reset.powerOnReset.settle.resetHeld = true := by decide

/-- Lane 0 carries `r`, and its exit eye is about to be confirmed COVERED. -/
def covering (r : PieceRecord) : State :=
  carrying r fun L => { L with exit := { L.exit with rawLevel := .covered, pendingChange := some change } }

set_option maxRecDepth 4096 in
/-- At the window's start, its middle and its end. -/
theorem test_meets_ExitLeadingEdgeActs_match :
    ∀ x ∈ [(150 : Int), 0, -150],
      let r : PieceRecord := { piece with expectedExit := BitVec.ofInt 32 x }
      let s := covering r
      s.allNumbers.Perm freeAtPowerOn ∧ (s.lane 0).exit.pendingChange = some change ∧ (s.lane 0).exit.rawLevel = .covered ∧
      (s.lane 0).exit.level = .clear ∧ reached s.track.position change.confirm = true ∧ (s.lane 0).mode.passes = true ∧
      s.candidate 0 = some r ∧ r.phase = .travelling ∧ inExitWindow change.start r.expectedExit (s.exitWindow 0) = true := by decide

/-- No candidate, an ENTERING one, and one whose window begins one position on. -/
theorem test_meets_ExitLeadingEdgeActs_phantom :
    (covering { piece with phase := .entering }).mem.wf ∧
    (covering { piece with retirePosition := some 9 }).candidate 0 = none ∧
    (covering { piece with phase := .entering }).candidate 0 = some { piece with phase := .entering } ∧
    (let s := covering { piece with expectedExit := 151 }
     s.candidate 0 = some { piece with expectedExit := 151 } ∧ before change.start (151 - posOf (s.exitWindow 0)) = true ∧
     (s.lane 0).exit.missingWaits = false ∧ (s.lane 0).exit.rawLevel = .covered ∧ (s.lane 0).exit.level = .clear) := by decide

/-- A piece before the exit whose token is of entry 5, and place 0 FILLING for lane 0 with an article and a count of the test's choice. -/
def stacking (filling : Bool) (article count : Nat) (held : List PlaceId) : State :=
  let s := (covering piece).modLane 0 fun L => { L with held := held }
  if filling then s.modPlace 0 fun pl => { pl with state := .filling, lane := some 0, article := article, target := 3, count := count }
  else s

set_option maxRecDepth 4096 in
/-- A FILLING place of the identity, of another with a count of 0 and of 1, and none; a held list with a FREE place and with none. -/
theorem test_meets_ExitLeadingEdgeActs_destination :
    ∀ s ∈ [stacking true 0 1 [0], stacking true 9 0 [0, 1], stacking true 9 1 [0, 1], stacking true 9 1 [0], stacking false 0 0 [0],
        stacking false 0 0 []],
      s.queueHoldsFull ∧ s.placesCoherent ∧ s.inboundCoherent ∧ s.candidate 0 = some piece ∧ piece.tokens.length = 1 ∧
      (s.lane 0).mode ≠ .wait ∧ s.entryArticle 5 = 0 ∧ ∀ q, s.fillingPlace 0 = some q → q = 0 ∧ (s.place 0).inbound = false := by
  intro s h
  refine ⟨?_, ?_, ?_, ?_⟩ <;> revert s
  · unfold State.queueHoldsFull; decide
  · unfold State.placesCoherent; decide
  · unfold State.inboundCoherent; decide
  · decide

set_option maxRecDepth 4096 in
theorem test_meets_ExitTrailingEdgeRetires :
    ∀ d ∈ [Destination.place 0, .overflow], ∀ force ∈ [false, true],
      let r : PieceRecord := { piece with phase := .atExit, destination := some d, forceOverflow := force }
      let s := carrying r fun L => { L with exit := { L.exit with level := .covered, pendingChange := some change, arrival := .matched 0 } }
      s.mem.wf ∧ s.allNumbers.Perm freeAtPowerOn ∧ (s.lane 0).exit.pendingChange = some change ∧ (s.lane 0).exit.rawLevel = .clear ∧
      (s.lane 0).exit.level = .covered ∧ reached s.track.position change.confirm = true ∧ (s.lane 0).mode.passes = true ∧
      r ∈ (s.lane 0).inFlight ∧ (s.lane 0).exit.arrival = .matched r.number := by decide

/-- A record AT_EXIT for place 0, whose target and pending close are the test's choice, and whose trailing edge is about to be confirmed. -/
def delivering (target : Nat) (pending : Bool) : State :=
  (carrying { piece with phase := .atExit, destination := some (.place 0) } fun L =>
      { L with exit := { L.exit with
          level := .covered, pendingChange := some change, arrival := .matched 0, route := .place 0 } }).modPlace 0 fun pl =>
    { pl with state := .filling, lane := some 0, inbound := true, target := target, closePending := pending }

set_option maxRecDepth 4096 in
/-- A delivery that fills its place, one that ends a pending close, and one that leaves the place FILLING. -/
theorem test_meets_ExitTrailingEdgeRetires_place (pending : Bool) : ∀ target ∈ [1, 2],
    (delivering target pending).queueHoldsFull ∧ (delivering target pending).placesCoherent ∧
    (delivering target pending).inboundCoherent ∧ (((delivering target pending).place 0).count + 1 = target ↔ target = 1) ∧
    ((delivering target pending).place 0).closePending = pending ∧
    ∀ x ∈ piece.tokens, (delivering target pending).entryStatus x.entry ≠ some .closing := by
  intro target h
  refine ⟨?_, ?_, ?_, ?_⟩ <;> revert target pending
  · unfold State.queueHoldsFull; decide
  · unfold State.placesCoherent; decide
  · unfold State.inboundCoherent; decide
  · decide

/-- A place for each clause, at the ends of the range of places. -/
theorem test_meets_ClosePlaceActs :
    (∀ inbound ∈ [false, true], ∀ count ∈ [0, 3],
      let s := State.reset.modPlace 7 fun pl => { pl with state := .filling, lane := some 0, inbound := inbound, count := count }
      ((asking s [0x18#8, 0#8, 0#8, 7#8]).place 7).state = .filling ∧
      ((asking s [0x18#8, 0#8, 0#8, 7#8]).place 7).inbound = inbound ∧ ((asking s [0x18#8, 0#8, 0#8, 7#8]).place 7).count = count) ∧
    ((asking State.reset [0x18#8, 0#8, 0#8, 0#8]).place 0).state ≠ .filling ∧ byteOf (7 : PlaceId).val = 7#8 ∧ 7 < (8#8 : Byte).toNat ∧
    (ask [0x18#8]).body.head? = some 0x18#8 ∧ (ask [0x18#8]).body.length ≠ 4 := by decide

theorem test_meets_DischargeStartPushesHead :
    let s : State := { State.reset with discharge := { State.reset.discharge with queue := [1, 2] } }
    s.settle.discharge.outfeed = .idle ∧ s.settle.discharge.queue = 1 :: [2] ∧ s.settle.ring.reportQueue.length < 16 := by decide

theorem test_meets_OutfeedEyeActs :
    State.reset.discharge.rawLevel ≠ .covered ∧
    (∀ o ∈ [Outfeed.moving, .stalled], ∀ seen ∈ [false, true], ∀ raw ∈ [Level.clear, .covered],
      let s := outfeedIn o seen
      let t : State := { s with discharge := { s.discharge with
        rawLevel := raw, level := if raw = .clear then .covered else .clear, changePending := true } }
      t.settle.discharge.changePending = true ∧ t.settle.discharge.rawLevel ≠ t.settle.discharge.level ∧
      t.settle.discharge.outfeed = o ∧ t.settle.discharge.seenCovered = seen ∧ t.settle.discharge.current = some 2) := by decide

theorem test_meets_OutfeedTimeoutStalls :
    (outfeedIn .moving true).discharge.outfeed = .moving ∧ (outfeedIn .moving true).discharge.timer.isSome = true ∧
    (outfeedIn .moving true).discharge.current = some 2 := by decide

theorem test_meets_ReleaseOutfeedActs :
    (asking (outfeedIn .stalled false) [0x19#8, 0#8, 0#8]).discharge.outfeed = .stalled ∧
    (asking (outfeedIn .stalled false) [0x19#8, 0#8, 0#8]).discharge.current = some 2 ∧
    (asking (outfeedIn .moving false) [0x19#8, 0#8, 0#8]).discharge.outfeed ≠ .stalled ∧
    (ask [0x19#8]).body.head? = some 0x19#8 ∧ (ask [0x19#8]).body.length ≠ 3 := by decide

theorem test_meets_ReceivingActs_start :
    State.reset.resetHeld = false ∧ State.reset.ring.receive = .none ∧ (receiving State.reset).ring.receive ≠ .none ∧
    State.reset.powerOnReset.resetHeld = true ∧ State.reset.powerOnReset.ring.receive = .none := by decide

set_option maxRecDepth 4096 in
/-- A telegram and a station for each clause; a body of 40 bytes passes and one of 41 does not. -/
theorem test_meets_ReceivingActs_received :
    (receiving State.reset).ring.receive = .withSlot ∧
    (let t := sent 0x02#8 [0x01#8]
     t.crc = crcOf (checkedBytes t) ∧ t.body.length ≤ 40 ∧ t.dest = addressByte 1#5 ∧ t.src ≠ addressByte 1#5 ∧ isBounced t = false ∧
     t.src = addressByte 9#5 ∧ t.dest ≠ addressByte 7#5 ∧ t.dest ≠ 0x1F#8 ∧ t.src ≠ addressByte 7#5) ∧
    (let t := withCrc { ask [] with src := 0x20#8 }
     31 < t.src.toNat ∧ t.crc = crcOf (checkedBytes t) ∧ t.dest = addressByte 1#5) ∧
    (ask []).crc ≠ crcOf (checkedBytes (ask [])) ∧ isBounced { ask [] with flags := 0x01#8 } = true ∧
    (sent 0x03#8 []).kind ≠ 0x01#8 ∧ (sent 0x03#8 []).kind ≠ 0x02#8 ∧ 40 < (List.replicate 41 0x00#8).length ∧
    State.reset.ring.address ≠ 0#5 ∧ State.reset.ring.address ≠ 31#5 := by decide

set_option maxRecDepth 4096 in
/-- A malformed piece body, a good one for a lane that takes no token, and a broadcast for each row of R166. -/
theorem test_meets_ReceivingActs_lanes_and_broadcasts :
    announcementOf [0#8, 0#8, 7#8, 64#8, 0#8] = none ∧
    (announcementOf [0#8, 0#8, 7#8, 63#8, 0#8]).map (fun a => a.lane) = some 0 ∧
    ((receiving State.reset).lane 0).mode = .idle ∧ ((receiving State.reset).lane 0).tokens.length < 8 ∧
    (receiving (lane0In .dry)).activeEntry 0 = none ∧ (receiving (lane0In .dry)).canClaim 0 = false ∧
    (receiving (lane0In .dry)).entryWaits ((receiving (lane0In .dry)).lane 0).cursor = false ∧
    (∀ body ∈ [[0x11#8, 0#8, 0#8, 4#8], [0x12#8, 0#8, 0#8, 4#8], [0x0A#8, 0#8, 0#8], [0x11#8, 0#8, 0#8], [0x0A#8], [0x01#8]],
      let t := withCrc { ask body with dest := 0x1F#8 }
      t.crc = crcOf (checkedBytes t) ∧ t.dest = 0x1F#8 ∧ t.dest ≠ addressByte 1#5 ∧ t.src ≠ addressByte 1#5 ∧
      isBounced t = false ∧ t.kind = 0x02#8) ∧
    codeByte [0x01#8] ∉ [0x11#8, 0x12#8, 0x0A#8] := by decide

/-- A Ring Port for each row of the table, with the forwarding run at its ends. -/
theorem test_meets_ArbiterChooses :
    let port (fs : List Forwarded) (reports : List Telegram) (run : Nat) (sending : Option SendSource) : State :=
      { State.reset with ring := { State.reset.ring with
        forwardQueue := fs, reportQueue := reports, run := run, sending := sending } }.settle
    (∀ run ∈ [0, 2, 3], ∀ reports ∈ [[], [ask []]], ∀ fs ∈ [[], [⟨ask [], false⟩]], ∀ sending ∈ [none, some .report],
      (port fs reports run sending).ring.forwardQueue = fs ∧ (port fs reports run sending).ring.reportQueue = reports ∧
      (port fs reports run sending).ring.run = run ∧ (port fs reports run sending).ring.sending = sending ∧
      (port fs reports run sending).ring.response.isSome = false) := by decide

theorem test_meets_SentTelegramLeaves :
    (∀ orders ∈ [false, true],
      let s : State := { State.reset with ring := { State.reset.ring with sending := some .forwarded, forwardQueue := [⟨ask [], orders⟩] } }
      s.ring.sending = some .forwarded ∧ s.ring.forwardQueue = ⟨ask [], orders⟩ :: []) ∧
    (let s : State := { State.reset with ring := { State.reset.ring with sending := some .response, response := some ⟨ask [], true⟩ } }
     s.ring.sending = some .response ∧ s.ring.response = some ⟨ask [], true⟩) ∧
    (let s : State := { State.reset with ring := { State.reset.ring with sending := some .report, reportQueue := [ask []] } }
     s.ring.sending = some .report ∧ s.ring.reportQueue = ask [] :: [] ∧ Instr.dischargeStart ∉ s.pending ∧
     Instr.dischargeStart ∈ (s.withPending [.encoderPulse, .dischargeStart]).pending) := by decide

theorem test_meets_ResponseLayout : (ask [0x01#8, 0xAB#8, 0xCD#8]).body = 0x01#8 :: 0xAB#8 :: 0xCD#8 :: [] := rfl

/-- The state after reset with the pointer at the end of a page, with modify mode on or off. -/
def pointing (page : Fin 8) (modify : Bool) : State :=
  { State.reset with tables := { State.reset.tables with pointer := ⟨page, 1023⟩, modify := modify } }

/-- The last word of table memory, a page too high and an offset too high. -/
theorem test_meets_SetPointerActs :
    (∀ modify ∈ [false, true], (asking (pointing 7 modify) [0x03#8, 0#8, 0#8, 0x07#8, 0x03#8, 0xFF#8]).tables.modify = modify) ∧
    (7 : Fin 8).val = (0x07#8 : Byte).toNat ∧ (1023 : Fin 1024).val = 256 * (0x03#8 : Byte).toNat + (0xFF#8 : Byte).toNat ∧
    7 < (0x08#8 : Byte).toNat ∧ 1023 < 256 * (0x04#8 : Byte).toNat + (0x00#8 : Byte).toNat := by decide

/-- A word that may be written and one that may not; a count of 0, 1, 16 and 17. -/
theorem test_meets_WriteTableStoresWord :
    (asking (pointing 2 false) [0x04#8, 0#8, 0#8, 1#8, 2#8, 3#8]).writable ⟨2, 1023⟩ (0x02#8 ++ 0x03#8) = true ∧
    (asking (pointing 6 false) [0x04#8, 0#8, 0#8, 1#8, 2#8, 3#8]).writable ⟨6, 1023⟩ (0x02#8 ++ 0x03#8) = false ∧
    (∀ n ∈ [0, 1, 16, 17], (byteOf n).toNat = (List.replicate n 5#16).length) := by decide

set_option maxRecDepth 4096 in
/-- Two words before a claimed entry and one of it: the third is refused, and the pointer rests on it. -/
theorem test_write_stops_at_refused :
    (match exec .writeTable (asking { planned 4 with tables := { Tables.reset with pointer := ⟨4, 58⟩ } }
        ([0x04#8, 0#8, 0#8, 3#8] ++ [7#16, 8#16, 9#16].flatMap wordBytes)) with
      | .next t => some (t.word 4 58, t.word 4 59, t.word 4 60, t.tables.pointer.offset.val)
      | _ => none) = some (7#16, 8#16, 0x0102#16, 60) := by decide

/-- The right of page 0 at the end of its layout and past it. -/
theorem test_page_0_rights :
    (lane0In .running).writable ⟨0, 9⟩ 1#16 = false ∧ (lane0In .running).writable ⟨0, 10⟩ 1#16 = false ∧
    (lane0In .idle).writable ⟨0, 10⟩ 1#16 = true := by decide

theorem test_meets_WriteRightsByPage :
    ∀ page : Fin 8, ∃ p : Pointer, p.page = page ∧ State.reset.writable p 0#16 = decide (page ≠ 6 ∧ page ≠ 7) := by
  intro page
  exact ⟨⟨page, 1023⟩, rfl, by revert page; decide⟩

theorem test_meets_ReadTableThroughLatch :
    (∀ modify ∈ [false, true], (asking (pointing 3 modify) [0x05#8, 0#8, 0#8, 16#8]).tables.modify = modify) ∧
    (16#8 : Byte).toNat = 15 + 1 ∧ (1#8 : Byte).toNat = 0 + 1 ∧ (0#8 : Byte).toNat = 0 ∧ 16 < (17#8 : Byte).toNat := by decide

theorem test_meets_EndModifyRestoresPointer :
    ∀ modify ∈ [false, true], (asking (pointing 3 modify) [0x07#8, 0#8, 0#8]).tables.modify = modify := by decide

theorem test_meets_ClearCountersByScope :
    (asking (planned 4) [0x09#8, 0#8, 0#8, 5#8]).mem.wf ∧ (5#8 : Byte).toNat ≤ 5 ∧ 5 < (6#8 : Byte).toNat := by decide

theorem test_meets_RequestsTurnedAway :
    Request.ofCode (codeByte [0x01#8, 0#8, 0#8, 0#8]) = some .identify ∧
    [0x01#8, 0#8, 0#8, (0#8 : Byte)].length ≠ Request.bodyLength [0x01#8, 0#8, 0#8, 0#8] .identify ∧
    Request.ofCode (codeByte [0x0B#8]) = none ∧ Request.ofCode (codeByte []) = none := by decide

/-- A station where lane 0 is enabled and fit to start, and entry 63 is claimable with target 250. -/
def fit : State :=
  { State.reset with mem :=
    [(0, 1#16), (1024 + 6, 500#16), (1024 + 7, 5000#16)] ++
    [(2048 + 8, 1#16), (2048 + 9, 300#16), (2048 + 10, 200#16), (2048 + 11, 400#16), (2048 + 13, 16#16)] ++
    [(4096 + 12 * 63, 0x0101#16), (4096 + 12 * 63 + 1, 1#16), (4096 + 12 * 63 + 3, 9999#16), (4096 + 12 * 63 + 4, 250#16)] }

set_option maxRecDepth 4096 in
/-- A start that claims, one that finds nothing to claim, and one refused at each check. -/
theorem test_meets_LaneStartActs :
    (let s := asking fit [0x10#8, 0#8, 0#8, 0#8, 63#8]
     s.mem.wf ∧ (s.lane 0).mode = .idle ∧ s.configFit 0 = true ∧ s.placesFit 0 = true ∧ s.claimable 63 = true ∧
     (s.lane 0).openList.length < 16 ∧ s.claimable 0 = false ∧ s.configFit 1 = false) ∧
    (let s := asking (fit.setWord 1 13 7#16) [0x10#8, 0#8, 0#8, 0#8, 63#8]
     s.configFit 0 = true ∧ s.placesFit 0 = true) ∧
    (let s := asking ((fit.setWord 1 13 7#16).modPlace 7 fun pl => { pl with state := .full, lane := some 3 }) [0x10#8]
     (s.lane 0).mode = .idle ∧ s.configFit 0 = true ∧ s.placesFit 0 = false) ∧
    ((asking (lane0In .dry) [0x10#8]).lane 0).mode ≠ .idle ∧ 3 < (4#8 : Byte).toNat ∧ 63 < (64#8 : Byte).toNat := by decide

/-- A lane in each state, one lane enabled and one not. -/
theorem test_meets_LaneSuspendActs :
    (∀ m ∈ [LaneMode.idle, .running, .dry, .wait, .suspending, .suspended, .faulted],
      ((asking (lane0In m) [0x11#8, 0#8, 0#8, 0#8]).lane 0).mode = m) ∧
    (asking fit [0x11#8, 0#8, 0#8, 4#8]).laneEnabled 0 = true ∧ (asking fit [0x11#8, 0#8, 0#8, 4#8]).laneEnabled 3 = false ∧
    4 < (5#8 : Byte).toNat := by decide

theorem test_meets_LaneReturns :
    (∀ m ∈ [LaneMode.suspending, .suspended, .wait, .idle], ∀ back ∈ [false, true], ∀ waits ∈ [false, true],
      let s := asking (lane0 fun L => { L with mode := m, returnToWait := back, waitPending := waits }) [0x12#8, 0#8, 0#8, 0#8]
      (s.lane 0).mode = m ∧ (s.lane 0).returnToWait = back ∧ (s.lane 0).waitPending = waits ∧ s.activeEntry 0 = none) ∧
    ((asking (planned 4) [0x12#8]).activeEntry 0).isSome = true ∧
    (let s := asking (fit.setMode 0 .suspended) [0x12#8, 0#8, 0#8, 4#8]
     s.laneEnabled 0 = true ∧ (s.lane 0).mode = .suspended ∧ s.laneEnabled 3 = false ∧ s.mem.wf) ∧
    4 < (5#8 : Byte).toNat ∧ 3 < (4#8 : Byte).toNat := by decide

set_option maxRecDepth 4096 in
/-- A lane that returns by its work, which the cursor of its ring offers; the claimed entries balance. -/
theorem test_meets_LaneReturns_all :
    let s := (fit.modLane 0 fun L => { L with mode := .suspended, cursor := 63 })
    s.memWf ∧ s.lotRingBalances ∧ s.seeksWork (fun l => s.laneEnabled l = true) 0 ∧ s.canClaim 0 = true ∧ s.activeEntry 0 = none := by
  refine ⟨?_, ⟨by decide, by decide, ?_, by decide, ?_⟩, ?_, by decide, by decide⟩
  · unfold State.memWf; decide
  · unfold State.itemCoherent; decide
  · unfold State.entriesBalance; decide
  · unfold State.seeksWork; decide

theorem test_meets_LaneStopAborts :
    let s := asking ((planned 4).setMode 0 .suspended) [0x14#8, 0#8, 0#8, 0#8]
    s.mem.wf ∧ (s.lane 0).mode = .suspended ∧ ⟨5, 3⟩ ∈ (s.lane 0).openList ∧
    ((asking (planned 4) [0x14#8, 0#8, 0#8, 0#8]).lane 0).mode ≠ .suspended := by decide

/-- A SUSPENDED lane with a FILLING place; the conditions on the stack places hold. -/
theorem test_meets_LaneStopAborts_place :
    let s := asking (((lane0In .suspended).modPlace 7 fun pl => { pl with state := .filling, lane := some 0, target := 3, count := 1 }))
      [0x14#8, 0#8, 0#8, 0#8]
    s.placesCoherent ∧ s.inboundCoherent ∧ s.restCoherent ∧ s.fillingPlace 0 = some 7 := by
  unfold State.placesCoherent State.inboundCoherent State.restCoherent Lane.restsEmpty
  decide

theorem test_meets_ClearFaultSuspends :
    (busy.lane 1).mode = .faulted ∧ ((asking busy [0x15#8, 0#8, 0#8, 1#8]).lane 1).mode = .faulted ∧
    ((asking busy [0x15#8, 0#8, 0#8, 3#8]).lane 3).mode ≠ .faulted ∧ 3 < (4#8 : Byte).toNat := by decide

end Sys2Proof.Machine.Tests
end

section
/-!
# The verdict at the trailing edge (R55)

`rejectReason` case by case of the record's first token and snapshot, `verdictOf` by what `rejectReason` finds, and from these the
order of R55's table.
-/

namespace Sys2Proof.Machine

section RecordLemmas

variable {r : PieceRecord} {t : Token} {rest : List Token} {sn : Snapshot}

/-- The rows 1 and 2 of R55 do not apply: a first token, if there is one, is unmarked and without mismatch. -/
def PieceRecord.firstTokenClean (r : PieceRecord) : Prop :=
  ∀ t rest, r.tokens = t :: rest → t.marked = false ∧ t.mismatch = false

/-! ## The first reason that applies -/

theorem rejectReason_of_marked (tokens : r.tokens = t :: rest) (marked : t.marked = true) :
    rejectReason r = some .marked := by
  simp [rejectReason, tokens, marked]

theorem rejectReason_of_mismatch (tokens : r.tokens = t :: rest) (unmarked : t.marked = false) (mismatch : t.mismatch = true) :
    rejectReason r = some .article := by
  simp [rejectReason, tokens, unmarked, mismatch]

theorem rejectReason_of_token_without_snapshot (tokens : r.tokens = t :: rest) (unmarked : t.marked = false)
    (matching : t.mismatch = false) (absent : r.snapshot = none) : rejectReason r = some .noEntry := by
  simp [rejectReason, tokens, unmarked, matching, absent]

theorem rejectReason_of_stray (tokens : r.tokens = []) (absent : r.snapshot = none) : rejectReason r = some .stray := by
  simp [rejectReason, tokens, absent]

/-- Past the orders 1 to 4 the snapshot decides, for a record with tokens and for an identified stray. -/
theorem rejectReason_of_snapshot (snapshot : r.snapshot = some sn) (clean : r.firstTokenClean) :
    rejectReason r = sizeReason r sn := by
  cases tokens : r.tokens with
  | nil => simp [rejectReason, tokens, snapshot]
  | cons t rest =>
    obtain ⟨unmarked, matching⟩ := clean t rest tokens
    simp [rejectReason, tokens, snapshot, unmarked, matching]

/-! ## The verdict by the reason found -/

theorem verdictOf_of_reason {why : RejectReason} (found : rejectReason r = some why) : verdictOf r = .reject why := by
  simp [verdictOf, found]

theorem verdictOf_of_no_reason (noneApplies : rejectReason r = none) :
    verdictOf r = if r.tokens = [] then .acceptOverflow else .accept := by
  simp [verdictOf, noneApplies]

/-- The orders 5 to 8, and the verdict of a record that none of them rejects. -/
theorem verdictOf_of_snapshot (snapshot : r.snapshot = some sn) (clean : r.firstTokenClean) :
    verdictOf r =
      if r.tokens.length = 2 then .reject .double
      else if r.lengthOf < sn.minLength then .reject .short
      else if sn.maxLength < r.lengthOf then .reject .long
      else if r.widthOf < sn.minWidth ∨ sn.maxWidth < r.widthOf then .reject .width
      else if r.tokens = [] then .acceptOverflow else .accept := by
  have reason := rejectReason_of_snapshot snapshot clean
  unfold sizeReason at reason
  split_ifs at reason ⊢ with double short long width stray
  · exact verdictOf_of_reason reason
  · exact verdictOf_of_reason reason
  · exact verdictOf_of_reason reason
  · exact verdictOf_of_reason reason
  · simpa [stray] using verdictOf_of_no_reason reason
  · simpa [stray] using verdictOf_of_no_reason reason

end RecordLemmas

/-- Settles O31: each row of R55's table gives its reason when the rows before it do not apply. -/
theorem verdictFollowsOrder : Obligations.VerdictFollowsOrder := by
  intro r
  refine ⟨?marked, ?article, ?noEntry, ?stray, ?snapshot⟩
  case marked =>
    intro t rest tokens marked
    exact verdictOf_of_reason (rejectReason_of_marked tokens marked)
  case article =>
    intro t rest tokens unmarked mismatch
    exact verdictOf_of_reason (rejectReason_of_mismatch tokens unmarked mismatch)
  case noEntry =>
    intro t rest tokens unmarked matching absent
    exact verdictOf_of_reason (rejectReason_of_token_without_snapshot tokens unmarked matching absent)
  case stray =>
    intro tokens absent
    exact verdictOf_of_reason (rejectReason_of_stray tokens absent)
  case snapshot =>
    intro sn snapshot clean
    exact verdictOf_of_snapshot snapshot clean

end Sys2Proof.Machine
end

section
/-!
# CLOSE PLACE (R107)

The three courses of a short close (R103), the act of CLOSE PLACE by the state of the place named, and from these each row of R107's
table.
-/

namespace Sys2Proof.Machine

/-! ## The bytes of the request -/

theorem codeByte_of_head? {body : List Byte} {b : Byte} (head : body.head? = some b) : codeByte body = b := by
  rw [codeByte, List.getD_eq_getElem?_getD, ← List.head?_eq_getElem?, head, Option.getD_some]

theorem placeParam_byteOf (p : PlaceId) : placeParam (byteOf p.val) = some p := by
  have value : (byteOf p.val).toNat = p.val := by
    rw [byteOf, BitVec.toNat_ofNat]
    omega
  simp [placeParam, value]

theorem placeParam_of_above {b : Byte} (above : 7 < b.toNat) : placeParam b = none :=
  dif_neg (by omega)

/-! ## The courses of a short close (R103) -/

section ShortClose

variable {s : State} {p : PlaceId}

theorem State.shortClose_of_inbound (filling : (s.place p).state = .filling) (inbound : (s.place p).inbound = true) :
    s.shortClose p = s.modPlace p fun pl => { pl with closePending := true } := by
  rw [State.shortClose, if_pos filling, if_pos inbound]

theorem State.shortClose_of_counted (filling : (s.place p).state = .filling) (notInbound : (s.place p).inbound = false)
    (counted : 0 < (s.place p).count) : s.shortClose p = s.makeFull p true := by
  rw [State.shortClose, if_pos filling, if_neg (by simp [notInbound]), if_pos counted]

theorem State.shortClose_of_empty (filling : (s.place p).state = .filling) (notInbound : (s.place p).inbound = false)
    (empty : (s.place p).count = 0) : s.shortClose p = s.freePlace p := by
  rw [State.shortClose, if_pos filling, if_neg (by simp [notInbound]), if_neg (by omega)]

end ShortClose

/-! ## The act of the request -/

section Act

variable {s : State} {p : PlaceId}

theorem closePlaceAct_of_filling (filling : (s.place p).state = .filling) :
    closePlaceAct [byteOf p.val] s = (s.shortClose p, answer .ok []) := by
  simp [closePlaceAct, param, placeParam_byteOf, filling]

theorem closePlaceAct_of_not_filling (notFilling : (s.place p).state ≠ .filling) :
    closePlaceAct [byteOf p.val] s = (s, answer .wrongState []) := by
  simp [closePlaceAct, param, placeParam_byteOf, notFilling]

theorem closePlaceAct_of_above {b : Byte} (above : 7 < b.toNat) : closePlaceAct [b] s = (s, answer .badParam []) := by
  simp [closePlaceAct, param, placeParam_of_above above]

end Act

/-! ## The request carried out -/

section Exec

variable {s : State} {t : Telegram} {h l b : Byte} {p : PlaceId}

theorem exec_closePlace (s : State) : exec .closePlace s = request .closePlace closePlaceAct s := rfl

/-- An act that answers and changes nothing. -/
theorem exec_closePlace_unchanged {status : Status} (lines : s.linesFollow) (ready : s.requestReady = some t)
    (body : t.body = [0x18#8, h, l, b]) (act : closePlaceAct [b] s.dequeued = (s.dequeued, answer status [])) :
    exec .closePlace s = .next (s.answered t status []) := by
  rw [exec_closePlace]
  refine request_answers lines ready ?code ?length ?unchanged
  case code => rw [body]; exact Request.ofCode_code .closePlace
  case length => rw [body]; rfl
  case unchanged => rw [body]; exact act

/-- A FILLING place is closed short by R103 and answered OK. -/
theorem exec_closePlace_filling (ready : s.requestReady = some t) (body : t.body = [0x18#8, h, l, byteOf p.val])
    (filling : (s.place p).state = .filling) :
    exec .closePlace s = .next ((s.dequeued.shortClose p).respond t (answer .ok [])).settle := by
  have act : closePlaceAct (t.body.drop 3) s.dequeued = (s.dequeued.shortClose p, answer .ok []) := by
    rw [body]; exact closePlaceAct_of_filling filling
  have code : Request.ofCode (codeByte t.body) = some .closePlace := by
    rw [body]; exact Request.ofCode_code .closePlace
  rw [exec_closePlace, request_act closePlaceAct ready code (by rw [body]; rfl), act]

/-- No line shows or follows a place's record or the request taken and answered. -/
theorem State.linesFollow_modPlace_answered (lines : s.linesFollow) (f : Place → Place) (t : Telegram) (a : Answer) :
    ((s.dequeued.modPlace p f).respond t a).linesFollow :=
  State.linesFollow_congr lines (fun _ => Lane.sameLines_refl _) ⟨rfl, rfl, rfl, rfl⟩ ⟨rfl, rfl, rfl⟩ ⟨rfl, rfl⟩

/-- With a piece inbound the close is only marked pending, which no line follows. -/
theorem exec_closePlace_inbound (lines : s.linesFollow) (ready : s.requestReady = some t)
    (body : t.body = [0x18#8, h, l, byteOf p.val]) (filling : (s.place p).state = .filling)
    (inbound : (s.place p).inbound = true) :
    exec .closePlace s =
      .next ((s.dequeued.modPlace p fun pl => { pl with closePending := true }).respond t (answer .ok [])) := by
  have marked : s.dequeued.shortClose p = s.dequeued.modPlace p fun pl => { pl with closePending := true } :=
    State.shortClose_of_inbound filling inbound
  rw [exec_closePlace_filling ready body filling, marked,
    State.settle_of_linesFollow (State.linesFollow_modPlace_answered lines _ t _)]

end Exec

/-- Settles O36: the rows of R107's table by the state of the place, then a place above 7 and a body of the wrong length. -/
theorem closePlaceActs : Obligations.ClosePlaceActs := by
  intro s t lines ready head
  refine ⟨fun h l p body => ⟨?inbound, ?counted, ?empty, ?notFilling⟩, ?above, ?length⟩
  case inbound =>
    intro filling inbound
    exact exec_closePlace_inbound lines ready body filling inbound
  case counted =>
    intro filling notInbound counted
    have full : s.dequeued.shortClose p = s.dequeued.makeFull p true :=
      State.shortClose_of_counted filling notInbound counted
    rw [exec_closePlace_filling ready body filling, full]
  case empty =>
    intro filling notInbound empty
    have freed : s.dequeued.shortClose p = s.dequeued.freePlace p := State.shortClose_of_empty filling notInbound empty
    rw [exec_closePlace_filling ready body filling, freed]
  case notFilling =>
    intro notFilling
    exact exec_closePlace_unchanged lines ready body (closePlaceAct_of_not_filling notFilling)
  case above =>
    intro h l b body above
    exact exec_closePlace_unchanged lines ready body (closePlaceAct_of_above above)
  case length =>
    intro wrongLength
    have code : Request.ofCode (codeByte t.body) = some .closePlace := by
      rw [codeByte_of_head? head]; exact Request.ofCode_code .closePlace
    exact request_badLength closePlaceAct lines ready code wrongLength

end Sys2Proof.Machine
end

section
/-!
# RELEASE OUTFEED (R120)

The freeing of the current place, the act of RELEASE OUTFEED by the outfeed state, and from these each row of R120's table.
-/

namespace Sys2Proof.Machine

section Release

variable {s : State} {t : Telegram} {h l : Byte} {p : PlaceId}

/-! ## The release of the current place -/

/-- The steps 1 to 3 of R120, with a current place. -/
theorem State.freeCurrent_of_current (current : s.discharge.current = some p) :
    s.freeCurrent = { s with discharge := s.discharge.toIdle }.freePlace p := by
  rw [State.freeCurrent, current]

/-- The steps of R120, with a current place. -/
theorem State.releaseOutfeed_of_current (current : s.discharge.current = some p) :
    s.releaseOutfeed = ({ s with discharge := s.discharge.toIdle }.freePlace p).tryDischarge := by
  rw [State.releaseOutfeed, State.freeCurrent_of_current current]

/-! ## The act of the request -/

theorem releaseOutfeedAct_of_stalled (ps : List Byte) (stalled : s.discharge.outfeed = .stalled) :
    releaseOutfeedAct ps s = (s.releaseOutfeed, answer .ok []) :=
  if_pos stalled

theorem releaseOutfeedAct_of_not_stalled (ps : List Byte) (notStalled : s.discharge.outfeed ≠ .stalled) :
    releaseOutfeedAct ps s = (s, answer .wrongState []) :=
  if_neg notStalled

/-! ## The request carried out -/

theorem exec_releaseOutfeed (s : State) : exec .releaseOutfeed s = request .releaseOutfeed releaseOutfeedAct s := rfl

theorem ofCode_releaseOutfeed (head : t.body.head? = some 0x19#8) :
    Request.ofCode (codeByte t.body) = some .releaseOutfeed := by
  rw [codeByte_of_head? head]
  exact Request.ofCode_code .releaseOutfeed

/-- In STALLED the request is carried out and answered OK. -/
theorem exec_releaseOutfeed_stalled (ready : s.requestReady = some t) (body : t.body = [0x19#8, h, l])
    (stalled : s.discharge.outfeed = .stalled) :
    exec .releaseOutfeed s = .next (s.dequeued.releaseOutfeed.respond t (answer .ok [])).settle := by
  have act : releaseOutfeedAct (t.body.drop 3) s.dequeued = (s.dequeued.releaseOutfeed, answer .ok []) :=
    releaseOutfeedAct_of_stalled _ stalled
  have code : Request.ofCode (codeByte t.body) = some .releaseOutfeed := ofCode_releaseOutfeed (by rw [body]; rfl)
  rw [exec_releaseOutfeed, request_act releaseOutfeedAct ready code (by rw [body]; rfl), act]

end Release

/-- Settles O40: R120's table by the outfeed state, then a body of the wrong length. -/
theorem releaseOutfeedActs : Obligations.ReleaseOutfeedActs := by
  intro s t lines ready head
  refine ⟨?stalled, ?notStalled, ?length⟩
  case stalled =>
    intro h l p body stalled current
    have currentDequeued : s.dequeued.discharge.current = some p := current
    rw [exec_releaseOutfeed_stalled ready body stalled, State.releaseOutfeed_of_current currentDequeued]
    rfl
  case notStalled =>
    intro h l body notStalled
    have act : releaseOutfeedAct (t.body.drop 3) s.dequeued = (s.dequeued, answer .wrongState []) :=
      releaseOutfeedAct_of_not_stalled _ notStalled
    exact request_answers lines ready (ofCode_releaseOutfeed head) (by rw [body]; rfl) act
  case length =>
    intro wrongLength
    exact request_badLength releaseOutfeedAct lines ready (ofCode_releaseOutfeed head) wrongLength

end Sys2Proof.Machine
end

section
/-!
# The pointer and the read latch (R178, R184, R186, R188)

What a request that sets the pointer, the latch or the modify mode comes to, since no line shows or follows these; the act of SET POINTER,
of END MODIFY and of READ TABLE case by case, the last by the words that `State.readWords` reads; and from these the statements.
-/

namespace Sys2Proof.Machine

/-! ## A request on the Table Store -/

section TableRequest

variable {s : State} {t : Telegram} {r : Request} {act : Act} {a : Answer}

/-- A request row whose act changes the Table Store alone, and there neither ALERT nor the warnings, leaves nothing to settle. -/
theorem request_setsTables {T : Tables} (lines : s.linesFollow) (ready : s.requestReady = some t)
    (code : Request.ofCode (codeByte t.body) = some r) (length : t.body.length = r.bodyLength t.body)
    (shown : T.alert = s.tables.alert ∧ T.warnings = s.tables.warnings)
    (acts : act (t.body.drop 3) s.dequeued = ({ s.dequeued with tables := T }, a)) :
    request r act s = .next ({ s.dequeued with tables := T }.respond t a) := by
  rw [request_act act ready code length, acts]
  exact congrArg _
    (State.settle_congr lines (fun _ => Lane.sameLines_refl _) ⟨rfl, rfl, rfl, rfl⟩ ⟨rfl, rfl, rfl⟩ shown)

end TableRequest

/-! ## SET POINTER -/

theorem joinBytes_toNat (high low : Byte) : (joinBytes high low).toNat = 256 * high.toNat + low.toNat := by
  rw [joinBytes, BitVec.toNat_append, ← Nat.shiftLeft_add_eq_or_of_lt low.isLt, Nat.shiftLeft_eq, Nat.mul_comm]

theorem pointerOf_of_values (p : Pointer) : pointerOf p.page.val p.offset.val = some p :=
  dif_pos ⟨p.page.isLt, p.offset.isLt⟩

theorem pointerOf_of_above {page offset : Nat} (above : 7 < page ∨ 1023 < offset) : pointerOf page offset = none :=
  dif_neg (by omega)

/-- The page and the offset that the parameter bytes of SET POINTER name. -/
theorem pointerOf_params (page high low : Byte) :
    pointerOf (param [page, high, low] 0).toNat (paramWord [page, high, low] 1).toNat =
      pointerOf page.toNat (256 * high.toNat + low.toNat) := by
  rw [← joinBytes_toNat]
  rfl

section SetPointer

variable {s : State} {page high low : Byte} {p : Pointer}

/-- The pointer that the page and the offset of the body name is set unless modify mode is on. -/
theorem setPointerAct_of_named (named : pointerOf page.toNat (256 * high.toNat + low.toNat) = some p) :
    setPointerAct [page, high, low] s =
      if s.tables.modify then (s, answer .modifyActive []) else (s.setPointer p, answer .ok []) := by
  simp only [setPointerAct, pointerOf_params, named]

theorem setPointerAct_of_modify_off (onPage : p.page.val = page.toNat)
    (atOffset : p.offset.val = 256 * high.toNat + low.toNat) (off : s.tables.modify = false) :
    setPointerAct [page, high, low] s = (s.setPointer p, answer .ok []) := by
  have named : pointerOf page.toNat (256 * high.toNat + low.toNat) = some p := by
    rw [← onPage, ← atOffset, pointerOf_of_values]
  rw [setPointerAct_of_named named, if_neg (by simp [off])]

theorem setPointerAct_of_modify_on (onPage : page.toNat ≤ 7) (atOffset : 256 * high.toNat + low.toNat ≤ 1023)
    (on : s.tables.modify = true) : setPointerAct [page, high, low] s = (s, answer .modifyActive []) := by
  have named : pointerOf page.toNat (256 * high.toNat + low.toNat) =
      some ⟨⟨page.toNat, by omega⟩, ⟨256 * high.toNat + low.toNat, by omega⟩⟩ := dif_pos ⟨by omega, by omega⟩
  rw [setPointerAct_of_named named, if_pos on]

theorem setPointerAct_of_above (above : 7 < page.toNat ∨ 1023 < 256 * high.toNat + low.toNat) :
    setPointerAct [page, high, low] s = (s, answer .badParam []) := by
  simp only [setPointerAct, pointerOf_params, pointerOf_of_above above]

end SetPointer

theorem exec_setPointer (s : State) : exec .setPointer s = request .setPointer setPointerAct s := rfl

/-- Settles O49: R184 outside modify mode, in it, and with a page or an offset out of range. -/
theorem setPointerActs : Obligations.SetPointerActs := by
  intro s t h l page high low lines ready body
  have code : Request.ofCode (codeByte t.body) = some .setPointer := by
    rw [body]; exact Request.ofCode_code .setPointer
  have length : t.body.length = Request.bodyLength t.body .setPointer := by rw [body]; rfl
  have params : t.body.drop 3 = [page, high, low] := by rw [body]; rfl
  rw [exec_setPointer]
  refine ⟨?modifyOff, ?modifyOn, ?above⟩
  case modifyOff =>
    intro p onPage atOffset off
    refine request_setsTables lines ready code length ⟨rfl, rfl⟩ ?_
    rw [params]
    exact setPointerAct_of_modify_off onPage atOffset off
  case modifyOn =>
    intro onPage atOffset on
    refine request_answers lines ready code length ?_
    rw [params]
    exact setPointerAct_of_modify_on onPage atOffset on
  case above =>
    intro above
    refine request_answers lines ready code length ?_
    rw [params]
    exact setPointerAct_of_above above

/-! ## END MODIFY -/

section EndModify

variable {s : State}

theorem endModifyAct_of_modify_on (ps : List Byte) (on : s.tables.modify = true) :
    endModifyAct ps s =
      ({ s with tables := { s.tables with pointer := s.tables.saved, modify := false } }, answer .ok []) := by
  rw [endModifyAct, if_pos on]

theorem endModifyAct_of_modify_off (ps : List Byte) (off : s.tables.modify = false) :
    endModifyAct ps s = (s, answer .ok []) := by
  rw [endModifyAct, if_neg (by simp [off])]

end EndModify

theorem exec_endModify (s : State) : exec .endModify s = request .endModify endModifyAct s := rfl

/-- Settles O53: R188 in modify mode and outside it. -/
theorem endModifyRestoresPointer : Obligations.EndModifyRestoresPointer := by
  intro s t h l lines ready body
  have code : Request.ofCode (codeByte t.body) = some .endModify := by
    rw [body]; exact Request.ofCode_code .endModify
  have length : t.body.length = Request.bodyLength t.body .endModify := by rw [body]; rfl
  rw [exec_endModify]
  refine ⟨?modifyOn, ?modifyOff⟩
  case modifyOn =>
    intro on
    exact request_setsTables lines ready code length ⟨rfl, rfl⟩ (endModifyAct_of_modify_on _ on)
  case modifyOff =>
    intro off
    exact request_answers lines ready code length (endModifyAct_of_modify_off _ off)

/-! ## READ TABLE -/

/-- A pointer moved on once and then `n` times stands where `n + 1` moves bring it. -/
theorem Pointer.advance_ahead (p : Pointer) (n : Nat) : p.advance.ahead n = p.ahead (n + 1) := by
  induction n with
  | zero => rfl
  | succ n ih => exact congrArg Pointer.advance ih

/-- A table access reads the words, the place records and the stack serial counter, none of which is in the Table Store's registers. -/
@[simp] theorem State.tableWord_withTables (s : State) (T : Tables) (p : Pointer) :
    ({ s with tables := T } : State).tableWord p = s.tableWord p := rfl

section ReadTable

variable {s : State}

theorem State.loadLatch_of_modify_off (off : s.tables.modify = false) :
    s.loadLatch =
      { s with tables :=
        { s.tables with latch := s.tableWord s.tables.pointer, pointer := s.tables.pointer.advance } } := by
  rw [State.loadLatch, if_neg (by simp [off])]
  rfl

theorem State.loadLatch_of_modify_on (on : s.tables.modify = true) :
    s.loadLatch = { s with tables := { s.tables with latch := s.tableWord s.tables.pointer } } := by
  rw [State.loadLatch, if_pos on]

/-- With modify mode off the words that follow the latch are those from the pointer on, and the latch holds the one not yet answered. -/
theorem State.readWords_of_modify_off (k : Nat) (s : State) (off : s.tables.modify = false) :
    State.readWords (k + 1) s =
      ({ s with tables :=
          { s.tables with
            latch := s.tableWord (s.tables.pointer.ahead k)
            pointer := s.tables.pointer.ahead (k + 1) } },
        s.tables.latch :: (List.range k).map fun i => s.tableWord (s.tables.pointer.ahead i)) := by
  induction k generalizing s with
  | zero =>
    rw [State.readWords, State.loadLatch_of_modify_off off]
    rfl
  | succ k ih =>
    have loaded : s.loadLatch.tables.modify = false := by rw [State.loadLatch_of_modify_off off]; exact off
    rw [State.readWords, ih s.loadLatch loaded, State.loadLatch_of_modify_off off]
    simp [Pointer.advance_ahead, List.range_succ_eq_map, Function.comp_def, Pointer.ahead]

/-- In modify mode every word that follows the latch is the one at the pointer, which stays. -/
theorem State.readWords_of_modify_on (k : Nat) (s : State) (on : s.tables.modify = true) :
    State.readWords (k + 1) s =
      ({ s with tables := { s.tables with latch := s.tableWord s.tables.pointer } },
        s.tables.latch :: List.replicate k (s.tableWord s.tables.pointer)) := by
  induction k generalizing s with
  | zero =>
    rw [State.readWords, State.loadLatch_of_modify_on on]
    rfl
  | succ k ih =>
    have loaded : s.loadLatch.tables.modify = true := by rw [State.loadLatch_of_modify_on on]; exact on
    rw [State.readWords, ih s.loadLatch loaded, State.loadLatch_of_modify_on on]
    simp [List.replicate_succ]

theorem countInRange_succ {k : Nat} (below : k < 16) : countInRange (k + 1) = true :=
  decide_eq_true ⟨by omega, by omega⟩

theorem countInRange_of_outside {n : Nat} (outside : n = 0 ∨ 16 < n) : countInRange n = false :=
  decide_eq_false (by omega)

/-- A count of 1 to 16 is carried out by reading that many words. -/
theorem readTableAct_of_count {n : Byte} {k : Nat} (count : n.toNat = k + 1) (below : k < 16) :
    readTableAct [n] s = ((State.readWords (k + 1) s).1, answer .ok (State.readWords (k + 1) s).2) := by
  simp [readTableAct, param, count, countInRange_succ below]

theorem readTableAct_of_outside {n : Byte} (outside : n.toNat = 0 ∨ 16 < n.toNat) :
    readTableAct [n] s = (s, answer .badParam []) := by
  simp [readTableAct, param, countInRange_of_outside outside]

end ReadTable

theorem exec_readTable (s : State) : exec .readTable s = request .readTable readTableAct s := rfl

/-- Settles O52: the words that R186 reads with modify mode off and in it, by induction on the count, and a count out of range. -/
theorem readTableThroughLatch : Obligations.ReadTableThroughLatch := by
  intro s t h l n lines ready body p
  have code : Request.ofCode (codeByte t.body) = some .readTable := by
    rw [body]; exact Request.ofCode_code .readTable
  have length : t.body.length = Request.bodyLength t.body .readTable := by rw [body]; rfl
  have params : t.body.drop 3 = [n] := by rw [body]; rfl
  rw [exec_readTable]
  refine ⟨?modifyOff, ?modifyOn, ?outside⟩
  case modifyOff =>
    intro k count below off
    refine request_setsTables lines ready code length ⟨rfl, rfl⟩ ?_
    rw [params, readTableAct_of_count count below, State.readWords_of_modify_off k s.dequeued off]
    rfl
  case modifyOn =>
    intro k count below on
    refine request_setsTables lines ready code length ⟨rfl, rfl⟩ ?_
    rw [params, readTableAct_of_count count below, State.readWords_of_modify_on k s.dequeued on]
    rfl
  case outside =>
    intro outside
    refine request_answers lines ready code length ?_
    rw [params]
    exact readTableAct_of_outside outside

end Sys2Proof.Machine
end


section
/-!
# What a step can do

The act of each request and the outcome of each command's event, named once; a condition is kept by every step when it survives the queue of
commands, the lines, and every event. A request's event is its act between the taking of the request and the response.
-/

namespace Sys2Proof.Machine

/-! ## The events -/

/-- What each request does with its parameter bytes. -/
def Request.act : Request → Act
  | .identify => identifyAct
  | .readStatus => readStatusAct
  | .setPointer => setPointerAct
  | .writeTable => writeTableAct
  | .readTable => readTableAct
  | .beginModify => beginModifyAct
  | .endModify => endModifyAct
  | .setMotionMode => setMotionModeAct
  | .clearCounters => clearCountersAct
  | .stationReset => stationResetAct
  | .laneStart => laneStartAct
  | .laneSuspend => laneSuspendAct
  | .laneResume => laneResumeAct
  | .laneRelease => laneReleaseAct
  | .laneStop => laneStopAct
  | .clearFault => clearFaultAct
  | .closePlace => closePlaceAct
  | .releaseOutfeed => releaseOutfeedAct

/-- The row of a request carries out its act. -/
theorem exec_row (r : Request) (s : State) : exec r.row s = request r r.act s := by cases r <;> rfl

/-- What the event of a command that is no request makes of the state, before the lines settle; a request's row is in `State.after`. -/
def State.occur (s : State) : Instr → State
  | .powerOn => s.powerOnReset
  | .warmReset => s.warmReset
  | .encoderPulse => { s with track := s.track.pulse }
  | .motionSampleClose => s.closeSample
  | .entryEyeChange l level => s.entryEyeChange l level
  | .widthBeamChange l beams => s.modEntry l fun e => e.beamsChanged beams
  | .entryEyeConfirm l => s.entryEyeConfirm l
  | .blockedTargetReached l => s.blockedTargetReached l
  | .tokenExpiry l => s.expireToken l
  | .retirePositionReached l => s.retireAtGate l
  | .windowOpen l o => s.openWindow l o
  | .windowEnd l o => s.endWindow l o
  | .exitEyeChange l level => s.exitEyeChange l level
  | .exitEyeConfirm l => s.exitEyeConfirm l
  | .missingTargetReached l => s.missingTargetReached l
  | .exitBlockedTargetReached l => s.exitBlockedTargetReached l
  | .dischargeStart => s.startDischarge
  | .outfeedEyeChange level => s.outfeedEyeChange level
  | .outfeedEyeConfirm => s.outfeedEyeConfirm
  | .outfeedTimeout => s.outfeedTimeout
  | .receiveStart => s.cutReceive.takeSlot
  | .telegramReceived t => s.endReceive t
  | .sendStart ready => { s with ring := s.ring.sendStart ready }
  | .telegramSent => s.telegramSent
  | .resetEnd straps => s.endReset straps
  | .unknownRequest => s.answerUnknown
  | _ => s

/-- The request of a row, if the row is a request's. -/
def requestOf : Instr → Option Request
  | .identify => some .identify
  | .readStatus => some .readStatus
  | .setPointer => some .setPointer
  | .writeTable => some .writeTable
  | .readTable => some .readTable
  | .beginModify => some .beginModify
  | .endModify => some .endModify
  | .setMotionMode => some .setMotionMode
  | .clearCounters => some .clearCounters
  | .stationReset => some .stationReset
  | .laneStart => some .laneStart
  | .laneSuspend => some .laneSuspend
  | .laneResume => some .laneResume
  | .laneRelease => some .laneRelease
  | .laneStop => some .laneStop
  | .clearFault => some .clearFault
  | .closePlace => some .closePlace
  | .releaseOutfeed => some .releaseOutfeed
  | _ => none

/-- What the event of a command makes of the state, before the lines settle. -/
def State.after (s : State) (c : Instr) : State :=
  match requestOf c with
  | some r => s.runRequest r r.act
  | none => s.occur c

/-- Every command is the event that its condition in `State.due` and its outcome in `State.after` give. -/
theorem exec_eq_event (c : Instr) (s : State) : exec c s = event (s.due c) (s.after c) s := by cases c <;> rfl

/-- Where a command's event comes about, the state is its outcome with the lines settled; else nothing happens. -/
theorem exec_cases {c : Instr} {s t : State} (h : exec c s = .next t) :
    (s.due c = true ∧ t = (s.after c).settle) ∨ (s.due c = false ∧ t = s) := by
  rw [exec_eq_event] at h
  exact event_cases h

theorem exec_of_due {c : Instr} {s : State} (h : s.due c = true) : exec c s = .next (s.after c).settle := by
  rw [exec_eq_event, h, event_due]

theorem exec_of_not_due {c : Instr} {s : State} (h : s.due c = false) : exec c s = .next s := by
  rw [exec_eq_event, h, event_not_due]

/-! ## A request -/

/-- A request that waits is taken, its act carried out if the length fits, and answered. -/
theorem State.runRequest_cases (s : State) (r : Request) (act : Act) :
    s.runRequest r act = s ∨
      ∃ (t : Telegram) (a : Answer), s.runRequest r act = s.dequeued.respond t a ∨
        s.runRequest r act = (act (t.body.drop 3) s.dequeued).1.respond t a := by
  unfold State.runRequest
  split
  · next t _ =>
    have taken : s.takeRequest t (r.checked act t.body) =
        (r.checked act t.body s.dequeued).1.respond t (r.checked act t.body s.dequeued).2 := rfl
    rw [taken]
    by_cases fits : r.lengthFits t.body = true
    · have carried : r.checked act t.body s.dequeued = act (t.body.drop 3) s.dequeued := if_pos fits
      exact Or.inr ⟨t, _, Or.inr (by rw [carried])⟩
    · have turnedAway : r.checked act t.body s.dequeued = (s.dequeued, answer .badLength []) := if_neg fits
      exact Or.inr ⟨t, _, Or.inl (by rw [turnedAway])⟩
  · exact Or.inl rfl

/-- A request of no code is taken and answered, and nothing else happens. -/
theorem State.answerUnknown_cases (s : State) : s.answerUnknown = s ∨ ∃ t a, s.answerUnknown = s.dequeued.respond t a := by
  unfold State.answerUnknown
  split
  · next t _ => exact Or.inr ⟨t, unknownAnswer t.body, rfl⟩
  · exact Or.inl rfl

/-! ## Conditions that every step keeps -/

/-- A condition that does not depend on the queue of commands and survives the settling of the lines is kept by every step when every
event keeps it. -/
theorem kept_of_events {inv : State → Prop} (queue : ∀ s q, inv s → inv (s.withPending q)) (lines : ∀ s, inv s → inv s.settle)
    (events : ∀ c s, s.due c = true → inv s → inv (s.after c)) : Kept inv := by
  intro s t holds taken
  unfold step at taken
  split at taken
  · injection taken with taken
    exact taken ▸ holds
  · next c rest _ =>
    rcases exec_cases taken with ⟨due, rfl⟩ | ⟨_, rfl⟩
    · exact lines _ (events c _ due (queue s rest holds))
    · exact queue s rest holds

/-- Settles O1: by the definition of a step on a queue with a front, and on an empty one. -/
theorem stepTakesFront : Obligations.StepTakesFront := by
  refine ⟨fun c q s => rfl, fun s empty => ?_⟩
  rw [step, empty]

/-- Settles O2: every command is an event, and an event that is not due is the state as it was. -/
theorem everyCommandAnswers : Obligations.EveryCommandAnswers := by
  refine ⟨fun c s => ?_, fun c s notDue => exec_of_not_due notDue⟩
  rw [exec_eq_event]
  exact ⟨_, rfl⟩

/-- Settles O4: the lines are settled at the end of every event, and the queue of commands is in none of their rules. -/
theorem linesFollowKept : Obligations.LinesFollowKept := by
  intro s t follow taken
  unfold step at taken
  split at taken
  · injection taken with taken
    exact taken ▸ follow
  · rcases exec_cases taken with ⟨_, rfl⟩ | ⟨_, rfl⟩
    · exact State.settle_linesFollow _
    · exact follow

end Sys2Proof.Machine
end


section
/-!
# What bookings, reports and closed stacks can do

Three relations between the state before and after an operation, each kept along a sequence. `PlacesStep`: what becomes of the stack places and
the outfeed. `Quiet`: reports, warnings, closed stacks and lots. `Loose`: those and the bookings of entries with their completions
(R131 to R138). Each operation has one lemma, in the order of the model's files.
-/

namespace Sys2Proof.Machine

/-! ## Places and outfeed -/

/-- The outfeed, the discharge queue and the places agree, and an inbound mark stands on a FILLING place alone. -/
def State.stacksSound (s : State) : Prop :=
  s.outfeedCoherent ∧ s.queueHoldsFull ∧ s.placesCoherent ∧ ∀ p, (s.place p).inbound = true → (s.place p).state = .filling

/-- The place has been closed and not yet freed or blocked. -/
def Place.closed (pl : Place) : Prop := pl.state = .full ∨ pl.state = .discharging

/-- What closing and freeing places and starting discharges do to the places and the outfeed. -/
structure PlacesStep (s t : State) : Prop where
  outfeed : s.outfeedCoherent → t.outfeedCoherent
  sound : s.stacksSound → t.stacksSound
  inbound : s.stacksSound → ∀ p, (t.place p).inbound = (s.place p).inbound
  inboundLane : s.stacksSound → ∀ p, (s.place p).inbound = true → (t.place p).lane = (s.place p).lane
  closed : s.stacksSound → ∀ p, (s.place p).closed → (t.place p).closed ∧ t.place p = { s.place p with state := (t.place p).state }
  busy : s.discharge.outfeed ≠ .idle →
    ∃ more, t.discharge = { s.discharge with queue := s.discharge.queue ++ more }
  waiting : s.discharge.outfeed ≠ .idle → ∀ p, (s.place p).state = .full → t.place p = s.place p
  filling : ∀ p, (t.place p).state = .filling → (s.place p).state = .filling ∧ (t.place p).lane = (s.place p).lane

namespace PlacesStep

variable {s t u : State}

/-- Places and outfeed as they were. -/
theorem ofSame (places : t.places = s.places) (discharge : t.discharge = s.discharge) : PlacesStep s t := by
  have place (p : PlaceId) : t.place p = s.place p := congrArg (fun v : Vector Place 8 => v[p]) places
  have outfeed : t.outfeedCoherent ↔ s.outfeedCoherent := by rw [State.outfeedCoherent, State.outfeedCoherent, discharge]
  have sound : t.stacksSound ↔ s.stacksSound := by
    simp only [State.stacksSound, outfeed, State.queueHoldsFull, State.placesCoherent, place, discharge]
  exact {
    outfeed := outfeed.mpr
    sound := sound.mpr
    inbound := fun _ p => by rw [place p]
    inboundLane := fun _ p _ => by rw [place p]
    closed := fun _ p isClosed => by rw [place p]; exact ⟨isClosed, rfl⟩
    busy := fun _ => ⟨[], by rw [discharge, List.append_nil]⟩
    waiting := fun _ p _ => place p
    filling := fun p filling => by rw [place p] at filling ⊢; exact ⟨filling, rfl⟩ }

theorem refl (s : State) : PlacesStep s s := ofSame rfl rfl

theorem trans (h : PlacesStep s t) (k : PlacesStep t u) : PlacesStep s u where
  outfeed := fun coherent => k.outfeed (h.outfeed coherent)
  sound := fun sound => k.sound (h.sound sound)
  inbound := fun sound p => (k.inbound (h.sound sound) p).trans (h.inbound sound p)
  inboundLane := fun sound p marked =>
    (k.inboundLane (h.sound sound) p ((h.inbound sound p).trans marked)).trans (h.inboundLane sound p marked)
  closed := fun sound p isClosed => by
    obtain ⟨closed, same⟩ := h.closed sound p isClosed
    obtain ⟨closed', same'⟩ := k.closed (h.sound sound) p closed
    refine ⟨closed', ?_⟩
    rw [same', same]
  busy := fun busy => by
    obtain ⟨more, first⟩ := h.busy busy
    obtain ⟨more', second⟩ := k.busy (by rw [first]; exact busy)
    exact ⟨more ++ more', by rw [second, first, List.append_assoc]⟩
  waiting := fun busy p full => by
    have same := h.waiting busy p full
    obtain ⟨more, first⟩ := h.busy busy
    exact (k.waiting (by rw [first]; exact busy) p (by rw [same]; exact full)).trans same
  filling := fun p filling => by
    obtain ⟨between, laneAfter⟩ := k.filling p filling
    obtain ⟨before, laneBefore⟩ := h.filling p between
    exact ⟨before, laneAfter.trans laneBefore⟩

/-! ### The changes of one place -/

/-- A FREE place as at reset and a FILLING place of its lane alone stand so after a change of `p` that is neither FREE nor FILLING, or is as at
reset. -/
theorem placesCoherent_modPlace {p : PlaceId} {f : Place → Place} (coherent : s.placesCoherent)
    (free : (f (s.place p)).state = .free → f (s.place p) = Place.reset)
    (filling : (f (s.place p)).state = .filling → (s.place p).state = .filling ∧ (f (s.place p)).lane = (s.place p).lane) :
    (s.modPlace p f).placesCoherent := by
  obtain ⟨freeReset, oneFilling, owned⟩ := coherent
  have was (q : PlaceId) (h : ((s.modPlace p f).place q).state = .filling) :
      (s.place q).state = .filling ∧ ((s.modPlace p f).place q).lane = (s.place q).lane := by
    rw [State.modPlace_place] at h ⊢
    split at h
    · next e => subst e; rw [if_pos rfl]; exact filling h
    · next e => rw [if_neg e]; exact ⟨h, rfl⟩
  refine ⟨fun q h => ?_, fun q r hq hr lanes => ?_, fun q hq => ?_⟩
  · rw [State.modPlace_place] at h ⊢
    split at h
    · next e => rw [if_pos e]; exact free h
    · next e => rw [if_neg e]; exact freeReset q h
  · obtain ⟨fillingQ, laneQ⟩ := was q hq
    obtain ⟨fillingR, laneR⟩ := was r hr
    exact oneFilling q r fillingQ fillingR (by rw [← laneQ, ← laneR]; exact lanes)
  · obtain ⟨fillingQ, laneQ⟩ := was q hq
    rw [laneQ]; exact owned q fillingQ

/-- A FILLING place changed in fields that neither its state, its lane nor its inbound mark is among. -/
theorem keepFilling (s : State) (p : PlaceId) (f : Place → Place) (filling : (s.place p).state = .filling)
    (state : (f (s.place p)).state = .filling) (lane : (f (s.place p)).lane = (s.place p).lane)
    (inbound : (f (s.place p)).inbound = (s.place p).inbound) : PlacesStep s (s.modPlace p f) := by
  have states (q : PlaceId) : ((s.modPlace p f).place q).state = (s.place q).state := by
    rw [State.modPlace_place]; split
    · next e => rw [state, e, filling]
    · rfl
  have marks (q : PlaceId) : ((s.modPlace p f).place q).inbound = (s.place q).inbound := by
    rw [State.modPlace_place]; split
    · next e => rw [inbound, e]
    · rfl
  have lanes (q : PlaceId) : ((s.modPlace p f).place q).lane = (s.place q).lane := by
    rw [State.modPlace_place]; split
    · next e => rw [lane, e]
    · rfl
  have other {q : PlaceId} (h : (s.place q).state ≠ .filling) : (s.modPlace p f).place q = s.place q :=
    State.modPlace_place_other s f fun e => h (e ▸ filling)
  refine {
    outfeed := id
    sound := fun ⟨outfeed, queue, coherent, marked⟩ => ⟨outfeed, ?_, ?_, fun q h => ?_⟩
    inbound := fun _ q => marks q
    inboundLane := fun _ q _ => lanes q
    closed := fun _ q closed => ?_
    busy := fun _ => ⟨[], by rw [List.append_nil]; rfl⟩
    waiting := fun _ q full => other (by rw [full]; decide)
    filling := fun q filling => ⟨states q ▸ filling, lanes q⟩ }
  · unfold State.queueHoldsFull at queue ⊢
    simpa only [states, State.modPlace_discharge] using queue
  · exact placesCoherent_modPlace coherent (fun h => absurd (state.symm.trans h) (by decide)) fun _ => ⟨filling, lane⟩
  · rw [states]; exact marked q (by rw [← marks q]; exact h)
  · have notFilling : (s.place q).state ≠ .filling := by rcases closed with h | h <;> rw [h] <;> decide
    rw [other notFilling]
    exact ⟨closed, rfl⟩

/-- A FILLING place with no inbound mark becomes FULL and joins the tail of the discharge queue (R102, R103, R111). -/
theorem join (s : State) (p : PlaceId) (f : Place → Place) (filling : (s.place p).state = .filling)
    (notInbound : (s.place p).inbound = false) (full : (f (s.place p)).state = .full)
    (unmarked : (f (s.place p)).inbound = false) :
    PlacesStep s { s.modPlace p f with discharge := { s.discharge with queue := s.discharge.queue ++ [p] } } := by
  have place (q : PlaceId) :
      ({ s.modPlace p f with discharge := { s.discharge with queue := s.discharge.queue ++ [p] } } : State).place q =
        if q = p then f (s.place p) else s.place q := State.modPlace_place s p q f
  have other {q : PlaceId} (h : (s.place q).state ≠ .filling) : (if q = p then f (s.place p) else s.place q) = s.place q :=
    if_neg (by rintro rfl; exact h filling)
  have marks (q : PlaceId) : (if q = p then f (s.place p) else s.place q).inbound = (s.place q).inbound := by
    split
    · next e => rw [unmarked, e, notInbound]
    · rfl
  refine {
    outfeed := id
    sound := fun ⟨outfeed, ⟨nodup, queued, discharging, blocked⟩, coherent, marked⟩ => ?_
    inbound := fun _ q => by rw [place, marks]
    inboundLane := fun _ q marked => ?_
    closed := fun _ q closed => ?_
    busy := fun _ => ⟨[p], rfl⟩
    waiting := fun _ q isFull => by rw [place]; exact other (by rw [isFull]; decide)
    filling := fun q filling => by
      rw [place] at filling ⊢
      split at filling
      · rw [full] at filling; cases filling
      · next e => rw [if_neg e]; exact ⟨filling, rfl⟩ }
  · have notQueued : p ∉ s.discharge.queue := fun h => absurd ((queued p).mp h) (by rw [filling]; decide)
    refine ⟨outfeed, ⟨?_, fun q => ?_, fun q => ?_, fun q => ?_⟩, ?_, fun q h => ?_⟩
    · exact List.nodup_append.mpr ⟨nodup, List.nodup_singleton p, fun a ha b hb e =>
        notQueued (by rw [← List.mem_singleton.mp hb, ← e]; exact ha)⟩
    · rw [place, List.mem_append, List.mem_singleton, queued q]
      split
      · next e => simp [e, full]
      · next e => simp [e]
    · rw [place]
      split
      · next e =>
        subst e
        have := (discharging q).not.mp (by rw [filling]; decide)
        simpa [full] using this
      · exact discharging q
    · rw [place]
      split
      · next e =>
        subst e
        have := (blocked q).not.mp (by rw [filling]; decide)
        simpa [full] using this
      · exact blocked q
    · exact placesCoherent_modPlace coherent (fun h => absurd (full.symm.trans h) (by decide))
        fun h => absurd (full.symm.trans h) (by decide)
    · rw [place, marks] at h
      have fillingQ := marked q h
      rw [place]
      split
      · next e => rw [e, notInbound] at h; cases h
      · exact fillingQ
  · rw [place]
    split
    · next e => rw [e, notInbound] at marked; cases marked
    · rfl
  · have notFilling : (s.place q).state ≠ .filling := by rcases closed with h | h <;> rw [h] <;> decide
    rw [place, other notFilling]
    exact ⟨closed, rfl⟩

/-- A FILLING place with no inbound mark returns to FREE (R103). -/
theorem free (s : State) (p : PlaceId) (filling : (s.place p).state = .filling) (notInbound : (s.place p).inbound = false) :
    PlacesStep s (s.modPlace p fun _ => Place.reset) := by
  have other {q : PlaceId} (h : (s.place q).state ≠ .filling) : (s.modPlace p fun _ => Place.reset).place q = s.place q :=
    State.modPlace_place_other s _ fun e => h (e ▸ filling)
  have marks (q : PlaceId) : ((s.modPlace p fun _ => Place.reset).place q).inbound = (s.place q).inbound := by
    rw [State.modPlace_place]; split
    · next e => rw [e, notInbound]; rfl
    · rfl
  refine {
    outfeed := id
    sound := fun ⟨outfeed, ⟨nodup, queued, discharging, blocked⟩, coherent, marked⟩ => ?_
    inbound := fun _ q => marks q
    inboundLane := fun _ q isMarked => ?_
    closed := fun _ q closed => ?_
    busy := fun _ => ⟨[], by rw [List.append_nil]; rfl⟩
    waiting := fun _ q full => other (by rw [full]; decide)
    filling := fun q filling => by
      rw [State.modPlace_place] at filling ⊢
      split at filling
      · cases filling
      · next e => rw [if_neg e]; exact ⟨filling, rfl⟩ }
  · have asBefore (q : PlaceId) (st : PlaceState) (h : st ≠ .filling ∧ st ≠ .free) :
        ((s.modPlace p fun _ => Place.reset).place q).state = st ↔ (s.place q).state = st := by
      rw [State.modPlace_place]; split
      · next e =>
        rw [e, filling]
        exact ⟨fun k => absurd k.symm h.2, fun k => absurd k.symm h.1⟩
      · exact Iff.rfl
    refine ⟨outfeed, ⟨nodup, fun q => ?_, fun q => ?_, fun q => ?_⟩, ?_, fun q h => ?_⟩
    · rw [asBefore q .full (by decide)]; exact queued q
    · rw [asBefore q .discharging (by decide)]; exact discharging q
    · rw [asBefore q .blocked (by decide)]; exact blocked q
    · exact placesCoherent_modPlace coherent (fun _ => rfl) fun h => by cases h
    · rw [marks] at h
      rw [State.modPlace_place]; split
      · next e => rw [e, notInbound] at h; cases h
      · exact marked q h
  · rw [State.modPlace_place]; split
    · next e => rw [e, notInbound] at isMarked; cases isMarked
    · rfl
  · have notFilling : (s.place q).state ≠ .filling := by rcases closed with h | h <;> rw [h] <;> decide
    rw [other notFilling]
    exact ⟨closed, rfl⟩

/-- The head of the queue begins its discharge on an IDLE outfeed (R113). -/
theorem beginPush (s : State) (p : PlaceId) (rest : List PlaceId) (idle : s.discharge.outfeed = .idle)
    (queue : s.discharge.queue = p :: rest) : PlacesStep s (s.beginPush p rest) := by
  have place (q : PlaceId) :
      (s.beginPush p rest).place q = if q = p then { s.place p with state := .discharging } else s.place q :=
    State.modPlace_place s p q fun pl => { pl with state := .discharging }
  have same (q : PlaceId) : (s.beginPush p rest).place q = { s.place q with state := ((s.beginPush p rest).place q).state } := by
    rw [place]; split
    · next e => rw [e]
    · rfl
  refine {
    outfeed := fun _ => ⟨by simp [State.beginPush], by simp [State.beginPush], fun h => by cases h⟩
    sound := fun ⟨outfeed, ⟨nodup, queued, discharging, blocked⟩, coherent, marked⟩ => ?_
    inbound := fun _ q => by rw [same]
    inboundLane := fun _ q _ => by rw [same]
    closed := fun ⟨_, _, _, _⟩ q closed => ⟨?_, same q⟩
    busy := fun busy => absurd idle busy
    waiting := fun busy => absurd idle busy
    filling := fun q filling => by
      refine ⟨?_, by rw [same]⟩
      rw [place] at filling
      split at filling
      · cases filling
      · exact filling }
  · have isFull : (s.place p).state = .full := (queued p).mp (by rw [queue]; exact List.mem_cons_self ..)
    rw [queue] at nodup
    obtain ⟨notInRest, restNodup⟩ := List.nodup_cons.mp nodup
    refine ⟨⟨by simp [State.beginPush], by simp [State.beginPush], fun h => by cases h⟩, ⟨restNodup, fun q => ?_, fun q => ?_,
      fun q => ?_⟩, ?_, fun q h => ?_⟩
    · rw [place]
      show q ∈ rest ↔ _
      split
      · next e => rw [e]; exact ⟨fun h => absurd h notInRest, fun h => by cases h⟩
      · next e => rw [← queued q, queue, List.mem_cons]; simp [e]
    · rw [place]
      show _ ↔ Outfeed.moving = .moving ∧ some p = some q
      split
      · next e => simp [e]
      · next e =>
        refine ⟨fun h => absurd ((discharging q).mp h).1 (by rw [idle]; decide), fun h => absurd ?_ e⟩
        exact (Option.some.inj h.2).symm
    · rw [place]
      show _ ↔ Outfeed.moving = .stalled ∧ some p = some q
      refine ⟨fun h => ?_, fun h => by cases h.1⟩
      split at h
      · cases h
      · exact absurd ((blocked q).mp h).1 (by rw [idle]; decide)
    · exact placesCoherent_modPlace (f := fun pl => { pl with state := .discharging }) coherent (fun h => by cases h)
        fun h => by cases h
    · rw [same] at h
      have fillingQ := marked q h
      rw [place, if_neg (fun e => by rw [e, isFull] at fillingQ; cases fillingQ)]
      exact fillingQ
  · unfold Place.closed
    rw [place]; split
    · exact Or.inr rfl
    · exact closed

end PlacesStep

end Sys2Proof.Machine
end


section
/-! ## Reports, warnings, closed stacks and lots -/

namespace Sys2Proof.Machine

/-- What reports, warnings, closed and freed stacks, starting discharges and lots do: of the lanes they change the starved marks, which
they may clear, and the lots; of table memory the stacks-closed counts of entries. -/
structure Quiet (s t : State) : Prop where
  lanes : ∀ l, t.lane l = { s.lane l with starved := (t.lane l).starved, lot := (t.lane l).lot }
  starved : ∀ l, (t.lane l).starved = true → (s.lane l).starved = true
  free : t.free = s.free
  stackSerial : t.stackSerial = s.stackSerial
  read : ∀ a, (∀ e : EntryId, a ≠ pageBase 4 + (12 * e.val + 11)) → t.mem.read a = s.mem.read a
  wf : s.memWf → t.memWf
  ring : s.ringBounded → t.ringBounded
  places : PlacesStep s t

/-- The place FULL and at the tail of the discharge queue. -/
def State.joinQueue (s : State) (p : PlaceId) (short : Bool) : State :=
  { s.modPlace p fun pl => { pl with state := .full, short := short, closePending := false } with
    discharge := { s.discharge with queue := s.discharge.queue ++ [p] } }

theorem State.makeFull_eq (s : State) (p : PlaceId) (short : Bool) :
    s.makeFull p short = ((s.joinQueue p short).tellStackClosed p).tryDischarge := rfl

namespace Quiet

variable {s t u : State}

/-- Operations that change neither lanes, free list, table memory nor places. -/
theorem ofStation (lanes : t.lanes = s.lanes) (free : t.free = s.free) (serial : t.stackSerial = s.stackSerial) (mem : t.mem = s.mem)
    (ring : s.ringBounded → t.ringBounded) (places : PlacesStep s t) : Quiet s t := by
  have lane (l : LaneId) : t.lane l = s.lane l := congrArg (fun v : Vector Lane 4 => v[l]) lanes
  exact {
    lanes := fun l => by rw [lane]
    starved := fun l h => by rwa [lane] at h
    free := free
    stackSerial := serial
    read := fun a _ => by rw [mem]
    wf := fun h => by rw [State.memWf, mem]; exact h
    ring := ring
    places := places }

theorem refl (s : State) : Quiet s s := ofStation rfl rfl rfl rfl id (PlacesStep.refl s)

theorem trans (h : Quiet s t) (k : Quiet t u) : Quiet s u where
  lanes := fun l => by rw [k.lanes l, h.lanes l]
  starved := fun l e => h.starved l (k.starved l e)
  free := k.free.trans h.free
  stackSerial := k.stackSerial.trans h.stackSerial
  read := fun a ha => (k.read a ha).trans (h.read a ha)
  wf := fun e => k.wf (h.wf e)
  ring := fun e => k.ring (h.ring e)
  places := h.places.trans k.places

/-- A change of the places and the outfeed alone. -/
theorem ofPlaces (lanes : t.lanes = s.lanes) (free : t.free = s.free) (serial : t.stackSerial = s.stackSerial) (mem : t.mem = s.mem)
    (ring : t.ring = s.ring) (places : PlacesStep s t) : Quiet s t :=
  ofStation lanes free serial mem (fun h => by rw [State.ringBounded, ring]; exact h) places

/-- A change of every lane in its starved mark and lot alone. -/
theorem ofLanes (lanes : ∀ l, t.lane l = { s.lane l with starved := (t.lane l).starved, lot := (t.lane l).lot })
    (starved : ∀ l, (t.lane l).starved = true → (s.lane l).starved = true) (rest : t = { s with lanes := t.lanes }) : Quiet s t where
  lanes := lanes
  starved := starved
  free := by rw [rest]
  stackSerial := by rw [rest]
  read := fun a _ => by rw [rest]
  wf := fun h => by rw [rest]; exact h
  ring := fun h => by rw [rest]; exact h
  places := PlacesStep.ofSame (by rw [rest]) (by rw [rest])

/-! ### Words, reports and warnings -/

theorem countStack (s : State) (e : EntryId) : Quiet s (s.bumpEntry e 11) where
  lanes := fun _ => rfl
  starved := fun _ h => h
  free := rfl
  stackSerial := rfl
  read := fun _ ha => Mem.read_write_other _ _ (ha e)
  wf := fun h => State.setWord_wf h (by decide) (by omega) _
  ring := id
  places := PlacesStep.ofSame rfl rfl

theorem pushReport (s : State) (r : Report) (room : s.reportRoom = true) : Quiet s (s.pushReport r) := by
  refine ofStation rfl rfl rfl rfl (fun ⟨forward, request, report, run⟩ => ⟨forward, request, ?_, run⟩) (PlacesStep.ofSame rfl rfl)
  have short : s.ring.reportQueue.length < Config.reportCap := of_decide_eq_true room
  show (s.ring.reportQueue ++ [s.reportTelegram r]).length ≤ Config.reportCap
  rw [List.length_append]
  exact short

theorem latchWarning (s : State) (w : Warning) : Quiet s (s.latchWarning w) :=
  ofStation rfl rfl rfl rfl id (PlacesStep.ofSame rfl rfl)

theorem raiseReportDropped (s : State) : Quiet s s.raiseReportDropped := by
  unfold State.raiseReportDropped
  split
  · exact refl s
  · split
    · next room => exact (latchWarning s _).trans (pushReport _ _ room)
    · exact latchWarning s _

theorem produce (s : State) (r : Report) : Quiet s (s.produce r) := by
  unfold State.produce
  split
  · next room => exact pushReport s r room
  · exact raiseReportDropped s

theorem raise (s : State) (w : Warning) (l : Option LaneId) : Quiet s (s.raise w l) := by
  unfold State.raise
  split
  · exact refl s
  · exact (latchWarning s w).trans (produce _ _)

/-! ### Places and discharges -/

theorem tryDischarge (s : State) : Quiet s s.tryDischarge := by
  unfold State.tryDischarge
  split
  · next can =>
    simp only [State.canDischarge, Bool.and_eq_true, decide_eq_true_eq] at can
    obtain ⟨⟨idle, _⟩, room⟩ := can
    unfold State.startDischarge
    split
    · exact refl s
    · next p rest queue =>
      have begun : Quiet s (s.beginPush p rest) := ofPlaces rfl rfl rfl rfl rfl (PlacesStep.beginPush s p rest idle queue)
      exact begun.trans (pushReport (s.beginPush p rest) _ room)
  · exact refl s

theorem modLot (s : State) (l : LaneId) (f : Lot → Lot) : Quiet s (s.modLot l f) := by
  refine ofLanes (fun m => ?_) (fun m => ?_) rfl <;> unfold State.modLot <;> rw [State.modLane_lane] <;> split
  · next e => rw [e]
  · rfl
  · next e => rw [e]; exact id
  · exact id

theorem tellStackClosed (s : State) (p : PlaceId) : Quiet s (s.tellStackClosed p) := by
  unfold State.tellStackClosed
  split
  · unfold State.stackClosed
    split
    · exact countStack s _
    · split
      · exact modLot s _ fun a => { a with stacksClosed := a.stacksClosed + 1 }
      · exact refl s
  · exact refl s

theorem unstarve (s : State) (p : PlaceId) : Quiet s (s.unstarve p) := by
  refine ofLanes (fun l => ?_) (fun l => ?_) rfl <;> unfold State.unstarve <;> rw [State.mapLanes_lane] <;> split
  · rfl
  · rfl
  · exact fun h => absurd h Bool.false_ne_true
  · exact id

/-- A FILLING place with no inbound mark is freed. -/
theorem freePlace (s : State) (p : PlaceId) (filling : (s.place p).state = .filling) (notInbound : (s.place p).inbound = false) :
    Quiet s (s.freePlace p) := by
  have freed : Quiet s (s.modPlace p fun _ => Place.reset) :=
    ofPlaces rfl rfl rfl rfl rfl (PlacesStep.free s p filling notInbound)
  exact freed.trans (unstarve (s.modPlace p fun _ => Place.reset) p)

theorem joinQueue (s : State) (p : PlaceId) (short : Bool) (filling : (s.place p).state = .filling)
    (notInbound : (s.place p).inbound = false) : Quiet s (s.joinQueue p short) :=
  ofPlaces rfl rfl rfl rfl rfl (PlacesStep.join s p _ filling notInbound rfl notInbound)

/-- A FILLING place with no inbound mark is closed. -/
theorem makeFull (s : State) (p : PlaceId) (short : Bool) (filling : (s.place p).state = .filling)
    (notInbound : (s.place p).inbound = false) : Quiet s (s.makeFull p short) := by
  rw [State.makeFull_eq]
  exact (joinQueue s p short filling notInbound).trans ((tellStackClosed _ p).trans (tryDischarge _))

theorem shortClose (s : State) (p : PlaceId) : Quiet s (s.shortClose p) := by
  by_cases filling : (s.place p).state = .filling
  · cases marked : (s.place p).inbound with
    | true =>
      rw [State.shortClose_of_inbound filling marked]
      exact ofPlaces rfl rfl rfl rfl rfl (PlacesStep.keepFilling s p _ filling filling rfl rfl)
    | false =>
      rcases Nat.eq_zero_or_pos (s.place p).count with empty | counted
      · rw [State.shortClose_of_empty filling marked empty]
        exact freePlace s p filling marked
      · rw [State.shortClose_of_counted filling marked counted]
        exact makeFull s p true filling marked
  · rw [State.shortClose, if_neg filling]
    exact refl s

theorem closeOtherIdentity (s : State) (l : LaneId) (customer : Word) (article : Nat) : Quiet s (s.closeOtherIdentity l customer article) := by
  unfold State.closeOtherIdentity
  repeat' split
  · exact refl s
  · exact shortClose s _
  · exact refl s

theorem closeIdentity (s : State) (l : LaneId) (customer : Word) (article : Nat) : Quiet s (s.closeIdentity l customer article) := by
  unfold State.closeIdentity
  repeat' split
  · exact shortClose s _
  · exact refl s
  · exact refl s

theorem closeFilling (s : State) (l : LaneId) : Quiet s (s.closeFilling l) := by
  unfold State.closeFilling
  split
  · exact shortClose s _
  · exact refl s

theorem freeEmptyFilling (s : State) (l : LaneId) : Quiet s (s.freeEmptyFilling l) := by
  unfold State.freeEmptyFilling
  repeat' split
  · exact shortClose s _
  · exact refl s
  · exact refl s

/-! ### Lots -/

theorem reportLot (s : State) (l : LaneId) (mark : Lot → Lot) : Quiet s (s.reportLot l mark) :=
  (produce s _).trans (modLot _ l _)

theorem addToLot (s : State) (l : LaneId) (e : EntryId) : Quiet s (s.addToLot l e) := by
  have cut : Quiet s (s.cutLot l e) := by
    unfold State.cutLot
    split
    · exact reportLot s l _
    · exact refl s
  have opened : Quiet (s.cutLot l e) ((s.cutLot l e).openLot l e) := by
    unfold State.openLot
    split
    · exact refl _
    · exact modLot _ l _
  unfold State.addToLot
  exact cut.trans (opened.trans (modLot _ l _))

theorem notifyEntry (s : State) (l : LaneId) (it : OpenItem) (st : EntryStatus) : Quiet s (s.notifyEntry l it st) := by
  unfold State.notifyEntry
  split
  · exact produce s _
  · exact refl s

theorem endLot (s : State) (l : LaneId) (e : EntryId) : Quiet s (s.endLot l e) := by
  unfold State.endLot
  split
  · exact (closeIdentity s l _ _).trans (reportLot _ l _)
  · exact refl s

end Quiet

/-! ## Bookings -/

/-- What bookings do to a lane: its open-entry list loses items from its head, and a RUNNING or DRY lane may enter WAIT. -/
structure Lane.Loose (L M : Lane) : Prop where
  same : M = { L with starved := M.starved, openList := M.openList, lot := M.lot, waitPending := M.waitPending, mode := M.mode }
  openList : M.openList <:+ L.openList
  mode : M.mode = L.mode ∨ ((L.mode = .running ∨ L.mode = .dry) ∧ M.mode = .wait)

theorem Lane.Loose.refl (L : Lane) : L.Loose L := ⟨rfl, List.suffix_rfl, Or.inl rfl⟩

theorem Lane.Loose.trans {L M N : Lane} (h : L.Loose M) (k : M.Loose N) : L.Loose N where
  same := by rw [k.same, h.same]
  openList := k.openList.trans h.openList
  mode := by
    rcases k.mode with e | ⟨works, waits⟩
    · rw [e]; exact h.mode
    · rcases h.mode with e | ⟨_, waits'⟩
      · rw [e] at works; exact Or.inr ⟨works, waits⟩
      · rw [waits'] at works; exact absurd works (by decide)

/-- What bookings do (R131 to R138), with all that they lead to. They write no counter of page 7. -/
structure Loose (s t : State) : Prop where
  lanes : ∀ l, (s.lane l).Loose (t.lane l)
  free : t.free = s.free
  stackSerial : t.stackSerial = s.stackSerial
  counters : ∀ k, t.mem.read (pageBase 7 + k) = s.mem.read (pageBase 7 + k)
  wf : s.memWf → t.memWf
  ring : s.ringBounded → t.ringBounded
  places : PlacesStep s t

/-- No word of an entry lies on page 7. -/
theorem entryAddress_ne_counter (e : EntryId) {k : Nat} (h : k < 12) (o : Nat) : pageBase 7 + o ≠ pageBase 4 + (12 * e.val + k) := by
  unfold pageBase
  omega

theorem Quiet.loose {s t : State} (h : Quiet s t) : Loose s t where
  lanes := fun l => by rw [h.lanes l]; exact ⟨rfl, List.suffix_rfl, Or.inl rfl⟩
  free := h.free
  stackSerial := h.stackSerial
  counters := fun k => h.read _ fun e => entryAddress_ne_counter e (by decide) k
  wf := h.wf
  ring := h.ring
  places := h.places

namespace Loose

variable {s t u : State}

theorem refl (s : State) : Loose s s := (Quiet.refl s).loose

theorem trans (h : Loose s t) (k : Loose t u) : Loose s u where
  lanes := fun l => (h.lanes l).trans (k.lanes l)
  free := k.free.trans h.free
  stackSerial := k.stackSerial.trans h.stackSerial
  counters := fun n => (k.counters n).trans (h.counters n)
  wf := fun e => k.wf (h.wf e)
  ring := fun e => k.ring (h.ring e)
  places := h.places.trans k.places

/-- An operation repeated along a list. -/
theorem foldl {α : Type} {f : State → α → State} (h : ∀ s a, Loose s (f s a)) (xs : List α) (s : State) : Loose s (xs.foldl f s) := by
  induction xs generalizing s with
  | nil => exact refl s
  | cons x xs ih => exact (h s x).trans (ih _)

theorem setEntryWord (s : State) (e : EntryId) (k : Nat) (w : Word) (h : k < 12) : Loose s (s.setEntryWord e k w) where
  lanes := fun _ => Lane.Loose.refl _
  free := rfl
  stackSerial := rfl
  counters := fun n => Mem.read_write_other _ _ (entryAddress_ne_counter e h n)
  wf := fun wf => State.setWord_wf wf (by decide) (by omega) _
  ring := id
  places := PlacesStep.ofSame rfl rfl

/-- A change of one lane that bookings can make. -/
theorem modLane (s : State) (l : LaneId) (f : Lane → Lane) (h : (s.lane l).Loose (f (s.lane l))) : Loose s (s.modLane l f) where
  lanes := fun m => by
    rw [State.modLane_lane]; split
    · next e => rw [e]; exact h
    · exact Lane.Loose.refl _
  free := rfl
  stackSerial := rfl
  counters := fun _ => rfl
  wf := id
  ring := id
  places := PlacesStep.ofSame rfl rfl

theorem dropHead (s : State) (l : LaneId) : Loose s (s.dropHead l) := modLane s l _ ⟨rfl, List.tail_suffix _, Or.inl rfl⟩

theorem setWaitPending (s : State) (l : LaneId) (b : Bool) : Loose s (s.setWaitPending l b) :=
  modLane s l _ ⟨rfl, List.suffix_rfl, Or.inl rfl⟩

theorem closeItem (s : State) (l : LaneId) (it : OpenItem) (st : EntryStatus) : Loose s (s.closeItem l it st) :=
  (setEntryWord s it.entry 0 _ (by decide)).trans ((Quiet.notifyEntry _ l it st).trans (Quiet.addToLot _ l it.entry)).loose

theorem holdAfter (s : State) (l : LaneId) (e : EntryId) : Loose s (s.holdAfter l e) := by
  unfold State.holdAfter
  repeat' split
  · next works => exact modLane s l _ ⟨rfl, List.suffix_rfl, Or.inr ⟨works, rfl⟩⟩
  · exact setWaitPending s l true
  · exact refl s

theorem completeHead (s : State) (l : LaneId) (it : OpenItem) : Loose s (s.completeHead l it) :=
  (closeItem s l it .complete).trans ((Quiet.endLot _ l _).loose.trans ((holdAfter _ l _).trans (dropHead _ l)))

theorem cascade (n : Nat) (l : LaneId) (s : State) : Loose s (State.cascade n l s) := by
  induction n generalizing s with
  | zero => exact refl s
  | succ n ih =>
    unfold State.cascade
    repeat' split
    · exact refl s
    · exact (completeHead s l _).trans (ih _)
    · exact refl s

theorem drain (s : State) (l : LaneId) (e : EntryId) : Loose s (s.drain l e) := by
  unfold State.drain
  repeat' split
  · exact setEntryWord s e 0 _ (by decide)
  · exact (completeHead s l _).trans (cascade _ l _)
  · exact setEntryWord s e 0 _ (by decide)

theorem book (s : State) (l : LaneId) (o : Retirement) (e : EntryId) : Loose s (s.book l o e) := by
  have counted : Loose s (s.bumpEntry e o.entryIndex) := setEntryWord s e _ _ (by cases o <;> decide)
  unfold State.book
  dsimp only
  split
  · exact counted.trans (drain _ l e)
  · exact counted

theorem bookTokens (s : State) (l : LaneId) (o : Retirement) (ts : List Token) : Loose s (s.bookTokens l o ts) := by
  unfold State.bookTokens
  refine foldl ?_ ts s
  intro s t
  exact book s l o t.entry

theorem abortLane (s : State) (l : LaneId) : Loose s (s.abortLane l) := by
  have aborted : Loose s ((s.lane l).openList.foldl (fun s it => s.abortHead l it) s) :=
    foldl (fun s it => (closeItem s l it .aborted).trans (dropHead _ l)) _ s
  unfold State.abortLane
  dsimp only
  refine aborted.trans (trans ?_ (setWaitPending _ l false))
  split
  · exact (Quiet.reportLot _ l _).loose
  · exact refl _

end Loose

end Sys2Proof.Machine
end


section
/-!
# The moves that every event is made of

`Inert`: what changes nothing that a condition on records, tokens, windows, open entries or places speaks of. `LaneMove` lists the operations
that a lane's events are made of, `Move` those and the ones of the requests, the telegrams and the resets. Every event is a sequence of moves
(`after_moves`), so a condition that each move keeps is kept by every step.
Where an operation rests on a condition that holds of every reachable state, its move has that condition as a premise of its guard.
-/

namespace Sys2Proof.Machine

/-! ## Inert operations -/

/-- What an inert operation keeps of a lane: all but the Entry Sensor, the pins and checks of the Exit Unit, the lines and the lane's settings. -/
def Lane.Inert (L M : Lane) : Prop :=
  M = { L with
    entry := M.entry
    exit := { L.exit with
      rawLevel := M.exit.rawLevel
      pendingChange := M.exit.pendingChange
      blockedTarget := M.exit.blockedTarget
      blockedWaits := M.exit.blockedWaits
      missingWaits := M.exit.missingWaits }
    held := M.held
    starved := M.starved
    ringStart := M.ringStart
    cursor := M.cursor
    lot := M.lot
    waitPending := M.waitPending
    returnToWait := M.returnToWait
    feedHold := M.feedHold }

/-- An operation that changes nothing the conditions on lanes, records, entries and places speak of, or keeps them. -/
structure Inert (s t : State) : Prop where
  lanes : ∀ l, (s.lane l).Inert (t.lane l)
  free : t.free = s.free
  entries : ∀ (e : EntryId) (k : Nat), k < 11 → t.entryWord e k = s.entryWord e k
  wf : s.memWf → t.memWf
  ring : s.ringBounded → t.ringBounded
  outfeed : s.outfeedCoherent → t.outfeedCoherent
  sound : s.stacksSound → t.stacksSound
  inbound : s.stacksSound → ∀ p, (t.place p).inbound = (s.place p).inbound
  inboundLane : s.stacksSound → ∀ p, (s.place p).inbound = true → (t.place p).lane = (s.place p).lane

theorem Lane.Inert.refl (L : Lane) : L.Inert L := rfl

/-- An entry's word lies on no address of another word of an entry. -/
theorem entryAddress_inj {e f : EntryId} {j k : Nat} (hj : j < 12) (hk : k < 12)
    (h : pageBase 4 + (12 * e.val + j) = pageBase 4 + (12 * f.val + k)) : e = f ∧ j = k := by
  have : e.val = f.val := by omega
  exact ⟨Fin.ext this, by omega⟩

theorem Quiet.inert {s t : State} (h : Quiet s t) : Inert s t where
  lanes := fun l => by rw [h.lanes l]; rfl
  free := h.free
  entries := fun e k hk => h.read _ fun f same => by have := (entryAddress_inj (by omega) (by decide) same).2; omega
  wf := h.wf
  ring := h.ring
  outfeed := h.places.outfeed
  sound := h.places.sound
  inbound := h.places.inbound
  inboundLane := h.places.inboundLane

/-- An inert operation that keeps places and outfeed. -/
theorem Inert.ofPlaces {s t : State} (lanes : ∀ l, (s.lane l).Inert (t.lane l)) (free : t.free = s.free)
    (entries : ∀ (e : EntryId) (k : Nat), k < 11 → t.entryWord e k = s.entryWord e k) (wf : s.memWf → t.memWf)
    (ring : s.ringBounded → t.ringBounded) (places : PlacesStep s t) : Inert s t where
  lanes := lanes
  free := free
  entries := entries
  wf := wf
  ring := ring
  outfeed := places.outfeed
  sound := places.sound
  inbound := places.inbound
  inboundLane := places.inboundLane

/-- A change of one lane that is inert. -/
theorem Inert.modLane (s : State) (l : LaneId) (f : Lane → Lane) (h : (s.lane l).Inert (f (s.lane l))) : Inert s (s.modLane l f) :=
  .ofPlaces (fun m => by
      rw [State.modLane_lane]; split
      · next e => rw [e]; exact h
      · exact Lane.Inert.refl _)
    rfl (fun _ _ _ => rfl) id id (PlacesStep.ofSame rfl rfl)

theorem Inert.modEntry (s : State) (l : LaneId) (f : EntrySensor → EntrySensor) : Inert s (s.modEntry l f) := modLane s l _ rfl

/-- A change of the Exit Unit's pins and checks. -/
theorem Inert.modExit (s : State) (l : LaneId) (f : ExitUnit → ExitUnit)
    (h : f (s.lane l).exit = { f (s.lane l).exit with
      level := (s.lane l).exit.level, arrival := (s.lane l).exit.arrival, route := (s.lane l).exit.route }) : Inert s (s.modExit l f) := by
  refine modLane s l _ ?_
  unfold Lane.Inert
  dsimp only
  rw [h]

/-- A change of station blocks alone: the track, the ring within its bounds, the tables, and table memory apart from entries. -/
theorem Inert.ofStation {s t : State} (lanes : t.lanes = s.lanes) (free : t.free = s.free)
    (entries : ∀ (e : EntryId) (k : Nat), k < 11 → t.entryWord e k = s.entryWord e k) (wf : s.memWf → t.memWf)
    (ring : s.ringBounded → t.ringBounded) (places : PlacesStep s t) : Inert s t :=
  .ofPlaces (fun l => by
      have : t.lane l = s.lane l := congrArg (fun v : Vector Lane 4 => v[l]) lanes
      rw [this]; exact Lane.Inert.refl _)
    free entries wf ring places

/-- A change of the ring, within its bounds, alone. -/
theorem Inert.ofRing (s : State) (r : Ring) (h : s.ring.bounded → r.bounded) : Inert s { s with ring := r } :=
  ofStation rfl rfl (fun _ _ _ => rfl) id h (PlacesStep.ofSame rfl rfl)

/-- A word of page 7 written. -/
theorem Inert.setCounter (s : State) {o : Nat} (h : o < 1024) (w : Word) : Inert s (s.setWord 7 o w) :=
  ofStation rfl rfl (fun e _ hk => State.word_setWord_other s _ fun same => entryAddress_ne_counter e (by omega) o same.symm)
    (fun wf => State.setWord_wf wf (by decide) h w) id (PlacesStep.ofSame rfl rfl)

theorem Inert.addLaneCounter (s : State) (l : LaneId) {k : Nat} (h : k ≤ 16) (n : Nat) : Inert s (s.addLaneCounter l k n) :=
  setCounter s (by unfold laneCounterOffset; omega) _

/-- Changes of a lane that make the same of it make the same state. -/
theorem State.modLane_congr {s : State} {l : LaneId} {f g : Lane → Lane} (h : f (s.lane l) = g (s.lane l)) :
    s.modLane l f = s.modLane l g := by
  unfold State.modLane
  rw [h]

/-! ## The moves -/

/-- No record of the lane with this number is AT_EXIT. -/
def State.onItsWay (s : State) (l : LaneId) (n : RecordNo) : Prop :=
  ∀ r ∈ (s.lane l).inFlight, r.number = n → r.phase ≠ .atExit

/-- A change of a record that keeps its number, its tokens, and what the Exit Unit knows of it. -/
structure PieceRecord.KeptBy (f : PieceRecord → PieceRecord) (r : PieceRecord) : Prop where
  number : (f r).number = r.number
  tokens : (f r).tokens = r.tokens
  away : r.phase ≠ .atExit → (f r).phase ≠ .atExit
  atExit : r.phase = .atExit →
    (f r).phase = .atExit ∧ (f r).destination = r.destination ∧ (f r).retirePosition = r.retirePosition

/-- A change of a lane's fold schedule that every condition on it survives. -/
structure FoldLane.KeptBy (f : FoldLane → FoldLane) (fl : FoldLane) : Prop where
  gateHold : (f fl).gateHold = fl.gateHold
  driven : fl.driven → (f fl).driven
  room : fl.windows.length ≤ Config.windowSlots → (f fl).windows.length ≤ Config.windowSlots

/-- The operations that the events of lane `l` are made of. -/
inductive LaneMove (l : LaneId) (s : State) : State → Prop
  | inert {t : State} (h : Inert s t) (held : (t.lane l).held = (s.lane l).held) (ringStart : (t.lane l).ringStart = (s.lane l).ringStart)
      (cursor : (t.lane l).cursor = (s.lane l).cursor) : LaneMove l s t
  | retire (n : RecordNo) (o : Retirement) (away : s.poolWhole → s.exitsCoherent → s.onItsWay l n) : LaneMove l s (s.retire l n o)
  | loseToken (q : QueuedToken) (front rest : List QueuedToken) (queue : (s.lane l).tokens = front ++ q :: rest) :
      LaneMove l s ((s.modLane l fun L => { L with tokens := front ++ rest }).loseToken l q.token)
  | purge (f : LaneFault) (passes : (s.lane l).mode.passes = true) : LaneMove l s (s.purge l f)
  | append (n : RecordNo) (lead : Pos) (rest : List RecordNo) (free : s.free = n :: rest) (passes : (s.lane l).mode.passes = true) :
      LaneMove l s (s.appendRecord l n lead)
  | record (n : RecordNo) (f : PieceRecord → PieceRecord)
      (kept : s.poolWhole → ∀ r ∈ (s.lane l).inFlight, r.number = n → r.KeptBy f) (number : ∀ r, (f r).number = r.number)
      (tokens : ∀ r, (f r).tokens = r.tokens) : LaneMove l s (s.modRecord l n f)
  | double (r : PieceRecord) (away : s.poolWhole → s.onItsWay l r.number) (found : s.findRecord l r.number = some r) :
      LaneMove l s (s.takeDouble l r)
  | sched (f : FoldLane → FoldLane) (kept : (s.lane l).sched.KeptBy f) 
      (unfaulted : s.faultsCoherent → (s.lane l).mode ≠ .faulted) : LaneMove l s (s.modSched l f)
  | windows (f : FoldLane → FoldLane) (kept : (s.lane l).sched.KeptBy f)
      (empty : (s.lane l).sched.windows = [] → (f (s.lane l).sched) = (s.lane l).sched) : LaneMove l s (s.modSched l f)
  | exitLevel (f : ExitUnit → ExitUnit) (arrival : (f (s.lane l).exit).arrival = (s.lane l).exit.arrival)
      (route : (f (s.lane l).exit).route = (s.lane l).exit.route) (held : (s.lane l).mode.passes = false) : LaneMove l s (s.modExit l f)
  | arrive (r : PieceRecord) (p : Pos) (covers : (s.lane l).exit.rawLevel = .covered) (clear : (s.lane l).exit.level = .clear)
      (passes : (s.lane l).mode.passes = true) (candidate : s.candidate l = some r) (travels : r.phase = .travelling) :
      LaneMove l s ((s.modExit l ExitUnit.accept).matchArrival l r p)
  | phantom (p : Pos) (covers : (s.lane l).exit.rawLevel = .covered) (clear : (s.lane l).exit.level = .clear)
      (passes : (s.lane l).mode.passes = true) : LaneMove l s ((s.modExit l ExitUnit.accept).phantomArrival l p)
  | depart (clears : (s.lane l).exit.rawLevel = .clear) (passes : (s.lane l).mode.passes = true) :
      LaneMove l s ((s.modExit l ExitUnit.accept).exitTrailing l)
  | reroute (r x : PieceRecord) (found : s.findRecord l r.number = some x) (atExit : r.phase = .atExit)
      (same : x.phase = r.phase ∧ x.destination = r.destination) : LaneMove l s (s.rerouteAtExit l r)

/-- A change of a lane's state between the states in which edges are passed on, or from IDLE, that leaves no piece in a SUSPENDED lane. -/
structure Lane.Turns (L M : Lane) : Prop where
  same : L.Inert { M with mode := L.mode }
  before : L.mode ≠ .faulted
  after : M.mode.passes = true
  rests : M.mode = .suspended → L.tokens = [] ∧ L.inFlight = []

/-- The operations that every event is made of. -/
inductive Move (s : State) : State → Prop
  | lane {t : State} (l : LaneId) (h : LaneMove l s t) : Move s t
  | inert {t : State} (h : Inert s t) : Move s t
  | accept (a : Announcement) (e : EntryId) (active : s.activeEntry a.lane = some e)
      (room : (s.lane a.lane).tokens.length < Config.tokenQueueCap) (passes : (s.lane a.lane).mode.passes = true) :
      Move s (s.acceptToken a e)
  | adopt (a : Announcement) (can : s.canClaim a.lane = true) (room : (s.lane a.lane).tokens.length < Config.tokenQueueCap)
      (passes : (s.lane a.lane).mode.passes = true) :
      Move s (((s.claim a.lane).wakeDry a.lane).acceptToken a (s.lane a.lane).cursor)
  | writeOff (l : LaneId) (t : Token) (active : s.activeEntry l = some t.entry) (faulted : (s.lane l).mode = .faulted) :
      Move s ((s.assign l t.entry).loseToken l t)
  | claim (l : LaneId) : Move s (s.claim l)
  | turn (l : LaneId) (f : Lane → Lane) (turns : (s.lane l).Turns (f (s.lane l))) : Move s (s.modLane l f)
  | abort (l : LaneId) (suspended : (s.lane l).mode = .suspended) : Move s (s.abortLane l)
  | idle (l : LaneId) (suspended : (s.lane l).mode = .suspended) : Move s (s.enterIdle l)
  | clearFault (l : LaneId) (faulted : (s.lane l).mode = .faulted) : Move s (s.modLane l Lane.clearFault)
  | wrote (p : Pointer) (w : Word) (right : s.writable p w = true) : Move s (s.setWord p.page.val p.offset.val w)
  | warmReset : Move s s.warmReset
  | powerOn : Move s s.powerOnReset

/-- Any number of moves. -/
abbrev Moves : State → State → Prop := Relation.ReflTransGen Move

/-- Any number of moves of one lane. -/
abbrev LaneMoves (l : LaneId) : State → State → Prop := Relation.ReflTransGen (LaneMove l)

theorem LaneMoves.moves {l : LaneId} {s t : State} (h : LaneMoves l s t) : Moves s t := by
  induction h with
  | refl => exact .refl
  | tail _ move ih => exact ih.tail (.lane l move)

/-- A condition that each move keeps is kept by any number of moves. -/
theorem Moves.keep {inv : State → Prop} (kept : ∀ s t, Move s t → inv s → inv t) {s t : State} (h : Moves s t) (holds : inv s) : inv t := by
  induction h with
  | refl => exact holds
  | tail _ move ih => exact kept _ _ move ih

theorem LaneMoves.keep {l : LaneId} {inv : State → Prop} (kept : ∀ s t, LaneMove l s t → inv s → inv t) {s t : State}
    (h : LaneMoves l s t) (holds : inv s) : inv t := by
  induction h with
  | refl => exact holds
  | tail _ move ih => exact kept _ _ move ih

end Sys2Proof.Machine
end


section
/-!
# The fold schedule (R66 to R79)

What asserting and releasing fold outputs leaves on each output, what a merge of gate windows leaves in the schedule, and that every change of
a lane's schedule keeps its outputs driven and its windows within the slots.
-/

namespace Sys2Proof.Machine

/-- The first item that a search finds splits the list, and an erasure takes it alone. -/
theorem split_of_find? {α : Type} {p : α → Bool} {x : α} {xs : List α} (found : xs.find? p = some x) :
    ∃ front back, xs = front ++ x :: back ∧ (∀ y ∈ front, p y = false) ∧ p x = true ∧ xs.eraseP p = front ++ back := by
  obtain ⟨takes, front, back, split, absent⟩ := List.find?_eq_some_iff_append.mp found
  have absent' : ∀ y ∈ front, p y = false := fun y hy => by simpa using absent y hy
  refine ⟨front, back, split, absent', takes, ?_⟩
  rw [split, List.eraseP_append_right _ (fun y hy => by simp [absent' y hy]), List.eraseP_cons_of_pos takes]

/-! ## Outputs after windows are placed or removed -/

/-- An OPEN fire window of the station. -/
def Window.drives (w : Window) (f : StationId) : Bool := decide (w.output = .fold f ∧ w.state = .opened)

theorem vector_get_set {n : Nat} (v : Vector Bool n) (f g : Fin n) (b : Bool) : (v.set f b)[g] = if g = f then b else v[g] := by
  show (v.set f b)[(g : Nat)] = _
  rw [Vector.getElem_set]
  by_cases h : g = f
  · rw [if_pos (congrArg Fin.val h.symm), if_pos h]
  · rw [if_neg fun e => h (Fin.ext e.symm), if_neg h]; rfl

/-- A station's output is released exactly when an OPEN window of it is among those removed. -/
theorem releaseFolds_get (folds : Vector Bool 6) (removed : List Window) (f : StationId) :
    (releaseFolds folds removed)[f] = (folds[f] && !removed.any (·.drives f)) := by
  induction removed generalizing folds with
  | nil => simp [releaseFolds]
  | cons w removed ih =>
    have step : releaseFolds folds (w :: removed) =
        releaseFolds (match w.output, w.state with | .fold f, .opened => folds.set f false | _, _ => folds) removed := rfl
    rw [step, ih, List.any_cons]
    rcases w with ⟨output, start, stop, state, piece⟩
    cases output with
    | gate => simp [Window.drives]
    | fold g =>
      cases state with
      | waiting => simp [Window.drives]
      | opened =>
        simp only [Window.drives, vector_get_set, Output.fold.injEq]
        by_cases h : f = g
        · simp [h]
        · simp [h, Ne.symm h]

/-- A station's output is asserted exactly when it was, or when an OPEN window of it is placed. -/
theorem assertFolds_get (folds : Vector Bool 6) (placed : List Window) (f : StationId) :
    (assertFolds folds placed)[f] = (folds[f] || placed.any (·.drives f)) := by
  induction placed generalizing folds with
  | nil => simp [assertFolds]
  | cons w placed ih =>
    have step : assertFolds folds (w :: placed) =
        assertFolds (match w.output, w.state with | .fold f, .opened => folds.set f true | _, _ => folds) placed := rfl
    rw [step, ih, List.any_cons]
    rcases w with ⟨output, start, stop, state, piece⟩
    cases output with
    | gate => simp [Window.drives]
    | fold g =>
      cases state with
      | waiting => simp [Window.drives]
      | opened =>
        simp only [Window.drives, vector_get_set, Output.fold.injEq]
        by_cases h : f = g
        · simp [h]
        · simp [h, Ne.symm h]

/-! ## The merge of gate windows (R74) -/

/-- What the windows left by a merge keep of those before it: each that is no gate window, in their order. -/
def spareGates (ws : List Window) : List Window := ws.filter fun w => decide (w.output ≠ .gate)

theorem spareGates_eraseP {ws : List Window} {p : Window → Bool} (gates : ∀ w ∈ ws, p w = true → w.output = .gate) :
    spareGates (ws.eraseP p) = spareGates ws := by
  induction ws with
  | nil => rfl
  | cons w ws ih =>
    have rest := ih fun x hx => gates x (List.mem_cons_of_mem _ hx)
    cases taken : p w with
    | true =>
      have gate := gates w (List.mem_cons_self ..) taken
      simp [spareGates, taken, gate]
    | false =>
      unfold spareGates at rest ⊢
      rw [List.eraseP_cons_of_neg (by simp [taken]), List.filter_cons, List.filter_cons, rest]

/-- What a merge makes: `m` of the extended window `w`, and of the windows `ws` what is `left`. -/
structure Absorbed (w : Window) (ws : List Window) (m : Window) (left : List Window) : Prop where
  output : m.output = w.output
  piece : m.piece = w.piece
  sublist : left.Sublist ws
  spared : spareGates left = spareGates ws
  opened : w.state = .opened → m.state = .opened
  kept : ∀ x ∈ ws, x ∈ left ∨ (x.output = .gate ∧ (x.state = .opened → m.state = .opened))

theorem mergeWindows_opened (now : Pos) {a b : Window} (h : a.state = .opened ∨ b.state = .opened) :
    (mergeWindows now a b).state = .opened := by
  have : (a.isOpen || b.isOpen) = true := by
    rcases h with h | h <;> simp [Window.isOpen, h]
  simp [mergeWindows, this]

theorem absorb_absorbed (now : Pos) (n : Nat) (w : Window) (ws : List Window) :
    Absorbed w ws (absorb now n w ws).1 (absorb now n w ws).2 := by
  induction n generalizing w ws with
  | zero => exact ⟨rfl, rfl, List.Sublist.refl _, rfl, id, fun x hx => Or.inl hx⟩
  | succ n ih =>
    unfold absorb
    split
    · exact ⟨rfl, rfl, List.Sublist.refl _, rfl, id, fun x hx => Or.inl hx⟩
    · next x found =>
      obtain ⟨output, piece, left, spared, opened, kept⟩ :=
        ih (mergeWindows now w x) (ws.eraseP fun y => y.isGate && w.overlaps y)
      have gates : ∀ y ∈ ws, (y.isGate && w.overlaps y) = true → y.output = .gate := fun y _ h =>
        of_decide_eq_true (Bool.and_eq_true _ _ ▸ h).1
      have takes : (x.isGate && w.overlaps x) = true := (split_of_find? found).choose_spec.choose_spec.2.2.1
      refine ⟨output, piece, left.trans List.eraseP_sublist, spared.trans (spareGates_eraseP gates), fun h => opened ?_, fun y hy => ?_⟩
      · exact mergeWindows_opened now (Or.inl h)
      · by_cases e : y = x
        · subst e
          exact Or.inr ⟨gates y hy takes, fun h => opened (mergeWindows_opened now (Or.inr h))⟩
        · obtain ⟨front, back, split, _, _, erased⟩ := split_of_find? found
          refine kept y ?_
          rw [erased]
          rw [split] at hy
          simp only [List.mem_append, List.mem_cons] at hy ⊢
          tauto

theorem earliestOf_mem (w : Window) (ws : List Window) : earliestOf w ws ∈ w :: ws := by
  unfold earliestOf
  induction ws generalizing w with
  | nil => exact List.mem_singleton.mpr rfl
  | cons x ws ih =>
    rw [List.foldl_cons]
    split
    · exact List.mem_cons_of_mem _ (ih x)
    · rcases List.mem_cons.mp (ih w) with h | h
      · rw [h]; exact List.mem_cons_self ..
      · exact List.mem_cons_of_mem _ (List.mem_cons_of_mem _ h)

/-! ## Outputs stay driven -/

namespace FoldLane

variable {fl : FoldLane}

/-- Outputs stay driven when fire windows are placed and the outputs of those placed OPEN are asserted. -/
theorem driven_of_placed {ws : List Window} (driven : fl.driven) (folds : ∀ w ∈ ws, w.output ≠ .gate) : (fl.placeAll ws).driven := by
  obtain ⟨byFold, byGate, noPiece⟩ := driven
  refine ⟨fun f h => ?_, fun h => ?_, fun w hw gate => ?_⟩
  · have asserted : (fl.folds[f] || ws.any (·.drives f)) = true := by rw [← assertFolds_get]; exact h
    rcases Bool.or_eq_true _ _ ▸ asserted with h | h
    · obtain ⟨w, hw, drives⟩ := byFold f h
      exact ⟨w, List.mem_append_left _ hw, drives⟩
    · obtain ⟨w, hw, drives⟩ := List.any_eq_true.mp h
      exact ⟨w, List.mem_append_right _ hw, of_decide_eq_true drives⟩
  · rcases byGate h with h | ⟨w, hw, drives⟩
    · exact Or.inl h
    · exact Or.inr ⟨w, List.mem_append_left _ hw, drives⟩
  · rcases List.mem_append.mp hw with hw | hw
    · exact noPiece w hw gate
    · exact absurd gate (folds w hw)

theorem driven_placeGate {w : Window} (driven : fl.driven) (gate : w.output = .gate) (piece : w.piece = none) : (fl.placeGate w).driven := by
  obtain ⟨byFold, byGate, noPiece⟩ := driven
  refine ⟨fun f h => ?_, fun h => ?_, fun x hx _ => ?_⟩
  · obtain ⟨x, hx, drives⟩ := byFold f h
    exact ⟨x, List.mem_append_left _ hx, drives⟩
  · have asserted : (fl.gate || w.isOpen) = true := h
    rcases Bool.or_eq_true _ _ ▸ asserted with h | h
    · rcases byGate h with h | ⟨x, hx, drives⟩
      · exact Or.inl h
      · exact Or.inr ⟨x, List.mem_append_left _ hx, drives⟩
    · exact Or.inr ⟨w, List.mem_append_right _ (List.mem_singleton.mpr rfl), gate, of_decide_eq_true h⟩
  · rcases List.mem_append.mp hx with hx | hx
    · exact noPiece x hx ‹_›
    · rw [List.mem_singleton.mp hx]; exact piece

/-- What a merge of a gate window into the schedule leaves: `left` of the windows, and the window made last. -/
theorem mergeGate_absorbed (fl : FoldLane) (now : Pos) (w first : Window) (more : List Window) :
    ∃ m left, fl.mergeGate now w first more = { fl with windows := left ++ [m], gate := fl.gate || m.isOpen } ∧
      Absorbed (mergeWindows now (earliestOf first more) w) (fl.windows.erase (earliestOf first more)) m left :=
  ⟨_, _, rfl, absorb_absorbed ..⟩

/-- The window that a merge extends is a gate window of the schedule. -/
theorem earliest_gatesOver {w first : Window} {more : List Window} (meets : fl.gatesOver w = first :: more) :
    earliestOf first more ∈ fl.windows ∧ (earliestOf first more).output = .gate ∧ w.overlaps (earliestOf first more) = true := by
  have := earliestOf_mem first more
  rw [← meets, FoldLane.gatesOver, List.mem_filter, Bool.and_eq_true] at this
  exact ⟨this.1, of_decide_eq_true this.2.1, this.2.2⟩

theorem mergeGate_length {w first : Window} {more : List Window} (meets : fl.gatesOver w = first :: more) (now : Pos) :
    (fl.mergeGate now w first more).windows.length ≤ fl.windows.length := by
  obtain ⟨listed, _, _⟩ := earliest_gatesOver meets
  obtain ⟨m, left, made, absorbed⟩ := mergeGate_absorbed fl now w first more
  rw [made]
  have := absorbed.sublist.length_le
  rw [List.length_erase_of_mem listed] at this
  have := List.length_pos_of_mem listed
  simp only [List.length_append, List.length_singleton]
  omega

theorem driven_mergeGate {w first : Window} {more : List Window} (driven : fl.driven) (meets : fl.gatesOver w = first :: more) (now : Pos) :
    (fl.mergeGate now w first more).driven := by
  obtain ⟨byFold, byGate, noPiece⟩ := driven
  obtain ⟨listed, gate, _⟩ := earliest_gatesOver meets
  obtain ⟨m, left, made, absorbed⟩ := mergeGate_absorbed fl now w first more
  have made_gate : m.output = .gate := absorbed.output.trans gate
  have stays {x : Window} (hx : x ∈ fl.windows) : x ∈ left ∨ (x.output = .gate ∧ (x.state = .opened → m.state = .opened)) := by
    by_cases e : x = earliestOf first more
    · subst e
      exact Or.inr ⟨gate, fun h => absorbed.opened (mergeWindows_opened now (Or.inl h))⟩
    · exact absorbed.kept x ((List.mem_erase_of_ne e).mpr hx)
  rw [made]
  refine ⟨fun f h => ?_, fun h => ?_, fun x hx _ => ?_⟩
  · obtain ⟨x, hx, output, opened⟩ := byFold f h
    rcases stays hx with hx | ⟨isGate, _⟩
    · exact ⟨x, List.mem_append_left _ hx, output, opened⟩
    · rw [isGate] at output; cases output
  · have asserted : (fl.gate || m.isOpen) = true := h
    have last : m ∈ left ++ [m] := List.mem_append_right _ (List.mem_singleton.mpr rfl)
    rcases Bool.or_eq_true _ _ ▸ asserted with h | h
    · rcases byGate h with h | ⟨x, hx, output, opened⟩
      · exact Or.inl h
      · rcases stays hx with hx | ⟨_, opens⟩
        · exact Or.inr ⟨x, List.mem_append_left _ hx, output, opened⟩
        · exact Or.inr ⟨m, last, made_gate, opens opened⟩
    · exact Or.inr ⟨m, last, made_gate, of_decide_eq_true h⟩
  · rcases List.mem_append.mp hx with hx | hx
    · exact noPiece x (List.mem_of_mem_erase (absorbed.sublist.subset hx)) ‹_›
    · rw [List.mem_singleton.mp hx, absorbed.piece]
      exact noPiece (earliestOf first more) listed gate

theorem driven_dropPiece (driven : fl.driven) (n : RecordNo) : (fl.dropPiece n).driven := by
  obtain ⟨byFold, byGate, noPiece⟩ := driven
  have stays {w : Window} (hw : w ∈ fl.windows) (h : w.folds n = false) : w ∈ (fl.dropPiece n).windows :=
    List.mem_filter.mpr ⟨hw, by rw [h]; rfl⟩
  refine ⟨fun f h => ?_, fun h => ?_, fun w hw gate => noPiece w (List.mem_filter.mp hw).1 gate⟩
  · have kept : (fl.folds[f] && !(fl.windows.filter fun w => w.folds n).any (·.drives f)) = true := by
      rw [← releaseFolds_get]; exact h
    simp only [Bool.and_eq_true, Bool.not_eq_true', List.any_eq_false] at kept
    obtain ⟨w, hw, drives⟩ := byFold f kept.1
    refine ⟨w, stays hw ?_, drives⟩
    cases removed : w.folds n with
    | false => rfl
    | true => exact absurd (decide_eq_true drives) (kept.2 w (List.mem_filter.mpr ⟨hw, removed⟩))
  · rcases byGate h with h | ⟨w, hw, gate, opened⟩
    · exact Or.inl h
    · refine Or.inr ⟨w, stays hw ?_, gate, opened⟩
      simp [Window.folds, noPiece w hw gate]

/-! ### WINDOW_OPEN and WINDOW_END -/

@[simp] theorem drive_windows (fl : FoldLane) (o : Output) (b : Bool) : (fl.drive o b).windows = fl.windows := by cases o <;> rfl
@[simp] theorem drive_gateHold (fl : FoldLane) (o : Output) (b : Bool) : (fl.drive o b).gateHold = fl.gateHold := by cases o <;> rfl

/-- The first window that opens splits the schedule. -/
theorem openFirst_cases (o : Output) (now : Pos) (ws : List Window) :
    (openFirst o now ws = ws ∧ ∀ w ∈ ws, w.opensAt o now = false) ∨
      ∃ front w back, ws = front ++ w :: back ∧ (∀ x ∈ front, x.opensAt o now = false) ∧ w.opensAt o now = true ∧
        openFirst o now ws = front ++ { w with state := .opened } :: back := by
  induction ws with
  | nil => exact Or.inl ⟨rfl, fun w hw => absurd hw List.not_mem_nil⟩
  | cons w ws ih =>
    cases opens : w.opensAt o now with
    | true => exact Or.inr ⟨[], w, ws, rfl, fun x hx => absurd hx List.not_mem_nil, opens, by simp [openFirst, opens]⟩
    | false =>
      have step : openFirst o now (w :: ws) = w :: openFirst o now ws := by simp [openFirst, opens]
      rcases ih with ⟨same, nothing⟩ | ⟨front, x, back, split, before, opensX, after⟩
      · exact Or.inl ⟨by rw [step, same], List.forall_mem_cons.mpr ⟨opens, nothing⟩⟩
      · refine Or.inr ⟨w :: front, x, back, by rw [split]; rfl, List.forall_mem_cons.mpr ⟨opens, before⟩, opensX, ?_⟩
        rw [step, after]
        rfl

/-- Outputs stay driven when one window of the schedule opens and its line is asserted. -/
theorem driven_opened {front back : List Window} {w : Window} {o : Output} (driven : fl.driven) (windows : fl.windows = front ++ w :: back)
    (output : w.output = o) :
    ({ fl with windows := front ++ { w with state := .opened } :: back }.drive o true).driven := by
  obtain ⟨byFold, byGate, noPiece⟩ := driven
  have opened_mem : ({ w with state := .opened } : Window) ∈ front ++ { w with state := .opened } :: back :=
    List.mem_append_right _ (List.mem_cons_self ..)
  have stays {x : Window} (hx : x ∈ fl.windows) (h : x.state = .opened) : x ∈ front ++ { w with state := .opened } :: back := by
    rw [windows] at hx
    simp only [List.mem_append, List.mem_cons] at hx ⊢
    rcases hx with hx | rfl | hx
    · exact Or.inl hx
    · exact Or.inr (Or.inl (by rw [← h]))
    · exact Or.inr (Or.inr hx)
  have gates (x : Window) (hx : x ∈ front ++ { w with state := .opened } :: back) (gate : x.output = .gate) : x.piece = none := by
    simp only [List.mem_append, List.mem_cons] at hx
    rcases hx with hx | rfl | hx
    · exact noPiece x (by rw [windows]; exact List.mem_append_left _ hx) gate
    · exact noPiece w (by rw [windows]; exact List.mem_append_right _ (List.mem_cons_self ..)) gate
    · exact noPiece x (by rw [windows]; exact List.mem_append_right _ (List.mem_cons_of_mem _ hx)) gate
  cases o with
  | fold g =>
    refine ⟨fun f h => ?_, fun h => ?_, gates⟩
    · by_cases e : f = g
      · exact ⟨_, opened_mem, by rw [e]; exact output, rfl⟩
      · have asserted : (fl.folds.set g true)[f] = true := h
        rw [vector_get_set, if_neg e] at asserted
        obtain ⟨x, hx, drives⟩ := byFold f asserted
        exact ⟨x, stays hx drives.2, drives⟩
    · rcases byGate h with h | ⟨x, hx, drives⟩
      · exact Or.inl h
      · exact Or.inr ⟨x, stays hx drives.2, drives⟩
  | gate =>
    refine ⟨fun f h => ?_, fun _ => Or.inr ⟨_, opened_mem, output, rfl⟩, gates⟩
    obtain ⟨x, hx, drives⟩ := byFold f h
    exact ⟨x, stays hx drives.2, drives⟩

theorem keptBy_open (fl : FoldLane) (o : Output) (now : Pos) (due : fl.windows.any (fun w => w.opensAt o now) = true) :
    fl.KeptBy fun fl => { fl with windows := openFirst o now fl.windows }.drive o true := by
  rcases openFirst_cases o now fl.windows with ⟨_, nothing⟩ | ⟨front, w, back, windows, _, opens, after⟩
  · obtain ⟨w, hw, opens⟩ := List.any_eq_true.mp due
    rw [nothing w hw] at opens
    cases opens
  · have output : w.output = o := (of_decide_eq_true (Bool.and_eq_true _ _ ▸ opens).1).1
    refine ⟨drive_gateHold .., fun driven => ?_, fun room => ?_⟩
    · rw [after]
      exact driven_opened driven windows output
    · rw [drive_windows, after, List.length_append]
      rw [windows, List.length_append] at room
      exact room

/-- Outputs stay driven when one window leaves the schedule and its line is released. -/
theorem driven_ended {front back : List Window} {w : Window} (driven : fl.driven) (windows : fl.windows = front ++ w :: back) :
    ({ fl with windows := front ++ back }.releaseAfter w).driven := by
  obtain ⟨byFold, byGate, noPiece⟩ := driven
  have gates (x : Window) (hx : x ∈ front ++ back) (gate : x.output = .gate) : x.piece = none := by
    refine noPiece x ?_ gate
    rw [windows]
    simp only [List.mem_append, List.mem_cons] at hx ⊢
    tauto
  have stays {x : Window} (hx : x ∈ fl.windows) (other : x ≠ w) : x ∈ front ++ back := by
    rw [windows] at hx
    simp only [List.mem_append, List.mem_cons] at hx ⊢
    tauto
  unfold releaseAfter
  cases state : w.state with
  | waiting =>
    have other {x : Window} (opened : x.state = .opened) : x ≠ w := by
      rintro rfl
      rw [state] at opened
      cases opened
    refine ⟨fun f h => ?_, fun h => ?_, gates⟩
    · obtain ⟨x, hx, drives⟩ := byFold f h
      exact ⟨x, stays hx (other drives.2), drives⟩
    · rcases byGate h with h | ⟨x, hx, drives⟩
      · exact Or.inl h
      · exact Or.inr ⟨x, stays hx (other drives.2), drives⟩
  | opened =>
    cases output : w.output with
    | fold g =>
      refine ⟨fun f h => ?_, fun h => ?_, gates⟩
      · have asserted : (fl.folds.set g false)[f] = true := h
        rw [vector_get_set] at asserted
        split at asserted
        · cases asserted
        · next e =>
          obtain ⟨x, hx, drives⟩ := byFold f asserted
          refine ⟨x, stays hx ?_, drives⟩
          rintro rfl
          exact e (Output.fold.inj (drives.1.symm.trans output))
      · rcases byGate h with h | ⟨x, hx, drives⟩
        · exact Or.inl h
        · refine Or.inr ⟨x, stays hx ?_, drives⟩
          rintro rfl
          rw [output] at drives
          cases drives.1
    | gate =>
      refine ⟨fun f h => ?_, fun h => Or.inl h, gates⟩
      obtain ⟨x, hx, drives⟩ := byFold f h
      refine ⟨x, stays hx ?_, drives⟩
      rintro rfl
      rw [output] at drives
      cases drives.1

@[simp] theorem releaseAfter_windows (fl : FoldLane) (w : Window) : (fl.releaseAfter w).windows = fl.windows := by
  unfold releaseAfter
  split
  · rfl
  · split <;> exact drive_windows ..

@[simp] theorem releaseAfter_gateHold (fl : FoldLane) (w : Window) : (fl.releaseAfter w).gateHold = fl.gateHold := by
  unfold releaseAfter
  split
  · rfl
  · split <;> exact drive_gateHold ..

theorem keptBy_end (fl : FoldLane) {w : Window} {ends : Window → Bool} (found : fl.windows.find? ends = some w) :
    fl.KeptBy fun fl => { fl with windows := fl.windows.eraseP ends }.releaseAfter w := by
  obtain ⟨front, back, split, _, _, erased⟩ := split_of_find? found
  refine ⟨releaseAfter_gateHold .., fun driven => ?_, fun room => ?_⟩
  · rw [erased]
    exact driven_ended driven split
  · rw [releaseAfter_windows]
    exact (List.eraseP_sublist.length_le).trans room

theorem keptBy_dropPiece (fl : FoldLane) (n : RecordNo) : fl.KeptBy (·.dropPiece n) :=
  ⟨rfl, fun driven => driven_dropPiece driven n, fun room => (List.length_filter_le ..).trans room⟩

theorem keptBy_placeAll (fl : FoldLane) {ws : List Window} (folds : ∀ w ∈ ws, w.output ≠ .gate) (room : fl.noRoom ws = false) :
    fl.KeptBy (·.placeAll ws) := by
  refine ⟨rfl, fun driven => driven_of_placed driven folds, fun _ => ?_⟩
  have : ¬ Config.windowSlots < fl.windows.length + ws.length := of_decide_eq_false room
  show (fl.windows ++ ws).length ≤ _
  rw [List.length_append]
  omega

theorem keptBy_placeGate (fl : FoldLane) {w : Window} (gate : w.output = .gate) (piece : w.piece = none)
    (room : fl.windows.length < Config.windowSlots) : fl.KeptBy (·.placeGate w) := by
  refine ⟨rfl, fun driven => driven_placeGate driven gate piece, fun _ => ?_⟩
  show (fl.windows ++ [w]).length ≤ _
  rw [List.length_append]
  exact room

theorem keptBy_mergeGate (fl : FoldLane) {w first : Window} {more : List Window} (meets : fl.gatesOver w = first :: more) (now : Pos) :
    fl.KeptBy (·.mergeGate now w first more) :=
  ⟨rfl, fun driven => driven_mergeGate driven meets now, fun room => (mergeGate_length meets now).trans room⟩

end FoldLane

end Sys2Proof.Machine
end


section
/-! ## The events of a lane as moves -/

namespace Sys2Proof.Machine

/-! ### Record numbers -/

theorem mem_allLanes (l : LaneId) : l ∈ allLanes := by fin_cases l <;> decide

theorem State.poolWhole.nodup {s : State} (whole : s.poolWhole) : s.allNumbers.Nodup :=
  whole.nodup_iff.mpr (by decide)

theorem State.poolWhole.numbers_nodup {s : State} (whole : s.poolWhole) (l : LaneId) : (s.lane l).numbers.Nodup :=
  (List.nodup_flatMap.mp (List.nodup_append.mp whole.nodup).2.1).1 l (mem_allLanes l)

/-- A lane holds a record number once. -/
theorem State.poolWhole.unique {s : State} (whole : s.poolWhole) {l : LaneId} {r x : PieceRecord} (hr : r ∈ (s.lane l).inFlight)
    (hx : x ∈ (s.lane l).inFlight) (same : r.number = x.number) : r = x :=
  List.inj_on_of_nodup_map (whole.numbers_nodup l) hr hx same

theorem State.findRecord_mem {s : State} {l : LaneId} {n : RecordNo} {r : PieceRecord} (found : s.findRecord l n = some r) :
    r ∈ (s.lane l).inFlight ∧ r.number = n :=
  ⟨List.mem_of_find?_eq_some found, of_decide_eq_true (List.find?_some (p := fun r : PieceRecord => decide (r.number = n)) found)⟩

/-- In a whole pool a record of the lane is found by its number. -/
theorem State.poolWhole.findRecord {s : State} (whole : s.poolWhole) {l : LaneId} {r : PieceRecord} (hr : r ∈ (s.lane l).inFlight) :
    s.findRecord l r.number = some r := by
  cases found : s.findRecord l r.number with
  | none =>
    have := List.find?_eq_none.mp found r hr
    simp at this
  | some x =>
    obtain ⟨hx, same⟩ := State.findRecord_mem found
    rw [whole.unique hr hx same.symm]

/-- A gated record is not AT_EXIT (chapter 4). -/
theorem State.exitsCoherent.gated_away {s : State} (exits : s.exitsCoherent) (whole : s.poolWhole) {l : LaneId} {r : PieceRecord}
    (hr : r ∈ (s.lane l).inFlight) (gated : r.retirePosition.isSome = true) : r.phase ≠ .atExit := by
  intro atExit
  obtain ⟨matched, listed, _⟩ := exits l
  obtain ⟨_, x, hx, same, _, ungated⟩ := matched r.number (listed r hr atExit).1
  rw [whole.unique hr hx same.symm, ungated] at gated
  cases gated

/-! ### Records stay on their way -/

theorem State.onItsWay_of_inFlight {s t : State} {l : LaneId} {n : RecordNo} (same : (t.lane l).inFlight = (s.lane l).inFlight)
    (away : s.onItsWay l n) : t.onItsWay l n := by
  unfold State.onItsWay
  rw [same]
  exact away

theorem State.modRecord_inFlight (s : State) (l : LaneId) (n : RecordNo) (f : PieceRecord → PieceRecord) :
    ((s.modRecord l n f).lane l).inFlight = (s.lane l).inFlight.map fun r => if r.number = n then f r else r := by
  unfold State.modRecord
  rw [State.modLane_lane_same]

/-- A search by number after a change of one record that keeps numbers. -/
theorem State.findRecord_modRecord (s : State) (l : LaneId) (n m : RecordNo) (f : PieceRecord → PieceRecord)
    (number : ∀ r, (f r).number = r.number) :
    (s.modRecord l n f).findRecord l m = (s.findRecord l m).map fun r => if r.number = n then f r else r := by
  unfold State.findRecord
  rw [State.modRecord_inFlight, List.find?_map]
  congr 2
  funext r
  simp only [Function.comp_apply]
  split
  · rw [number]
  · rfl

theorem State.findRecord_modSched (s : State) (l : LaneId) (n : RecordNo) (f : FoldLane → FoldLane) :
    (s.modSched l f).findRecord l n = s.findRecord l n := by
  unfold State.findRecord State.modSched
  rw [State.modLane_lane_same]

theorem State.onItsWay_modRecord {s : State} {l : LaneId} {n m : RecordNo} {f : PieceRecord → PieceRecord} (away : s.onItsWay l n)
    (number : ∀ r, (f r).number = r.number) (phase : ∀ r, r.phase ≠ .atExit → (f r).phase ≠ .atExit) :
    (s.modRecord l m f).onItsWay l n := by
  intro r hr same
  rw [State.modRecord_inFlight] at hr
  obtain ⟨x, hx, rfl⟩ := List.mem_map.mp hr
  by_cases changed : x.number = m
  · rw [if_pos changed] at same ⊢
    rw [number] at same
    exact phase x (away x hx same)
  · rw [if_neg changed] at same ⊢
    exact away x hx same

/-! ### Reports and faults -/

namespace LaneMoves

variable {l : LaneId} {s : State}

theorem one {t : State} (h : LaneMove l s t) : LaneMoves l s t := Relation.ReflTransGen.single h

theorem refl (l : LaneId) (s : State) : LaneMoves l s s := Relation.ReflTransGen.refl

theorem trans {t u : State} (h : LaneMoves l s t) (k : LaneMoves l t u) : LaneMoves l s u := Relation.ReflTransGen.trans h k

theorem quiet {t : State} (h : Quiet s t) : LaneMoves l s t :=
  one (.inert h.inert (by rw [h.lanes l]) (by rw [h.lanes l]) (by rw [h.lanes l]))

/-- An inert change of the lane that keeps its settings. -/
theorem modLane (f : Lane → Lane) (h : (s.lane l).Inert (f (s.lane l))) (held : (f (s.lane l)).held = (s.lane l).held)
    (ringStart : (f (s.lane l)).ringStart = (s.lane l).ringStart) (cursor : (f (s.lane l)).cursor = (s.lane l).cursor) :
    LaneMoves l s (s.modLane l f) := by
  refine one (.inert (Inert.modLane s l f h) ?_ ?_ ?_) <;> rw [State.modLane_lane_same]
  · exact held
  · exact ringStart
  · exact cursor

theorem modEntry (l : LaneId) (s : State) (f : EntrySensor → EntrySensor) : LaneMoves l s (s.modEntry l f) := modLane _ rfl rfl rfl rfl

/-- A change of the Exit Unit's pins and checks. -/
theorem modExit (f : ExitUnit → ExitUnit) (h : f (s.lane l).exit = { f (s.lane l).exit with
    level := (s.lane l).exit.level, arrival := (s.lane l).exit.arrival, route := (s.lane l).exit.route }) :
    LaneMoves l s (s.modExit l f) := by
  refine modLane _ ?_ rfl rfl rfl
  unfold Lane.Inert
  dsimp only
  rw [h]

theorem raise (l : LaneId) (s : State) (w : Warning) (n : Option LaneId) : LaneMoves l s (s.raise w n) := quiet (Quiet.raise s w n)

theorem addLaneCounter (l : LaneId) (s : State) {k : Nat} (h : k ≤ 16) (n : Nat) : LaneMoves l s (s.addLaneCounter l k n) :=
  one (.inert (Inert.addLaneCounter s l h n) rfl rfl rfl)

theorem reportFault (l : LaneId) (s : State) (f : LaneFault) : LaneMoves l s (s.reportFault l f) := by
  have purged (passes : (s.lane l).mode.passes = true) : LaneMoves l s (s.purge l f) := one (.purge f passes)
  unfold State.reportFault
  split
  · exact refl l s
  · exact raise l s _ _
  all_goals next mode => exact purged (by rw [mode]; rfl)

/-! ### Retirement and tokens -/

/-- A change of a record that keeps its number, its tokens, its phase, its destination and its retire position. -/
theorem modRecord (n : RecordNo) (f : PieceRecord → PieceRecord) (number : ∀ r, (f r).number = r.number)
    (tokens : ∀ r, (f r).tokens = r.tokens) (phase : ∀ r, (f r).phase = r.phase) (destination : ∀ r, (f r).destination = r.destination)
    (retirePosition : ∀ r, (f r).retirePosition = r.retirePosition) : LaneMoves l s (s.modRecord l n f) :=
  one (.record n f (fun _ r _ _ => ⟨number r, tokens r, fun away => by rw [phase]; exact away,
    fun atExit => ⟨by rw [phase]; exact atExit, destination r, retirePosition r⟩⟩) number tokens)

theorem retireAtGate (l : LaneId) (s : State) : LaneMoves l s (s.retireAtGate l) := by
  unfold State.retireAtGate
  split
  · next r found =>
    refine one (.retire r.number .rejected fun whole exits x hx same => ?_)
    obtain ⟨front, back, _, _, due, _⟩ := split_of_find? found
    have hr : r ∈ (s.lane l).inFlight := List.mem_of_find?_eq_some found
    have gated : r.retirePosition.isSome = true := by
      unfold PieceRecord.retireDue at due
      split at due
      · next e => rw [e]; rfl
      · cases due
    rw [whole.unique hx hr same]
    exact exits.gated_away whole hr gated
  · exact refl l s

theorem expireToken (l : LaneId) (s : State) : LaneMoves l s (s.expireToken l) := by
  unfold State.expireToken
  split
  · next q found =>
    obtain ⟨front, rest, queue, _, _, erased⟩ := split_of_find? found
    have removed : s.removeExpired l = s.modLane l fun L => { L with tokens := front ++ rest } :=
      State.modLane_congr (by rw [erased])
    rw [removed]
    exact (one (.loseToken q front rest queue)).trans (raise l _ _ _)
  · exact refl l s

/-! ### The Fold Scheduler -/

theorem gateRecord (n : RecordNo) (p : Pos) (away : s.poolWhole → s.onItsWay l n) : LaneMoves l s (s.gateRecord l n p) := by
  have gated : LaneMove l s (s.modRecord l n fun r => { r with retirePosition := some p }) :=
    .record n _ (fun whole r hr same => ⟨rfl, rfl, fun _ => away whole r hr same, fun atExit => absurd atExit (away whole r hr same)⟩)
      (fun _ => rfl) fun _ => rfl
  unfold State.gateRecord
  dsimp only
  split
  · refine (one gated).trans (one (.retire n .rejected fun whole exits r hr same => ?_))
    have listed := hr
    rw [State.modRecord_inFlight] at listed
    obtain ⟨x, _, rfl⟩ := List.mem_map.mp listed
    split at same
    · next isN =>
      rw [if_pos isN] at hr ⊢
      exact exits.gated_away whole hr rfl
    · next isN => exact absurd same isN
  · exact one gated

/-- A record in flight rules out FAULTED, where the lane is empty (R157). -/
theorem unfaulted_of_record {n : RecordNo} {r : PieceRecord} (found : s.findRecord l n = some r) (faults : s.faultsCoherent) :
    (s.lane l).mode ≠ .faulted := fun faulted => by
  have := (State.findRecord_mem found).1
  rw [((faults l).2 faulted).2.1] at this
  cases this

/-- A change of records that keeps their numbers keeps the pool. -/
theorem poolWhole_setVerdict {n : RecordNo} {v : Verdict} (h : (s.setVerdict l n v).poolWhole) : s.poolWhole := by
  have numbers (m : LaneId) : ((s.setVerdict l n v).lane m).numbers = (s.lane m).numbers := by
    unfold State.setVerdict State.modRecord
    rw [State.modLane_lane]
    split
    · next e =>
      subst e
      simp only [Lane.numbers, List.map_map]
      refine List.map_congr_left fun r _ => ?_
      simp only [Function.comp_apply]
      split <;> rfl
    · rfl
  unfold State.poolWhole State.allNumbers at h
  simp only [numbers] at h
  exact h

theorem poolWhole_modSched {f : FoldLane → FoldLane} (h : (s.modSched l f).poolWhole) : s.poolWhole := by
  have numbers (m : LaneId) : ((s.modSched l f).lane m).numbers = (s.lane m).numbers := by
    unfold State.modSched
    rw [State.modLane_lane]
    split
    · next e => rw [e]; rfl
    · rfl
  unfold State.poolWhole State.allNumbers at h
  simp only [numbers] at h
  exact h

theorem tryReject (n : RecordNo) (now : Pos) {w : Window} (gate : w.output = .gate) (piece : w.piece = none)
    (away : s.poolWhole → s.onItsWay l n) (unfaulted : s.faultsCoherent → (s.lane l).mode ≠ .faulted) :
    LaneMoves l s (s.tryReject l n now w) := by
  have onward (f : FoldLane → FoldLane) (p : Pos) : LaneMoves l (s.modSched l f) ((s.modSched l f).gateRecord l n p) :=
    gateRecord n p fun whole => State.onItsWay_of_inFlight (by unfold State.modSched; rw [State.modLane_lane_same])
      (away (poolWhole_modSched whole))
  unfold State.tryReject
  split
  · exact modRecord n _ (fun _ => rfl) (fun _ => rfl) (fun _ => rfl) (fun _ => rfl) fun _ => rfl
  · split
    · next meets => exact (one (.sched _ (FoldLane.keptBy_mergeGate _ meets now) unfaulted)).trans (onward _ _)
    · split
      · next room => exact (one (.sched _ (FoldLane.keptBy_placeGate _ gate piece room) unfaulted)).trans (onward _ _)
      · exact reportFault l s _

theorem giveReject (n : RecordNo) (now : Pos) (away : s.poolWhole → s.onItsWay l n) : LaneMoves l s (s.giveReject l n now) := by
  unfold State.giveReject
  split
  · next found => exact tryReject n now rfl rfl away (unfaulted_of_record found)
  · exact refl l s

theorem setVerdict (n : RecordNo) (v : Verdict) : LaneMoves l s (s.setVerdict l n v) :=
  modRecord n _ (fun _ => rfl) (fun _ => rfl) (fun _ => rfl) (fun _ => rfl) fun _ => rfl

theorem foldWindows_output {r : PieceRecord} {now : Pos} : ∀ w ∈ s.foldWindows l r now, w.output ≠ .gate := by
  intro w hw
  unfold State.foldWindows at hw
  split at hw
  · cases hw
  · obtain ⟨st, _, rfl⟩ := List.mem_map.mp hw
    exact Output.noConfusion

theorem scheduleFolds {r : PieceRecord} (found : s.findRecord l r.number = some r) (now : Pos) (away : s.onItsWay l r.number) :
    LaneMoves l s (s.scheduleFolds l r now) := by
  unfold State.scheduleFolds
  split
  · exact (setVerdict r.number _).trans
      (giveReject r.number now fun _ => State.onItsWay_modRecord away (fun _ => rfl) fun _ => id)
  · next fits =>
    have room : (s.lane l).sched.noRoom (s.foldWindows l r now) = false := by
      unfold State.foldRefusal at fits
      split at fits
      · cases fits
      · split at fits
        · cases fits
        · split at fits
          · cases fits
          · next h => exact Bool.eq_false_iff.mpr h
    exact one (.sched _ (FoldLane.keptBy_placeAll _ foldWindows_output room) (unfaulted_of_record found))

theorem scheduleRecord (n : RecordNo) (now : Pos) (away : s.onItsWay l n) : LaneMoves l s (s.scheduleRecord l n now) := by
  unfold State.scheduleRecord
  split
  · exact refl l s
  · next r found =>
    obtain ⟨_, rfl⟩ := State.findRecord_mem found
    split
    · exact scheduleFolds found now away
    · exact scheduleFolds found now away
    · exact giveReject _ now fun _ => away
    · exact refl l s

theorem openWindow (o : Output) (due : s.windowOpenDue l o = true) : LaneMoves l s (s.openWindow l o) := by
  refine one (.windows _ (FoldLane.keptBy_open _ o _ due) fun empty => ?_)
  unfold State.windowOpenDue at due
  rw [empty] at due
  cases due

theorem endWindow (l : LaneId) (s : State) (o : Output) : LaneMoves l s (s.endWindow l o) := by
  unfold State.endWindow
  split
  · next found =>
    refine one (.windows _ (FoldLane.keptBy_end _ found) fun empty => ?_)
    rw [empty] at found
    cases found
  · exact refl l s

/-- A record under an OPEN window spoiled at a stop notice (R79, R80). -/
theorem spoil (l : LaneId) (s : State) (n : RecordNo) : LaneMoves l s (s.spoil l n) := by
  unfold State.spoil
  split
  · exact refl l s
  · next r found =>
    obtain ⟨listed, rfl⟩ := State.findRecord_mem found
    dsimp only
    have dropped : LaneMoves l s (s.modSched l fun fl => fl.dropPiece r.number) :=
      one (.windows _ (FoldLane.keptBy_dropPiece _ _) fun empty => by simp [FoldLane.dropPiece, empty, releaseFolds]; rw [← empty])
    refine dropped.trans ((setVerdict r.number (.reject .spoiled)).trans ?_)
    split
    · next atExit =>
      refine one (.reroute r { r with verdict := some (.reject .spoiled) } ?_ atExit ⟨rfl, rfl⟩)
      rw [State.setVerdict, State.findRecord_modRecord, State.findRecord_modSched, found]
      · simp
      · exact fun _ => rfl
    · next away =>
      refine giveReject r.number _ fun whole => ?_
      have onWay : (s.modSched l fun fl => fl.dropPiece r.number).onItsWay l r.number :=
        State.onItsWay_of_inFlight (s := s) (by rw [State.modSched, State.modLane_lane_same]) fun x hx same => by
          rw [(poolWhole_modSched (poolWhole_setVerdict whole)).unique hx listed same]
          exact away
      exact State.onItsWay_modRecord onWay (fun _ => rfl) fun _ => id

/-! ### The Entry Sensor -/

theorem entryEyeChange (l : LaneId) (s : State) (level : Level) : LaneMoves l s (s.entryEyeChange l level) := by
  unfold State.entryEyeChange
  split
  · exact modEntry l s _
  · refine (modEntry l s fun e => { e with rawLevel := level }).trans ?_
    have changed : s.setEntryRaw l level = s.modEntry l fun e => { e with rawLevel := level } := rfl
    rw [← changed]
    unfold State.entryRawChanged
    repeat' split
    · exact modEntry l _ _
    · exact refl l _
    · exact (modEntry l _ _).trans (reportFault l _ _)
    · exact modEntry l _ _
    · exact refl l _

theorem leadingEdge (lead : Pos) (passes : (s.lane l).mode.passes = true) : LaneMoves l s (s.leadingEdge l lead) := by
  unfold State.leadingEdge
  split
  · exact reportFault l s _
  · next n rest free =>
    have appended : LaneMoves l s (s.appendRecord l n lead) := one (.append n lead rest free passes)
    split
    · exact appended.trans ((addLaneCounter l _ (by decide) _).trans (raise l _ _ _))
    · exact appended

@[simp] theorem State.modEntry_mode (s : State) (l : LaneId) (f : EntrySensor → EntrySensor) :
    ((s.modEntry l f).lane l).mode = (s.lane l).mode := by
  unfold State.modEntry
  rw [State.modLane_lane_same]

theorem takeGap (l : LaneId) (s : State) (lead : Pos) :
    LaneMoves l s (s.takeGap l lead) ∧ ((s.takeGap l lead).lane l).mode = (s.lane l).mode := by
  unfold State.takeGap
  split
  · exact ⟨refl l s, rfl⟩
  · exact ⟨modEntry l s _, State.modEntry_mode s l _⟩

theorem entryLeading (l : LaneId) (s : State) (lead : Pos) : LaneMoves l s (s.entryLeading l lead) := by
  unfold State.entryLeading
  split
  · next passes =>
    obtain ⟨gap, mode⟩ := takeGap l (s.openPiece l lead) lead
    have opened : LaneMoves l s (s.openPiece l lead) := modEntry l s _
    refine opened.trans (gap.trans (leadingEdge lead ?_))
    rw [mode, State.openPiece, State.modEntry_mode]
    exact passes
  · exact refl l s

/-- The record that enters is the last of the lane's list. -/
theorem enteringRecord_some {n : RecordNo} (h : s.enteringRecord l = some n) :
    ∃ front r, (s.lane l).inFlight = front ++ [r] ∧ r.phase = .entering ∧ r.number = n := by
  unfold State.enteringRecord at h
  split at h
  · next r last =>
    split at h
    · next entering =>
      obtain ⟨front, split⟩ := List.getLast?_eq_some_iff.mp last
      exact ⟨front, r, split, entering, Option.some.inj h⟩
    · cases h
  · cases h

theorem measure {n : RecordNo} (entering : s.enteringRecord l = some n) (length width : Nat) :
    LaneMoves l s (s.measure l n length width) := by
  obtain ⟨front, r, split, phase, rfl⟩ := enteringRecord_some entering
  refine one (.record _ _ (fun whole x hx same => ?_) (fun _ => rfl) fun _ => rfl)
  have listed : r ∈ (s.lane l).inFlight := by rw [split]; exact List.mem_append_right _ (List.mem_singleton.mpr rfl)
  rw [whole.unique hx listed same]
  exact ⟨rfl, rfl, fun _ => Phase.noConfusion, fun atExit => absurd (phase.symm.trans atExit) (by decide)⟩

theorem onItsWay_measure (s : State) (l : LaneId) (n : RecordNo) (length width : Nat) : (s.measure l n length width).onItsWay l n := by
  intro r hr same
  rw [State.measure, State.modRecord_inFlight] at hr
  obtain ⟨x, _, rfl⟩ := List.mem_map.mp hr
  by_cases isN : x.number = n
  · rw [if_pos isN]; exact Phase.noConfusion
  · rw [if_neg isN] at same; exact absurd same isN

/-- A step of the trailing edge on the record, as moves that leave it on its way. -/
theorem withRecord {n : RecordNo} {f : State → PieceRecord → State}
    (step : ∀ r : PieceRecord, s.findRecord l n = some r → r.number = n → LaneMoves l s (f s r) ∧ (f s r).onItsWay l n)
    (away : s.onItsWay l n) : LaneMoves l s (s.withRecord l n f) ∧ (s.withRecord l n f).onItsWay l n := by
  unfold State.withRecord
  split
  · next r found => exact step r found (State.findRecord_mem found).2
  · exact ⟨refl l s, away⟩

theorem tryStray {r : PieceRecord} (away : s.onItsWay l r.number) :
    LaneMoves l s (s.tryStray l r) ∧ (s.tryStray l r).onItsWay l r.number := by
  unfold State.tryStray
  split
  · exact ⟨modRecord _ _ (fun _ => rfl) (fun _ => rfl) (fun _ => rfl) (fun _ => rfl) fun _ => rfl,
      State.onItsWay_modRecord away (fun _ => rfl) fun _ => id⟩
  · exact ⟨refl l s, away⟩

theorem takeDouble {r : PieceRecord} (away : s.onItsWay l r.number) (found : s.findRecord l r.number = some r) :
    LaneMoves l s (s.takeDouble l r) ∧ (s.takeDouble l r).onItsWay l r.number := by
  refine ⟨one (.double r (fun _ => away) found), ?_⟩
  unfold State.takeDouble
  split
  · refine State.onItsWay_of_inFlight ?_ (State.onItsWay_modRecord (m := r.number)
      (f := fun x => { x with tokens := x.tokens ++ (s.headToken l).toList }) away (fun _ => rfl) fun _ => id)
    unfold State.popToken
    rw [State.modLane_lane_same]
  · exact away

theorem judge (n : RecordNo) : LaneMoves l s (s.judge l n) :=
  modRecord n _ (fun _ => rfl) (fun _ => rfl) (fun _ => rfl) (fun _ => rfl) fun _ => rfl

theorem trailingEdge (l : LaneId) (s : State) (length width : Nat) (now : Pos) : LaneMoves l s (s.trailingEdge l length width now) := by
  unfold State.trailingEdge
  split
  · exact refl l s
  · next n entering =>
    dsimp only
    obtain ⟨strays, away⟩ := withRecord (f := fun t r => t.tryStray l r) (fun r _ e => by subst e; exact tryStray (onItsWay_measure s l _ length width))
      (onItsWay_measure s l n length width)
    obtain ⟨doubles, away⟩ := withRecord (f := fun t r => t.takeDouble l r) (fun r found e => by subst e; exact takeDouble away found) away
    refine (measure entering length width).trans (strays.trans (doubles.trans ?_))
    exact (judge n).trans (scheduleRecord n now (State.onItsWay_modRecord away (fun _ => rfl) fun _ => id))

theorem entryTrailing (l : LaneId) (s : State) (c : PendingChange) (width : Nat) : LaneMoves l s (s.entryTrailing l c width) := by
  unfold State.entryTrailing
  repeat' split
  · exact (modEntry l s _).trans (trailingEdge l _ _ _ _)
  · exact modEntry l s _
  · exact refl l s

theorem entryEyeConfirm (l : LaneId) (s : State) : LaneMoves l s (s.entryEyeConfirm l) := by
  unfold State.entryEyeConfirm
  split
  · unfold State.confirmEntry
    split
    · exact (modEntry l s _).trans (entryLeading l _ _)
    · exact (modEntry l s _).trans (entryTrailing l _ _ _)
  · exact refl l s

theorem blockedTargetReached (l : LaneId) (s : State) : LaneMoves l s (s.blockedTargetReached l) := by
  unfold State.blockedTargetReached
  split
  · exact modEntry l s _
  · exact reportFault l s _

/-! ### The Exit Unit -/

theorem exitEyeChange (l : LaneId) (s : State) (level : Level) : LaneMoves l s (s.exitEyeChange l level) := by
  have discards (t : State) : LaneMoves l t (t.modExit l ExitUnit.discard) := modExit _ rfl
  unfold State.exitEyeChange
  split
  · exact modExit _ rfl
  · have raised : LaneMoves l s (s.setExitRaw l level) := modExit _ rfl
    refine raised.trans ?_
    unfold State.exitRawChanged
    repeat' split
    · exact modExit _ rfl
    · exact refl l _
    · exact (discards _).trans (reportFault l _ _)
    · exact discards _
    · exact refl l _

/-- What a change of the Exit Unit leaves of a lane. -/
theorem State.modExit_lane (s : State) (l : LaneId) (f : ExitUnit → ExitUnit) :
    (s.modExit l f).lane l = { s.lane l with exit := f (s.lane l).exit } := by
  unfold State.modExit
  rw [State.modLane_lane_same]

theorem exitEyeConfirm (l : LaneId) (s : State) : LaneMoves l s (s.exitEyeConfirm l) := by
  unfold State.exitEyeConfirm
  split
  · next c due =>
    have differs : (s.lane l).exit.rawLevel ≠ (s.lane l).exit.level := by
      unfold State.dueExitChange dueChange at due
      split at due
      · split at due
        · next h => exact h.1
        · cases due
      · cases due
    unfold State.confirmExit
    dsimp only
    split
    · next passes =>
      have accepted : ((s.modExit l ExitUnit.accept).lane l).mode = (s.lane l).mode := by rw [State.modExit_lane]
      split
      · next covers =>
        have clear : (s.lane l).exit.level = .clear := by
          cases level : (s.lane l).exit.level with
          | clear => rfl
          | covered => exact absurd (covers.trans level.symm) differs
        unfold State.exitLeading
        split
        · next r found =>
          unfold State.matching at found
          split at found
          · next candidate =>
            split at found
            · next travels =>
              cases found
              refine one (.arrive _ _ covers clear passes ?_ travels.1)
              unfold State.candidate at candidate ⊢
              rw [State.modExit_lane] at candidate
              exact candidate
            · cases found
          · cases found
        · have phantom := one (.phantom c.start covers clear passes : LaneMove l s _)
          split
          · exact phantom.trans (reportFault l _ _)
          · exact phantom
      · next clears => exact one (.depart clears passes)
    · next stays => exact one (.exitLevel _ rfl rfl (Bool.eq_false_iff.mpr stays))
  · exact refl l s

theorem missingTargetReached (l : LaneId) (s : State) : LaneMoves l s (s.missingTargetReached l) := by
  unfold State.missingTargetReached
  split
  · exact modExit _ rfl
  · exact reportFault l s _

theorem exitBlockedTargetReached (l : LaneId) (s : State) : LaneMoves l s (s.exitBlockedTargetReached l) := by
  unfold State.exitBlockedTargetReached
  split
  · exact modExit _ rfl
  · exact reportFault l s _

/-- Where a lane's event comes about, it is made of moves of the lane. -/
theorem after {c : Instr} (own : laneOf c = some l) (due : s.due c = true) : LaneMoves l s (s.after c) := by
  cases c with
  | entryEyeChange m level => cases own; exact entryEyeChange l s level
  | widthBeamChange m beams => cases own; exact modEntry l s fun e => e.beamsChanged beams
  | entryEyeConfirm m => cases own; exact entryEyeConfirm l s
  | blockedTargetReached m => cases own; exact blockedTargetReached l s
  | tokenExpiry m => cases own; exact expireToken l s
  | retirePositionReached m => cases own; exact retireAtGate l s
  | windowOpen m o => cases own; exact openWindow o due
  | windowEnd m o => cases own; exact endWindow l s o
  | exitEyeChange m level => cases own; exact exitEyeChange l s level
  | exitEyeConfirm m => cases own; exact exitEyeConfirm l s
  | missingTargetReached m => cases own; exact missingTargetReached l s
  | exitBlockedTargetReached m => cases own; exact exitBlockedTargetReached l s
  | _ => cases own

end LaneMoves

end Sys2Proof.Machine
end


section
/-!
# The words of the lot ring's entries

What the status field and the flags of a word 0 are after a status is set or an entry is written back, and which words of the entries each
write of the Lot Sequencer changes.
-/

namespace Sys2Proof.Machine

/-! ## Word 0 -/

/-- The bits of a word 0 after its status is set: the three low bits are the status code's, the others stay. -/
theorem getLsbD_withStatus (w : Word) (st : EntryStatus) (i : Nat) :
    (withStatus w st).getLsbD i = if i < 3 then st.code.testBit i else w.getLsbD i := by
  have code (i : Nat) : (wordOf st.code).getLsbD i = (decide (i < 3) && st.code.testBit i) := by
    rw [wordOf, BitVec.getLsbD_ofNat]
    by_cases low : i < 3
    · simp [low, show i < 16 by omega]
    · have : st.code.testBit i = false := by
        apply Nat.testBit_lt_two_pow
        have : 2 ^ 3 ≤ 2 ^ i := Nat.pow_le_pow_right (by decide) (by omega)
        cases st <;> simp only [EntryStatus.code] <;> omega
      simp [this]
  have mask (i : Nat) : (0xFFF8#16).getLsbD i = decide (3 ≤ i ∧ i < 16) := by
    by_cases low : i < 16
    · interval_cases i <;> rfl
    · rw [BitVec.getLsbD_of_ge _ _ (by omega), decide_eq_false (by omega)]
  rw [withStatus, BitVec.getLsbD_or, BitVec.getLsbD_and, mask, code]
  by_cases low : i < 3
  · simp [low, show ¬ 3 ≤ i by omega]
  · by_cases high : i < 16
    · simp [low, high, show 3 ≤ i by omega]
    · simp [low, high, BitVec.getLsbD_of_ge w i (by omega)]

/-- The low three bits of a word, as the status field reads them. -/
theorem lowBits_of_getLsbD {w v : Word} (h : ∀ i < 3, w.getLsbD i = v.getLsbD i) : w.extractLsb' 0 3 = v.extractLsb' 0 3 := by
  apply BitVec.eq_of_getLsbD_eq
  intro i hi
  rw [BitVec.getLsbD_extractLsb', BitVec.getLsbD_extractLsb', Nat.zero_add, h i hi]

theorem statusField_withStatus (w : Word) (st : EntryStatus) : statusField (withStatus w st) = some st := by
  have low : (withStatus w st).extractLsb' 0 3 = (wordOf st.code).extractLsb' 0 3 := by
    refine lowBits_of_getLsbD fun i hi => ?_
    rw [getLsbD_withStatus, if_pos hi, wordOf, BitVec.getLsbD_ofNat, decide_eq_true (by omega), Bool.true_and]
  rw [statusField, low]
  cases st <;> rfl

/-- The mask that clears VALID. -/
theorem getLsbD_clearValid (w : Word) (i : Nat) : (w &&& 0xFEFF#16).getLsbD i = (w.getLsbD i && decide (i ≠ 8)) := by
  have mask (i : Nat) : (0xFEFF#16).getLsbD i = decide (i ≠ 8 ∧ i < 16) := by
    by_cases low : i < 16
    · interval_cases i <;> rfl
    · rw [BitVec.getLsbD_of_ge _ _ (by omega), decide_eq_false (by omega)]
  rw [BitVec.getLsbD_and, mask]
  by_cases high : i < 16
  · simp [high]
  · simp [BitVec.getLsbD_of_ge w i (by omega)]

theorem statusField_writtenBack (w : Word) (st : EntryStatus) : statusField (withStatus w st &&& 0xFEFF#16) = some st := by
  have low : (withStatus w st &&& 0xFEFF#16).extractLsb' 0 3 = (withStatus w st).extractLsb' 0 3 := by
    refine lowBits_of_getLsbD fun i hi => ?_
    rw [getLsbD_clearValid, decide_eq_true (show i ≠ 8 by omega), Bool.and_true]
  rw [statusField, low]
  exact statusField_withStatus w st

/-! ## Words after writes -/

namespace State

variable {s : State} {e f : EntryId} {j k : Nat}

theorem entryWord_setEntryWord_same (wf : s.memWf) (e : EntryId) (k : Nat) (w : Word) :
    (s.setEntryWord e k w).entryWord e k = w := State.word_setWord_same s wf 4 _ w

theorem entryWord_setEntryWord_other (w : Word) (hj : j < 12) (hk : k < 12) (other : f ≠ e ∨ j ≠ k) :
    (s.setEntryWord e k w).entryWord f j = s.entryWord f j := by
  refine State.word_setWord_other s w fun same => ?_
  obtain ⟨rfl, rfl⟩ := entryAddress_inj hj hk same
  simp at other

theorem setEntryWord_memWf (wf : s.memWf) (hk : k < 12) (w : Word) : (s.setEntryWord e k w).memWf :=
  State.setWord_wf wf (by decide) (by omega) w

theorem entryStatus_of_word {t : State} (h : t.entryWord e 0 = s.entryWord e 0) : t.entryStatus e = s.entryStatus e := by
  unfold State.entryStatus
  rw [h]

theorem entryStatus_setEntryStatus_same (wf : s.memWf) (e : EntryId) (st : EntryStatus) :
    (s.setEntryStatus e st).entryStatus e = some st := by
  unfold State.entryStatus State.setEntryStatus
  rw [entryWord_setEntryWord_same wf, statusField_withStatus]

theorem entryWord_setEntryStatus_other (st : EntryStatus) (hj : j < 12) (other : f ≠ e ∨ j ≠ 0) :
    (s.setEntryStatus e st).entryWord f j = s.entryWord f j := entryWord_setEntryWord_other _ hj (by decide) other

theorem entryStatus_setEntryStatus_other (st : EntryStatus) (other : f ≠ e) :
    (s.setEntryStatus e st).entryStatus f = s.entryStatus f :=
  entryStatus_of_word (entryWord_setEntryStatus_other st (by decide) (Or.inl other))

theorem setEntryStatus_memWf (wf : s.memWf) (e : EntryId) (st : EntryStatus) : (s.setEntryStatus e st).memWf :=
  setEntryWord_memWf wf (by decide) _

theorem entryWord_bumpEntry_same (wf : s.memWf) (e : EntryId) (k : Nat) : (s.bumpEntry e k).entryWord e k = s.entryWord e k + 1 :=
  State.word_addWord_same s wf 4 _ 1

theorem entryWord_bumpEntry_other (hj : j < 12) (hk : k < 12) (other : f ≠ e ∨ j ≠ k) :
    (s.bumpEntry e k).entryWord f j = s.entryWord f j := entryWord_setEntryWord_other _ hj hk other

theorem bumpEntry_memWf (wf : s.memWf) (e : EntryId) (hk : k < 12) : (s.bumpEntry e k).memWf := setEntryWord_memWf wf hk _

theorem entryStatus_writeBackEntry_same (wf : s.memWf) (e : EntryId) (st : EntryStatus) :
    (s.writeBackEntry e st).entryStatus e = some st := by
  unfold State.entryStatus State.writeBackEntry
  rw [entryWord_setEntryWord_same wf, statusField_writtenBack]

theorem entryValid_writeBackEntry_same (wf : s.memWf) (e : EntryId) (st : EntryStatus) :
    (s.writeBackEntry e st).entryValid e = false := by
  unfold State.entryValid State.writeBackEntry
  rw [entryWord_setEntryWord_same wf, getLsbD_clearValid]
  simp

theorem entryWord_writeBackEntry_other (st : EntryStatus) (hj : j < 12) (other : f ≠ e ∨ j ≠ 0) :
    (s.writeBackEntry e st).entryWord f j = s.entryWord f j := entryWord_setEntryWord_other _ hj (by decide) other

theorem writeBackEntry_memWf (wf : s.memWf) (e : EntryId) (st : EntryStatus) : (s.writeBackEntry e st).memWf :=
  setEntryWord_memWf wf (by decide) _

/-! ## The claim (R125) -/

/-- The words of a claimed entry set to 0, word 6 on. -/
theorem entryWord_zeroEntryCounts (wf : s.memWf) (e f : EntryId) (hk : k < 12) :
    (s.zeroEntryCounts e).entryWord f k = if f = e ∧ 6 ≤ k then 0 else s.entryWord f k := by
  have step (t : State) (twf : t.memWf) (i : Nat) (hi : i < 12) :
      (t.setEntryWord e i 0#16).memWf ∧
      (t.setEntryWord e i 0#16).entryWord f k = if f = e ∧ k = i then 0 else t.entryWord f k := by
    refine ⟨setEntryWord_memWf twf hi _, ?_⟩
    split
    · next same => obtain ⟨rfl, rfl⟩ := same; exact entryWord_setEntryWord_same twf _ _ _
    · next other => exact entryWord_setEntryWord_other _ hk hi (by tauto)
  obtain ⟨wf6, at6⟩ := step s wf 6 (by decide)
  obtain ⟨wf7, at7⟩ := step _ wf6 7 (by decide)
  obtain ⟨wf8, at8⟩ := step _ wf7 8 (by decide)
  obtain ⟨wf9, at9⟩ := step _ wf8 9 (by decide)
  obtain ⟨wf10, at10⟩ := step _ wf9 10 (by decide)
  obtain ⟨_, at11⟩ := step _ wf10 11 (by decide)
  have unfolded : s.zeroEntryCounts e = (((((s.setEntryWord e 6 0#16).setEntryWord e 7 0#16).setEntryWord e 8 0#16).setEntryWord e 9
    0#16).setEntryWord e 10 0#16).setEntryWord e 11 0#16 := rfl
  rw [unfolded, at11, at10, at9, at8, at7, at6]
  by_cases same : f = e
  · simp only [same, true_and]
    interval_cases k <;> simp
  · simp [same]

theorem zeroEntryCounts_memWf (wf : s.memWf) (e : EntryId) : (s.zeroEntryCounts e).memWf := (Inside.zeroEntryCounts 0 s e).wf wf

/-- The words of the entries after a claim: owner, status ACTIVE, counts 0. -/
theorem entryWord_takeEntry (wf : s.memWf) (l : LaneId) (e f : EntryId) (hk : k < 12) :
    (s.takeEntry l e).entryWord f k =
      if f = e then
        (if k = 0 then withStatus (s.entryWord e 0) .active else if k = 5 then wordOf l.val else if 6 ≤ k then 0 else s.entryWord e k)
      else s.entryWord f k := by
  have wf5 : (s.setEntryWord e 5 (wordOf l.val)).memWf := setEntryWord_memWf wf (by decide) _
  have taken : (s.takeEntry l e).entryWord f k =
      (((s.setEntryWord e 5 (wordOf l.val)).setEntryStatus e .active).zeroEntryCounts e).entryWord f k := rfl
  rw [taken, entryWord_zeroEntryCounts (setEntryStatus_memWf wf5 e _) e f hk]
  by_cases same : f = e
  · subst same
    simp only [true_and, if_true]
    by_cases k0 : k = 0
    · subst k0
      simp only [if_true, show ¬ 6 ≤ 0 by decide, if_false]
      unfold State.setEntryStatus
      rw [entryWord_setEntryWord_same wf5, entryWord_setEntryWord_other _ (by decide) (by decide) (Or.inr (by decide))]
    · rw [if_neg k0]
      by_cases k5 : k = 5
      · subst k5
        simp only [if_true, show ¬ 6 ≤ 5 by decide, if_false]
        rw [entryWord_setEntryStatus_other _ (by decide) (Or.inr (by decide)), entryWord_setEntryWord_same wf]
      · rw [if_neg k5]
        split
        · rfl
        · rw [entryWord_setEntryStatus_other _ hk (Or.inr k0), entryWord_setEntryWord_other _ hk (by decide) (Or.inr k5)]
  · simp only [same, false_and, if_false]
    rw [entryWord_setEntryStatus_other _ hk (Or.inl same), entryWord_setEntryWord_other _ hk (by decide) (Or.inl same)]

theorem entryStatus_takeEntry (wf : s.memWf) (l : LaneId) (e f : EntryId) :
    (s.takeEntry l e).entryStatus f = if f = e then some .active else s.entryStatus f := by
  unfold State.entryStatus
  rw [entryWord_takeEntry wf l e f (by decide)]
  split
  · simp [statusField_withStatus]
  · rfl

theorem zeroEntryCounts_lanes (s : State) (e : EntryId) : (s.zeroEntryCounts e).lanes = s.lanes := by
  unfold State.zeroEntryCounts
  generalize [6, 7, 8, 9, 10, 11] = ks
  induction ks generalizing s with
  | nil => rfl
  | cons k ks ih => exact (ih (s.setEntryWord e k 0#16)).trans rfl

/-- The writes of a claim change no lane. -/
theorem claimWrites_lane (s : State) (l m : LaneId) (e : EntryId) :
    (((s.setEntryWord e 5 (wordOf l.val)).setEntryStatus e .active).zeroEntryCounts e).lane m = s.lane m := by
  unfold State.lane
  rw [zeroEntryCounts_lanes]
  rfl

theorem takeEntry_lane (s : State) (l m : LaneId) (e : EntryId) :
    (s.takeEntry l e).lane m =
      if m = l then { s.lane l with openList := (s.lane l).openList ++ [⟨e, s.resolvedTarget e⟩] } else s.lane m := by
  refine (State.modLane_lane _ l m _).trans ?_
  simp only [claimWrites_lane]

theorem takeEntry_lane_same (s : State) (l : LaneId) (e : EntryId) :
    (s.takeEntry l e).lane l = { s.lane l with openList := (s.lane l).openList ++ [⟨e, s.resolvedTarget e⟩] } := by
  rw [takeEntry_lane, if_pos rfl]

theorem takeEntry_lane_other (s : State) {l m : LaneId} (e : EntryId) (other : m ≠ l) : (s.takeEntry l e).lane m = s.lane m := by
  rw [takeEntry_lane, if_neg other]

theorem claim_of_can {l : LaneId} (can : s.canClaim l = true) : s.claim l = s.takeEntry l (s.lane l).cursor := by
  unfold State.claim
  rw [if_pos can]

/-- A claim that does not claim raises BAD_ENTRY at most. -/
theorem claim_quiet {l : LaneId} (cannot : s.canClaim l = false) : Quiet s (s.claim l) := by
  unfold State.claim
  rw [if_neg (by simp [cannot])]
  split
  · exact Quiet.raise s _ _
  · exact Quiet.refl s

/-- A claim makes its entry the lane's ACTIVE entry. -/
theorem activeEntry_claim {l : LaneId} (wf : s.memWf) (can : s.canClaim l = true) :
    (s.claim l).activeEntry l = some (s.lane l).cursor := by
  rw [claim_of_can can]
  unfold State.activeEntry
  rw [takeEntry_lane_same]
  simp [entryStatus_takeEntry wf]

end State

end Sys2Proof.Machine
end


section
/-! ## Every event as moves -/

namespace Sys2Proof.Machine

/-! ### The station's inert operations -/

theorem Ring.forwardCount_withSlot {r : Ring} (h : r.receive = .withSlot) : r.forwardCount = r.forwardQueue.length + 1 := by
  rw [Ring.forwardCount, if_pos h]

theorem Ring.forwardCount_without {r : Ring} (h : r.receive ≠ .withSlot) : r.forwardCount = r.forwardQueue.length := by
  rw [Ring.forwardCount, if_neg h, Nat.add_zero]

theorem Ring.forwardQueue_le_count (r : Ring) : r.forwardQueue.length ≤ r.forwardCount := Nat.le_add_right ..

theorem Ring.forwardCount_le (r : Ring) : r.forwardCount ≤ r.forwardQueue.length + 1 := by
  unfold Ring.forwardCount
  split <;> omega

theorem Ring.sendOwn_bounded {r : Ring} (bounded : r.bounded) : r.sendOwn.bounded := by
  obtain ⟨forward, request, report, _⟩ := bounded
  exact ⟨forward, request, report, Nat.zero_le _⟩

/-- The forwarding run grows to 3 at most (R171). -/
theorem Ring.choose_bounded {r : Ring} (bounded : r.bounded) : r.choose.bounded := by
  have own := Ring.sendOwn_bounded bounded
  have forwards (n : Nat) (h : n ≤ 3) : ({ r with sending := some .forwarded, run := n } : Ring).bounded := by
    obtain ⟨forward, request, report, _⟩ := bounded
    exact ⟨forward, request, report, h⟩
  unfold Ring.choose
  split
  · split
    · exact own
    · exact bounded
  · split
    · split
      · next short => exact forwards _ short
      · exact own
    · exact forwards 0 (Nat.zero_le _)

namespace Inert

theorem withTrack (s : State) (t : Track) : Inert s { s with track := t } :=
  ofStation rfl rfl (fun _ _ _ => rfl) id id (PlacesStep.ofSame rfl rfl)

theorem withTables (s : State) (t : Tables) : Inert s { s with tables := t } :=
  ofStation rfl rfl (fun _ _ _ => rfl) id id (PlacesStep.ofSame rfl rfl)

theorem withFreeCount (s : State) (n : Nat) : Inert s { s with freeCount := n } :=
  ofStation rfl rfl (fun _ _ _ => rfl) id id (PlacesStep.ofSame rfl rfl)

theorem dequeued (s : State) : Inert s s.dequeued :=
  ofRing s _ fun ⟨forward, request, report, run⟩ => ⟨forward, by
    show s.ring.requestQueue.tail.length ≤ _
    rw [List.length_tail]; omega, report, run⟩

theorem respond (s : State) (t : Telegram) (a : Answer) : Inert s (s.respond t a) := ofRing s _ id

theorem setReceive_none (s : State) : Inert s (s.setReceive .none) :=
  ofRing s _ fun ⟨forward, rest⟩ => ⟨by
    rw [Ring.forwardCount_without Receive.noConfusion]
    exact (s.ring.forwardQueue_le_count).trans forward, rest⟩

/-- A telegram that ends its receive takes its slot of the forward queue. -/
theorem received_forward (s : State) (t : Telegram) (ordersReset : Bool) (slot : s.ring.receive = .withSlot) :
    Inert s ((s.setReceive .none).forward t ordersReset) :=
  ofRing s _ fun ⟨forward, rest⟩ => ⟨by
    rw [Ring.forwardCount_without Receive.noConfusion]
    rw [Ring.forwardCount_withSlot slot] at forward
    show (s.ring.forwardQueue ++ [_]).length ≤ _
    rw [List.length_append]
    exact forward, rest⟩

theorem takeSlot (s : State) : Inert s s.takeSlot := by
  refine ofRing s _ fun ⟨forward, rest⟩ => ⟨?_, rest⟩
  by_cases ready : s.readyOutRule = true
  · have room : s.ring.forwardCount < Config.forwardCap := of_decide_eq_true (Bool.and_eq_true _ _ ▸ ready).2
    refine (Ring.forwardCount_le _).trans ?_
    exact Nat.succ_le_of_lt (s.ring.forwardQueue_le_count.trans_lt room)
  · rw [if_neg ready, Ring.forwardCount_without Receive.noConfusion]
    exact (s.ring.forwardQueue_le_count).trans forward

theorem sendStart (s : State) (ready : Bool) : Inert s { s with ring := s.ring.sendStart ready } := by
  refine ofRing s _ fun bounded => ?_
  unfold Ring.sendStart
  split
  · exact Ring.choose_bounded bounded
  · exact bounded

theorem popForward (s : State) : Inert s s.popForward :=
  ofRing s _ fun ⟨forward, rest⟩ => ⟨by
    unfold Ring.forwardCount at forward ⊢
    simp only [List.length_tail]
    omega, rest⟩

theorem popResponse (s : State) : Inert s s.popResponse := ofRing s _ id

theorem popReport (s : State) : Inert s s.popReport :=
  ofRing s _ fun ⟨forward, request, report, run⟩ => ⟨forward, request, by
    show s.ring.reportQueue.tail.length ≤ _
    rw [List.length_tail]; omega, run⟩

/-- A change of the outfeed eye. -/
theorem outfeedEye (s : State) (d : Discharge) (h : d = { s.discharge with
    rawLevel := d.rawLevel, level := d.level, changePending := d.changePending, push := d.push, run := d.run }) :
    Inert s { s with discharge := d } := by
  rw [h]
  exact {
    lanes := fun _ => Lane.Inert.refl _
    free := rfl
    entries := fun _ _ _ => rfl
    wf := id
    ring := id
    outfeed := id
    sound := id
    inbound := fun _ _ => rfl
    inboundLane := fun _ _ _ => rfl }

/-- The lines settle. -/
theorem settle (s : State) : Inert s s.settle where
  lanes := fun l => by rw [State.settle_lane]; rfl
  free := rfl
  entries := fun _ _ _ => rfl
  wf := id
  ring := id
  outfeed := id
  sound := id
  inbound := fun _ _ => rfl
  inboundLane := fun _ _ _ => rfl

theorem withPending (s : State) (q : List Instr) : Inert s (s.withPending q) :=
  ofStation rfl rfl (fun _ _ _ => rfl) id id (PlacesStep.ofSame rfl rfl)

/-- A piece is under the outfeed eye of a moving outfeed. -/
theorem seenCovered (s : State) (moving : s.discharge.outfeed = .moving) :
    Inert s { s with discharge := { s.discharge with seenCovered := true } } where
  lanes := fun _ => Lane.Inert.refl _
  free := rfl
  entries := fun _ _ _ => rfl
  wf := id
  ring := id
  outfeed := fun ⟨idle, timer, _⟩ => ⟨idle, timer, fun _ => moving⟩
  sound := fun ⟨⟨idle, timer, _⟩, rest⟩ => ⟨⟨idle, timer, fun _ => moving⟩, rest⟩
  inbound := fun _ _ => rfl
  inboundLane := fun _ _ _ => rfl

/-- The state of a place that the outfeed has, given another, neither FREE nor FILLING. -/
theorem placesCoherent_busy {s t : State} (coherent : s.placesCoherent) {p : PlaceId}
    (other : ∀ q, q ≠ p → t.place q = s.place q) (free : (t.place p).state = .free → t.place p = Place.reset)
    (notFilling : (t.place p).state ≠ .filling) : t.placesCoherent := by
  obtain ⟨freeReset, oneFilling, owned⟩ := coherent
  have was {q : PlaceId} (h : (t.place q).state = .filling) : t.place q = s.place q :=
    other q fun e => notFilling (e ▸ h)
  refine ⟨fun q h => ?_, fun q r hq hr lanes => ?_, fun q hq => ?_⟩
  · by_cases e : q = p
    · subst e; exact free h
    · rw [other q e] at h ⊢; exact freeReset q h
  · have sameQ := was hq
    have sameR := was hr
    rw [sameQ] at hq lanes
    rw [sameR] at hr lanes
    exact oneFilling q r hq hr lanes
  · have same := was hq
    rw [same] at hq ⊢
    exact owned q hq

/-- The current place is freed and the outfeed IDLE (R117, R120). -/
theorem freeCurrent (s : State) : Inert s s.freeCurrent := by
  have idle : s.discharge.toIdle.coherent := ⟨by simp [Discharge.toIdle], by simp [Discharge.toIdle], fun h => by cases h⟩
  cases current : s.discharge.current with
  | none =>
    rw [State.freeCurrent, current]
    refine {
      lanes := fun _ => Lane.Inert.refl _
      free := rfl
      entries := fun _ _ _ => rfl
      wf := id
      ring := id
      outfeed := fun _ => idle
      sound := fun ⟨_, ⟨nodup, queued, discharging, blocked⟩, rest⟩ => ⟨idle, ⟨nodup, queued, fun q => ?_, fun q => ?_⟩, rest⟩
      inbound := fun _ _ => rfl
      inboundLane := fun _ _ _ => rfl }
    · show _ ↔ Outfeed.idle = .moving ∧ none = some q
      have : (s.place q).state ≠ .discharging := fun h => by
        have := ((discharging q).mp h).2
        rw [current] at this
        cases this
      simp [State.place] at this ⊢
      exact this
    · show _ ↔ Outfeed.idle = .stalled ∧ none = some q
      have : (s.place q).state ≠ .blocked := fun h => by
        have := ((blocked q).mp h).2
        rw [current] at this
        cases this
      simp [State.place] at this ⊢
      exact this
  | some p =>
    rw [State.freeCurrent_of_current current]
    have place (q : PlaceId) : (({ s with discharge := s.discharge.toIdle } : State).freePlace p).place q =
        if q = p then Place.reset else s.place q := State.modPlace_place { s with discharge := s.discharge.toIdle } p q fun _ => Place.reset
    have busy (sound : s.stacksSound) : (s.place p).state = .discharging ∨ (s.place p).state = .blocked := by
      obtain ⟨⟨idles, _, _⟩, ⟨_, _, discharging, blocked⟩, _⟩ := sound
      cases outfeed : s.discharge.outfeed with
      | idle => rw [idles.mp outfeed] at current; cases current
      | moving => exact Or.inl ((discharging p).mpr ⟨outfeed, current⟩)
      | stalled => exact Or.inr ((blocked p).mpr ⟨outfeed, current⟩)
    have unmarked (sound : s.stacksSound) : (s.place p).inbound = false := by
      cases marked : (s.place p).inbound with
      | false => rfl
      | true =>
        have filling := sound.2.2.2 p marked
        rcases busy sound with h | h <;> rw [filling] at h <;> cases h
    refine {
      lanes := fun l => ?_
      free := rfl
      entries := fun _ _ _ => rfl
      wf := id
      ring := id
      outfeed := fun _ => idle
      sound := fun sound => ?_
      inbound := fun sound q => ?_
      inboundLane := fun sound q marked => ?_ }
    · unfold State.freePlace State.unstarve
      rw [State.mapLanes_lane]
      split <;> rfl
    · have isBusy := busy sound
      have notMarked := unmarked sound
      obtain ⟨_, ⟨nodup, queued, discharging, blocked⟩, coherent, marked⟩ := sound
      refine ⟨idle, ⟨nodup, fun q => ?_, fun q => ?_, fun q => ?_⟩, ?_, fun q h => ?_⟩
      · rw [place]
        show q ∈ s.discharge.queue ↔ _
        rw [queued q]
        split
        · next e =>
          subst e
          rcases isBusy with h | h <;> simp [h, Place.reset]
        · rfl
      · rw [place]
        show _ ↔ Outfeed.idle = .moving ∧ none = some q
        split
        · simp [Place.reset]
        · next e =>
          have : (s.place q).state ≠ .discharging := fun h => e (by
            have := ((discharging q).mp h).2
            rw [current] at this
            exact (Option.some.inj this).symm)
          simp [this]
      · rw [place]
        show _ ↔ Outfeed.idle = .stalled ∧ none = some q
        split
        · simp [Place.reset]
        · next e =>
          have : (s.place q).state ≠ .blocked := fun h => e (by
            have := ((blocked q).mp h).2
            rw [current] at this
            exact (Option.some.inj this).symm)
          simp [this]
      · refine placesCoherent_busy coherent (p := p) (fun q e => by rw [place, if_neg e]) (fun _ => by rw [place, if_pos rfl]) ?_
        rw [place, if_pos rfl]
        exact PlaceState.noConfusion
      · rw [place] at h ⊢
        split at h
        · cases h
        · next e => rw [if_neg e]; exact marked q h
    · rw [place]
      split
      · next e => rw [e, unmarked sound]; rfl
      · rfl
    · rw [place]
      split
      · next e => rw [e, unmarked sound] at marked; cases marked
      · rfl

/-- The current place of a moving outfeed BLOCKED, the outfeed STALLED (R118). -/
theorem stall (s : State) (p : PlaceId) (moving : s.discharge.outfeed = .moving) (current : s.discharge.current = some p) :
    Inert s { s.modPlace p fun pl => { pl with state := .blocked } with
      discharge := { s.discharge with outfeed := .stalled, timer := none, seenCovered := false } } := by
  have coherent : Discharge.coherent { s.discharge with outfeed := .stalled, timer := none, seenCovered := false } :=
    ⟨by simp [current], by simp, fun h => by cases h⟩
  have place (q : PlaceId) : ({ s.modPlace p fun pl => { pl with state := .blocked } with
      discharge := { s.discharge with outfeed := .stalled, timer := none, seenCovered := false } } : State).place q =
      if q = p then { s.place p with state := .blocked } else s.place q :=
    State.modPlace_place s p q fun pl => { pl with state := .blocked }
  refine {
    lanes := fun _ => Lane.Inert.refl _
    free := rfl
    entries := fun _ _ _ => rfl
    wf := id
    ring := id
    outfeed := fun _ => coherent
    sound := fun ⟨_, ⟨nodup, queued, discharging, blocked⟩, places, marked⟩ => ?_
    inbound := fun _ q => ?_
    inboundLane := fun _ q _ => ?_ }
  · have isDischarging : (s.place p).state = .discharging := (discharging p).mpr ⟨moving, current⟩
    refine ⟨coherent, ⟨nodup, fun q => ?_, fun q => ?_, fun q => ?_⟩, ?_, fun q h => ?_⟩
    · rw [place]
      show q ∈ s.discharge.queue ↔ _
      rw [queued q]
      split
      · next e => rw [e, isDischarging]; simp
      · rfl
    · rw [place]
      show _ ↔ Outfeed.stalled = .moving ∧ s.discharge.current = some q
      split
      · simp
      · next e =>
        have : (s.place q).state ≠ .discharging := fun h => e (by
          have := ((discharging q).mp h).2
          rw [current] at this
          exact (Option.some.inj this).symm)
        simp [this]
    · rw [place]
      show _ ↔ Outfeed.stalled = .stalled ∧ s.discharge.current = some q
      split
      · next e => simp [e, current]
      · next e =>
        have : (s.place q).state ≠ .blocked := fun h => by
          have := ((blocked q).mp h).1
          rw [moving] at this
          cases this
        simp [this, current, Ne.symm e]
    · refine placesCoherent_busy places (p := p) (fun q e => by rw [place, if_neg e]) ?_ ?_ <;> rw [place, if_pos rfl]
      · exact PlaceState.noConfusion
      · exact PlaceState.noConfusion
    · rw [place] at h ⊢
      split at h
      · next e =>
        subst e
        have := marked q h
        rw [isDischarging] at this
        cases this
      · next e => rw [if_neg e]; exact marked q h
  · rw [place]; split
    · next e => rw [e]
    · rfl
  · rw [place]; split
    · next e => rw [e]
    · rfl

end Inert

/-! ### The commands -/

namespace Moves

variable {s : State}

theorem one {t : State} (h : Move s t) : Moves s t := Relation.ReflTransGen.single h

theorem refl (s : State) : Moves s s := Relation.ReflTransGen.refl

theorem trans {t u : State} (h : Moves s t) (k : Moves t u) : Moves s u := Relation.ReflTransGen.trans h k

theorem inert {t : State} (h : Inert s t) : Moves s t := one (.inert h)

theorem quiet {t : State} (h : Quiet s t) : Moves s t := inert h.inert

/-- An operation repeated along a list. -/
theorem foldl {α : Type} {f : State → α → State} (h : ∀ s a, Moves s (f s a)) (xs : List α) (s : State) : Moves s (xs.foldl f s) := by
  induction xs generalizing s with
  | nil => exact refl s
  | cons x xs ih => exact (h s x).trans (ih _)

/-! #### Motion, outfeed and resets -/

theorem stopNotice (s : State) : Moves s s.stopNotice := by
  unfold State.stopNotice
  refine (inert (Inert.withFreeCount s _)).trans (foldl (fun t l => ?_) _ _)
  exact foldl (fun t n => (LaneMoves.spoil l t n).moves) _ t

theorem presentTrack (s : State) (t : Track) : Moves s (s.presentTrack t) := by
  unfold State.presentTrack
  dsimp only
  split
  · exact (inert (Inert.withTrack s _)).trans (stopNotice _)
  · exact inert (Inert.withTrack s _)

theorem startDischarge (can : s.canDischarge = true) : Moves s s.startDischarge := by
  have tried : s.tryDischarge = s.startDischarge := if_pos can
  rw [← tried]
  exact quiet (Quiet.tryDischarge s)

theorem outfeedEyeChange (s : State) (level : Level) : Moves s (s.outfeedEyeChange level) := by
  unfold State.outfeedEyeChange
  split
  · exact inert (Inert.outfeedEye s _ rfl)
  · exact inert (Inert.outfeedEye s _ rfl)

theorem completeDischarge (s : State) : Moves s s.completeDischarge :=
  (inert (Inert.freeCurrent s)).trans ((inert (Inert.setCounter _ (by decide) _)).trans (quiet (Quiet.tryDischarge _)))

theorem outfeedEyeConfirm (s : State) : Moves s s.outfeedEyeConfirm := by
  refine (inert (Inert.outfeedEye s s.discharge.accept rfl)).trans ?_
  unfold State.outfeedEyeConfirm State.outfeedConfirmed
  split
  · next moving =>
    split
    · exact inert (Inert.seenCovered _ moving)
    · split
      · exact completeDischarge _
      · exact refl _
  · exact refl _

theorem outfeedTimeout (due : s.discharge.timeoutDue = true) : Moves s s.outfeedTimeout := by
  have moving : s.discharge.outfeed = .moving := of_decide_eq_true (Bool.and_eq_true _ _ ▸ (Bool.and_eq_true _ _ ▸ due).1).1
  unfold State.outfeedTimeout
  split
  · next p current => exact (inert (Inert.stall s p moving current)).trans (quiet (Quiet.produce _ _))
  · exact refl s

theorem endReset (s : State) (straps : BitVec 5) : Moves s (s.endReset straps) := by
  refine inert {
    lanes := fun l => ?_
    free := rfl
    entries := fun _ _ _ => rfl
    wf := id
    ring := id
    outfeed := id
    sound := id
    inbound := fun _ _ => rfl
    inboundLane := fun _ _ _ => rfl }
  have lane : (s.endReset straps).lane l = (s.lane l).eyesAtResetEnd s.newChange := State.mapLanes_lane s _ l
  rw [lane]
  unfold Lane.Inert Lane.eyesAtResetEnd
  by_cases differs : (s.lane l).exit.rawLevel ≠ (s.lane l).exit.level
  · rw [if_pos differs]; rfl
  · rw [if_neg differs]

/-! #### The Ring Port -/

theorem receiveStart (s : State) : Moves s s.cutReceive.takeSlot := by
  have cut : Moves s s.cutReceive := by
    unfold State.cutReceive
    split
    · exact refl s
    · exact (inert (Inert.setReceive_none s)).trans (inert (Inert.setCounter _ (by decide) _))
    · exact (inert (Inert.setReceive_none s)).trans (inert (Inert.setCounter _ (by decide) _))
  exact cut.trans (inert (Inert.takeSlot _))

/-- A lane suspended by a request (R150). -/
theorem suspendLane (s : State) (l : LaneId) : Moves s (s.suspendLane l).1 := by
  have suspended (working : (s.lane l).mode ≠ .faulted) : Moves s (s.modLane l Lane.suspend) := by
    refine one (.turn l _ ⟨rfl, working, ?_, fun rests => ?_⟩)
    · unfold Lane.suspend
      dsimp only
      split <;> rfl
    · unfold Lane.suspend at rests
      dsimp only at rests
      split at rests
      · next empty =>
        have both := Bool.and_eq_true _ _ ▸ empty
        exact ⟨List.isEmpty_iff.mp both.1, List.isEmpty_iff.mp both.2⟩
      · cases rests
  unfold State.suspendLane
  split
  · next mode => exact suspended (by rw [mode]; decide)
  · next mode => exact suspended (by rw [mode]; decide)
  · next mode => exact suspended (by rw [mode]; decide)
  all_goals exact refl s

/-- The mode of a lane set to one that leaves it at work. -/
theorem setMode {l : LaneId} {m : LaneMode} (unfaulted : (s.lane l).mode ≠ .faulted) (works : m.passes = true) (awake : m ≠ .suspended) :
    Moves s (s.setMode l m) :=
  one (.turn l _ ⟨rfl, unfaulted, works, fun h => absurd h awake⟩)

/-- A claim leaves the lane's mode as it was. -/
theorem claim_mode (s : State) (l m : LaneId) : ((s.claim l).lane m).mode = (s.lane m).mode := by
  cases can : s.canClaim l with
  | true =>
    rw [State.claim_of_can can, State.takeEntry_lane]
    split
    · next e => rw [e]
    · rfl
  | false => rw [(State.claim_quiet can).lanes m]

/-- The return of a lane to WAIT, RUNNING or DRY (R151). -/
theorem returnLane {l : LaneId} (unfaulted : (s.lane l).mode ≠ .faulted) : Moves s (s.returnLane l) := by
  unfold State.returnLane
  split
  · exact one (.turn l _ ⟨rfl, unfaulted, rfl, fun h => by cases h⟩)
  · split
    · exact one (.turn l _ ⟨rfl, unfaulted, rfl, fun h => by cases h⟩)
    · have reread : Moves s (s.reread l) ∧ ((s.reread l).lane l).mode = (s.lane l).mode := by
        unfold State.reread
        split
        · exact ⟨refl s, rfl⟩
        · exact ⟨one (.claim l), claim_mode s l l⟩
      refine reread.1.trans (setMode (by rw [reread.2]; exact unfaulted) ?_ ?_) <;> split <;> decide

theorem resumeLane (s : State) (l : LaneId) : Moves s (s.resumeLane l).1 := by
  unfold State.resumeLane
  split
  · next mode => exact returnLane (by rw [mode]; decide)
  · next mode => exact returnLane (by rw [mode]; decide)
  all_goals exact refl s

/-- A request of a lane, given a lane value: one lane, all enabled lanes, or none. -/
theorem onLaneValue {act : LaneAct} (h : ∀ s l, Moves s (act s l).1) (s : State) (b : Byte) : Moves s (s.onLaneValue act b).1 := by
  have each (ls : List LaneId) (acc : State × List Word) : Moves acc.1 (ls.foldl (State.eachLane act) acc).1 := by
    induction ls generalizing acc with
    | nil => exact refl _
    | cons l ls ih =>
      refine trans (t := (State.eachLane act acc l).1) ?_ (ih _)
      unfold State.eachLane
      split
      · exact h acc.1 l
      · exact refl _
  unfold State.onLaneValue
  split
  · exact h s _
  · split
    · exact each allLanes (s, [])
    · exact refl s

theorem bounce (s : State) (t : Telegram) (slot : s.ring.receive = .withSlot) : Moves s ((s.setReceive .none).bounce t) := by
  have counted : Moves s (s.addStationCounter bouncedOffset) := inert (Inert.setCounter s (by decide) _)
  exact counted.trans (inert (Inert.received_forward _ (bouncedTelegram t) false slot))

/-- A token on a lane that passes edges on (R30 to R32). -/
theorem takeToken {a : Announcement} (room : (s.lane a.lane).tokens.length < Config.tokenQueueCap)
    (passes : (s.lane a.lane).mode.passes = true) : Moves s (s.takeToken a) := by
  unfold State.takeToken
  split
  · next e active => exact one (.accept a e active room passes)
  · unfold State.rereadForToken
    split
    · next can => exact one (.adopt a can room passes)
    · exact (one (.claim a.lane)).trans (quiet (Quiet.raise _ _ _))

theorem intake {a : Announcement} (room : (s.lane a.lane).tokens.length < Config.tokenQueueCap) : Moves s (s.intake a) := by
  unfold State.intake
  split
  · exact quiet (Quiet.raise s _ _)
  · next mode => exact takeToken room (by rw [mode]; rfl)
  · next mode => exact takeToken room (by rw [mode]; rfl)
  · next mode => exact takeToken room (by rw [mode]; rfl)
  · next mode => exact takeToken room (by rw [mode]; rfl)
  · next mode => exact takeToken room (by rw [mode]; rfl)
  · next faulted =>
    unfold State.writeOffToken
    split
    · next e active => exact one (.writeOff a.lane (s.tokenFor a e) active faulted)
    · exact quiet (Quiet.raise s _ _)

/-- What a received telegram that passes its checks brings about (R164 to R167). -/
theorem classify {t : Telegram} (slot : s.ring.receive = .withSlot) : Moves s ((s.setReceive .none).classify t) := by
  have ended : Moves s (s.setReceive .none) := inert (Inert.setReceive_none s)
  have forwarded (u : Telegram) (orders : Bool) : Moves s ((s.setReceive .none).forward u orders) :=
    inert (Inert.received_forward s u orders slot)
  have bad : Moves s (s.setReceive .none).badTelegram := ended.trans (quiet (Quiet.raise _ _ _))
  have piece : Moves s ((s.setReceive .none).takePiece t) := by
    unfold State.takePiece
    split
    · next a _ =>
      unfold State.takeAnnouncement
      split
      · exact bounce s t slot
      · next room => exact ended.trans (intake (Nat.lt_of_not_le fun full => room (decide_eq_true full)))
    · exact bad
  have queued : Moves s ((s.setReceive .none).queueRequest t) := by
    unfold State.queueRequest
    split
    · next room =>
      refine ended.trans (inert (Inert.ofRing _ _ fun ⟨forward, _, rest⟩ => ⟨forward, ?_, rest⟩))
      rw [List.length_append]
      exact room
    · exact bounce s t slot
  have broadcast : Moves s ((s.setReceive .none).takeBroadcast t) := by
    unfold State.takeBroadcast
    split
    · split
      · unfold State.carryBroadcast
        split
        · exact (forwarded t false).trans (onLaneValue suspendLane _ _)
        · exact (forwarded t false).trans (onLaneValue resumeLane _ _)
        · exact forwarded t true
      · exact (forwarded t false).trans (quiet (Quiet.raise _ _ _))
    · exact forwarded t false
  unfold State.classify
  repeat' split
  · exact forwarded t false
  · exact forwarded t false
  · exact ended
  · unfold State.handleTelegram
    repeat' split
    · exact bad
    · exact piece
    · exact queued
    · exact bad
  · exact broadcast
  · exact forwarded t false

theorem endReceive (s : State) (t : Telegram) : Moves s (s.endReceive t) := by
  unfold State.endReceive
  split
  · next passes => exact classify (of_decide_eq_true (Bool.and_eq_true _ _ ▸ passes).1)
  · exact (inert (Inert.setReceive_none s)).trans (inert (Inert.setCounter _ (by decide) _))

theorem telegramSent (s : State) : Moves s s.telegramSent := by
  have left (src : SendSource) : Moves s (s.leavePort src) := by
    unfold State.leavePort
    split
    · exact inert (Inert.popForward s)
    · exact inert (Inert.popResponse s)
    · unfold State.freeReportSlot
      split
      · exact inert (Inert.popReport s)
      · exact (inert (Inert.popReport s)).trans (quiet (Quiet.tryDischarge _))
  unfold State.telegramSent
  split
  · split
    · exact (left _).trans (one .warmReset)
    · exact left _
  · exact refl s

/-! #### The requests -/

theorem writeWords (ws : List Word) (s : State) : Moves s (s.writeWords ws).1 := by
  induction ws generalizing s with
  | nil => exact refl s
  | cons w ws ih =>
    unfold State.writeWords
    split
    · next right =>
      refine trans (t := s.writeAtPointer w) ?_ (ih _)
      exact (one (.wrote s.tables.pointer w right)).trans (inert (Inert.withTables _ _))
    · exact refl s

theorem readWords (n : Nat) (s : State) : Moves s (State.readWords n s).1 := by
  induction n generalizing s with
  | zero => exact refl s
  | succ n ih =>
    refine trans (t := s.loadLatch) ?_ (ih _)
    unfold State.loadLatch
    dsimp only
    split
    · exact inert (Inert.withTables s _)
    · exact (inert (Inert.withTables s _)).trans (inert (Inert.withTables _ _))

theorem zeroCounters {offsets : List Nat} (within : ∀ o ∈ offsets, o < 1024) (s : State) : Moves s (s.zeroCounters offsets) := by
  unfold State.zeroCounters
  induction offsets generalizing s with
  | nil => exact refl s
  | cons o offsets ih =>
    have written : Moves s (s.setWord 7 o 0#16) := inert (Inert.setCounter s (within o (List.mem_cons_self ..)) _)
    exact written.trans (ih (fun x hx => within x (List.mem_cons_of_mem _ hx)) _)

theorem clearLaneCounters (s : State) (l : LaneId) : Moves s (s.clearLaneCounters l) := by
  refine zeroCounters (fun o ho => ?_) s
  obtain ⟨k, hk, rfl⟩ := List.mem_map.mp ho
  have : k ≤ 16 := (show ∀ k ∈ laneCounterWords, k ≤ 16 by decide) k hk
  unfold laneCounterOffset
  omega

theorem clearStationCounters (s : State) : Moves s s.clearStationCounters := zeroCounters (by decide) s

theorem clearScope {scope : Nat} {t : State} (h : s.clearScope scope = some t) : Moves s t := by
  unfold State.clearScope at h
  split at h
  · cases h; exact clearLaneCounters s _
  · split at h
    · cases h; exact clearStationCounters s
    · split at h
      · cases h; exact (foldl clearLaneCounters allLanes s).trans (clearStationCounters _)
      · cases h

theorem laneStart (s : State) (l : LaneId) (e : EntryId) : Moves s (s.laneStart l e).1 := by
  unfold State.laneStart
  split
  · exact refl s
  · next idle =>
    split
    · exact refl s
    · split
      · exact refl s
      · have prepared : Moves s (s.prepareLane l e) := inert (Inert.modLane s l _ rfl)
        have claimed : Moves (s.prepareLane l e) ((s.prepareLane l e).claim l) := one (.claim l)
        have mode : (((s.prepareLane l e).claim l).lane l).mode = (s.lane l).mode := by
          rw [claim_mode, State.prepareLane, State.modLane_lane_same]
        refine prepared.trans (claimed.trans (setMode ?_ ?_ ?_))
        · rw [mode, not_not.mp idle]; decide
        · split <;> rfl
        · split <;> decide

theorem laneStop (s : State) (l : LaneId) : Moves s (s.laneStop l).1 := by
  unfold State.laneStop
  split
  · next suspended =>
    have closed : Moves s (s.closeFilling l) := quiet (Quiet.closeFilling s l)
    have suspended' : ((s.closeFilling l).lane l).mode = .suspended := by
      rw [(Quiet.closeFilling s l).lanes l]
      exact suspended
    have aborted : Moves (s.closeFilling l) ((s.closeFilling l).abortLane l) := one (.abort l suspended')
    refine closed.trans (aborted.trans (one (.idle l ?_)))
    rcases ((Loose.abortLane (s.closeFilling l) l).lanes l).mode with same | ⟨works, _⟩
    · rw [same, suspended']
    · rw [suspended'] at works
      exact absurd works (by decide)
  · exact refl s

theorem onLane {f : LaneId → State × Answer} (h : ∀ l, Moves s (f l).1) (b : Byte) : Moves s (Machine.onLane b s f).1 := by
  unfold Machine.onLane
  split
  · exact h _
  · exact refl s

/-- The act of each request. -/
theorem act (r : Request) (ps : List Byte) (s : State) : Moves s (r.act ps s).1 := by
  cases r with
  | identify => exact refl s
  | readStatus => exact inert (Inert.withTables s _)
  | setPointer =>
    unfold Request.act setPointerAct
    dsimp only
    split
    · exact refl s
    · split
      · exact refl s
      · exact inert (Inert.withTables s _)
  | writeTable =>
    unfold Request.act writeTableAct
    dsimp only
    split
    · exact writeWords _ s
    · exact refl s
  | readTable =>
    unfold Request.act readTableAct
    dsimp only
    split
    · exact readWords _ s
    · exact refl s
  | beginModify => exact inert (Inert.withTables s _)
  | endModify =>
    unfold Request.act endModifyAct
    dsimp only
    split
    · exact inert (Inert.withTables s _)
    · exact refl s
  | setMotionMode =>
    unfold Request.act setMotionModeAct
    dsimp only
    split
    · exact presentTrack s _
    · exact refl s
  | clearCounters =>
    unfold Request.act clearCountersAct
    dsimp only
    split
    · next cleared => exact clearScope cleared
    · exact refl s
  | stationReset => exact refl s
  | laneStart =>
    unfold Request.act laneStartAct
    dsimp only
    split
    · exact laneStart s _ _
    · exact refl s
  | laneSuspend => exact onLaneValue suspendLane s _
  | laneResume => exact onLaneValue resumeLane s _
  | laneRelease =>
    refine onLane (fun l => ?_) _
    unfold State.laneRelease
    split
    · next wait => exact returnLane (by rw [wait]; decide)
    · exact refl s
  | laneStop => exact onLane (laneStop s) _
  | clearFault =>
    refine onLane (fun l => ?_) _
    unfold State.laneClearFault
    split
    · next faulted => exact one (.clearFault l faulted)
    · exact refl s
  | closePlace =>
    unfold Request.act closePlaceAct
    dsimp only
    split
    · exact refl s
    · split
      · exact quiet (Quiet.shortClose s _)
      · exact refl s
  | releaseOutfeed =>
    unfold Request.act releaseOutfeedAct
    dsimp only
    split
    · exact (inert (Inert.freeCurrent s)).trans (quiet (Quiet.tryDischarge _))
    · exact refl s

theorem runRequest (s : State) (r : Request) : Moves s (s.runRequest r r.act) := by
  rcases s.runRequest_cases r r.act with same | ⟨t, a, turnedAway | carried⟩
  · rw [same]
  · rw [turnedAway]
    exact (inert (Inert.dequeued s)).trans (inert (Inert.respond _ t a))
  · rw [carried]
    exact (inert (Inert.dequeued s)).trans ((act r _ _).trans (inert (Inert.respond _ t a)))

theorem answerUnknown (s : State) : Moves s s.answerUnknown := by
  rcases s.answerUnknown_cases with same | ⟨t, a, answered⟩
  · rw [same]
  · rw [answered]
    exact (inert (Inert.dequeued s)).trans (inert (Inert.respond _ t a))

/-- Where the event of a command comes about, it is made of moves. -/
theorem after {c : Instr} (due : s.due c = true) : Moves s (s.after c) := by
  cases own : laneOf c with
  | some l => exact (LaneMoves.after own due).moves
  | none =>
    cases asks : requestOf c with
    | some r =>
      have runs : s.after c = s.runRequest r r.act := by rw [State.after, asks]
      rw [runs]
      exact runRequest s r
    | none =>
      have occurs : s.after c = s.occur c := by rw [State.after, asks]
      rw [occurs]
      cases c with
      | powerOn => exact one .powerOn
      | warmReset => exact one .warmReset
      | encoderPulse => exact inert (Inert.withTrack s _)
      | motionSampleClose => exact presentTrack s _
      | dischargeStart => exact startDischarge due
      | outfeedEyeChange level => exact outfeedEyeChange s level
      | outfeedEyeConfirm => exact outfeedEyeConfirm s
      | outfeedTimeout => exact outfeedTimeout due
      | receiveStart => exact receiveStart s
      | telegramReceived t => exact endReceive s t
      | sendStart ready => exact inert (Inert.sendStart s ready)
      | telegramSent => exact telegramSent s
      | resetEnd straps => exact endReset s straps
      | unknownRequest => exact answerUnknown s
      | _ => simp [laneOf] at own <;> simp [requestOf] at asks

end Moves

/-- A condition that each move keeps is kept by every step. -/
theorem kept_of_moves {inv : State → Prop} (kept : ∀ s t, Move s t → inv s → inv t) : Kept inv :=
  kept_of_events (fun s q => kept _ _ (.inert (Inert.withPending s q))) (fun s => kept _ _ (.inert (Inert.settle s)))
    fun _ _ due holds => (Moves.after due).keep kept holds

end Sys2Proof.Machine
end


section
/-!
# Table memory, the Ring Port and the outfeed

Every move keeps the canonical form of table memory, the bounds of the Ring Port and the coherence of the outfeed, since reports are queued
where there is room, and a discharge starts on an IDLE outfeed.
-/

namespace Sys2Proof.Machine

/-- What every operation keeps of the station's blocks. -/
structure Steady (s t : State) : Prop where
  wf : s.memWf → t.memWf
  ring : s.ringBounded → t.ringBounded
  outfeed : s.outfeedCoherent → t.outfeedCoherent

theorem Inert.steady {s t : State} (h : Inert s t) : Steady s t := ⟨h.wf, h.ring, h.outfeed⟩

theorem Loose.steady {s t : State} (h : Loose s t) : Steady s t := ⟨h.wf, h.ring, h.places.outfeed⟩

theorem Quiet.steady {s t : State} (h : Quiet s t) : Steady s t := h.loose.steady

namespace Steady

variable {l : LaneId} {s : State}

theorem refl (s : State) : Steady s s := ⟨id, id, id⟩

theorem trans {t u : State} (h : Steady s t) (k : Steady t u) : Steady s u :=
  ⟨fun e => k.wf (h.wf e), fun e => k.ring (h.ring e), fun e => k.outfeed (h.outfeed e)⟩

theorem foldl {α : Type} {f : State → α → State} (h : ∀ s a, Steady s (f s a)) (xs : List α) (s : State) : Steady s (xs.foldl f s) := by
  induction xs generalizing s with
  | nil => exact refl s
  | cons x xs ih => exact (h s x).trans (ih _)

/-- A change of lanes, free list and places alone. -/
theorem ofSame {t : State} (mem : t.mem = s.mem) (ring : t.ring = s.ring)
    (discharge : t.discharge = { s.discharge with queue := t.discharge.queue }) : Steady s t where
  wf := fun h => by rw [State.memWf, mem]; exact h
  ring := fun h => by rw [State.ringBounded, ring]; exact h
  outfeed := fun h => by rw [State.outfeedCoherent, discharge]; exact h

theorem modLane (s : State) (l : LaneId) (f : Lane → Lane) : Steady s (s.modLane l f) := ofSame rfl rfl rfl

theorem modPlace (s : State) (p : PlaceId) (f : Place → Place) : Steady s (s.modPlace p f) := ofSame rfl rfl rfl

/-! ### Records and tokens -/

theorem clearInbound (s : State) (p : PlaceId) : Steady s (s.clearInbound p) := by
  unfold State.clearInbound
  split
  · dsimp only
    split
    · exact (modPlace s p _).trans (Quiet.shortClose _ p).steady
    · exact modPlace s p _
  · exact refl s

theorem leavePlace (s : State) (r : PieceRecord) : Steady s (s.leavePlace r) := by
  unfold State.leavePlace
  split
  · exact clearInbound s _
  · exact refl s

theorem countRetirement (s : State) (l : LaneId) (r : PieceRecord) (o : Retirement) : Steady s (s.countRetirement l r o) := by
  have counted : Steady s (s.addLaneCounter l o.laneIndex r.bookings) := (Inert.addLaneCounter s l (by cases o <;> decide) _).steady
  unfold State.countRetirement
  dsimp only
  split
  · next why _ => exact counted.trans (Inert.addLaneCounter _ l (by cases why <;> decide) _).steady
  · exact counted

theorem examineSuspending (s : State) (l : LaneId) : Steady s (s.examineSuspending l) := by
  unfold State.examineSuspending
  split
  · exact modLane s l _
  · exact refl s

theorem freeRecord (s : State) (l : LaneId) (r : PieceRecord) : Steady s (s.freeRecord l r) := ofSame rfl rfl rfl

theorem retire (s : State) (l : LaneId) (n : RecordNo) (o : Retirement) : Steady s (s.retire l n o) := by
  unfold State.retire
  split
  · exact refl s
  · exact (freeRecord s l _).trans ((leavePlace _ _).trans ((Loose.bookTokens _ l o _).steady.trans
      ((countRetirement _ l _ o).trans (examineSuspending _ l))))

theorem loseToken (s : State) (l : LaneId) (t : Token) : Steady s (s.loseToken l t) :=
  (Loose.book s l .lost t.entry).steady.trans ((Inert.addLaneCounter _ l (by decide) 1).steady.trans (examineSuspending _ l))

theorem purgeRecords (s : State) (l : LaneId) : Steady s (s.purgeRecords l) := by
  unfold State.purgeRecords
  exact foldl (fun t n => retire t l n .lost) _ s

theorem purgeTokens (s : State) (l : LaneId) : Steady s (s.purgeTokens l) := by
  have lost (t : State) (q : QueuedToken) : Steady t ((t.popToken l).loseToken l q.token) :=
    trans (t := t.popToken l) (modLane t l _) (loseToken _ l q.token)
  unfold State.purgeTokens
  exact foldl lost _ s

theorem purge (s : State) (l : LaneId) (f : LaneFault) : Steady s (s.purge l f) := by
  have entered : Steady s (s.enterFaulted l f) := ofSame rfl rfl rfl
  have ended (t : State) : Steady t (t.holdGate l) := ofSame rfl rfl rfl
  unfold State.purge
  exact entered.trans ((purgeRecords _ l).trans ((purgeTokens _ l).trans ((ended _).trans
    ((Quiet.freeEmptyFilling _ l).steady.trans (Quiet.produce _ _).steady))))

theorem wakeSuspended (s : State) (l : LaneId) : Steady s (s.wakeSuspended l) := by
  unfold State.wakeSuspended
  split
  · exact modLane s l _
  · exact refl s

theorem appendRecord (s : State) (l : LaneId) (n : RecordNo) (lead : Pos) : Steady s (s.appendRecord l n lead) := by
  have entered : Steady s { s.modLane l fun L => { L with tokens := L.tokens.tail, inFlight := L.inFlight ++ [s.newRecord l n lead] } with
      free := s.free.tail } := ofSame rfl rfl rfl
  exact entered.trans (wakeSuspended _ l)

theorem takeDouble (s : State) (l : LaneId) (r : PieceRecord) : Steady s (s.takeDouble l r) := by
  unfold State.takeDouble
  split
  · exact (modLane s l _).trans (modLane _ l _)
  · exact refl s

/-! ### The exit -/

theorem destinationFor (s : State) (l : LaneId) (r : PieceRecord) : Steady s (s.destinationFor l r).1 := by
  have place (t : State) (customer : Word) (article target : Nat) : Steady t (t.placeFor l customer article target).1 := by
    unfold State.placeFor
    split
    · exact ofSame rfl rfl rfl
    · split
      · exact ofSame rfl rfl rfl
      · exact (Quiet.raise t .overflow (some l)).steady.trans (ofSame rfl rfl rfl)
  unfold State.destinationFor
  split
  · split
    · exact (Quiet.raise s _ _).steady
    · split
      · exact refl s
      · exact (Quiet.closeOtherIdentity s l _ _).steady.trans (place _ _ _ _)
  · exact refl s

theorem matchArrival (s : State) (l : LaneId) (r : PieceRecord) (p : Pos) : Steady s (s.matchArrival l r p) :=
  trans (t := s.markMatched l r.number) (ofSame rfl rfl rfl) ((destinationFor _ l r).trans (ofSame rfl rfl rfl))

theorem phantomArrival (s : State) (l : LaneId) (p : Pos) : Steady s (s.phantomArrival l p) :=
  (Inert.addLaneCounter s l (k := phantomIndex) (by decide) 1).steady.trans
    ((Quiet.raise _ .phantom (some l)).steady.trans (ofSame rfl rfl rfl))

theorem makeFull (s : State) (p : PlaceId) (short : Bool) : Steady s (s.makeFull p short) := by
  rw [State.makeFull_eq]
  exact trans (t := s.joinQueue p short) (ofSame rfl rfl rfl)
    ((Quiet.tellStackClosed _ p).steady.trans (Quiet.tryDischarge _).steady)

theorem countDelivery (s : State) (p : PlaceId) (t : Option Token) : Steady s (s.countDelivery p t) := by
  have counted := modPlace s p fun pl => pl.counted t
  unfold State.countDelivery
  dsimp only
  split
  · exact counted.trans (makeFull _ p false)
  · split
    · exact counted.trans (Quiet.shortClose _ p).steady
    · exact counted

theorem passExit (s : State) (l : LaneId) (n : RecordNo) : Steady s (s.passExit l n) := by
  unfold State.passExit
  split
  · unfold State.countIfDelivered
    split
    · exact (countDelivery s _ _).trans (retire _ l n _)
    · exact retire s l n _
  · exact refl s

theorem exitTrailing (s : State) (l : LaneId) : Steady s (s.exitTrailing l) := by
  unfold State.exitTrailing
  split
  · exact (passExit s l _).trans (ofSame rfl rfl rfl)
  · exact ofSame rfl rfl rfl
  · exact refl s

theorem rerouteAtExit (s : State) (l : LaneId) (r : PieceRecord) : Steady s (s.rerouteAtExit l r) :=
  trans (t := (s.modRecord l r.number fun x => { x with forceOverflow := true, destination := some .overflow }).modExit l fun x =>
    { x with route := .overflow }) (ofSame rfl rfl rfl) (leavePlace _ r)

/-! ### Entries -/

theorem setEntryWord (s : State) (e : EntryId) (k : Nat) (w : Word) (h : k < 12) : Steady s (s.setEntryWord e k w) :=
  (Loose.setEntryWord s e k w h).steady

theorem setEntryStatus (s : State) (e : EntryId) (st : EntryStatus) : Steady s (s.setEntryStatus e st) :=
  setEntryWord s e 0 _ (by decide)

theorem zeroEntryCounts (s : State) (e : EntryId) : Steady s (s.zeroEntryCounts e) := by
  have within : ∀ k ∈ [6, 7, 8, 9, 10, 11], k < 12 := by decide
  unfold State.zeroEntryCounts
  generalize [6, 7, 8, 9, 10, 11] = ks at within
  induction ks generalizing s with
  | nil => exact refl s
  | cons k ks ih =>
    exact (setEntryWord s e k 0#16 (within k (List.mem_cons_self ..))).trans
      (ih _ fun x hx => within x (List.mem_cons_of_mem _ hx))

theorem claim (s : State) (l : LaneId) : Steady s (s.claim l) := by
  cases can : s.canClaim l with
  | true =>
    rw [State.claim_of_can can]
    have entered (t : State) (e : EntryId) : Steady t (t.takeEntry l e) :=
      (setEntryWord t e 5 (wordOf l.val) (by decide)).trans ((setEntryStatus _ e .active).trans
        ((zeroEntryCounts _ e).trans (modLane _ l _)))
    exact entered s _
  | false => exact (State.claim_quiet can).steady

theorem stepClaim (s : State) (l : LaneId) : Steady s (s.stepClaim l) := by
  unfold State.stepClaim
  repeat' split
  · exact claim s l
  · exact (claim s l).trans (modLane _ l _)
  · exact claim s l

theorem assign (s : State) (l : LaneId) (e : EntryId) : Steady s (s.assign l e) := by
  have counted : Steady s (s.bumpEntry e 6) := (Loose.setEntryWord s e 6 _ (by decide)).steady
  unfold State.assign
  dsimp only
  split
  · exact counted.trans ((Loose.setEntryWord _ e 0 _ (by decide)).steady.trans ((modLane _ l _).trans (stepClaim _ l)))
  · exact counted

theorem acceptToken (s : State) (a : Announcement) (e : EntryId) : Steady s (s.acceptToken a e) :=
  (assign s a.lane e).trans ((modLane _ a.lane _).trans (wakeSuspended _ a.lane))

theorem wakeDry (s : State) (l : LaneId) : Steady s (s.wakeDry l) := by
  unfold State.wakeDry
  split
  · exact modLane s l _
  · exact refl s

/-! ### Resets -/

theorem reset_outfeed (level : Level) : (Discharge.reset level).coherent :=
  ⟨by simp [Discharge.reset], by simp [Discharge.reset], fun h => by cases h⟩

theorem reset_ring (address straps : BitVec 5) (ready : Bool) : (Ring.reset address straps ready).bounded :=
  ⟨Nat.zero_le _, Nat.zero_le _, Nat.zero_le _, Nat.zero_le _⟩

theorem toReset (s : State) : Steady s s.toReset := ⟨id, fun _ => reset_ring _ _ _, fun _ => reset_outfeed _⟩

theorem powerOnReset (s : State) : Steady s s.powerOnReset :=
  ⟨fun _ => State.reset_mem_wf, fun _ => reset_ring _ _ _, fun _ => reset_outfeed _⟩

theorem bumpEntry (s : State) (e : EntryId) {k : Nat} (h : k < 12) : Steady s (s.bumpEntry e k) :=
  (Loose.setEntryWord s e k _ h).steady

theorem loseTokens (s : State) (ts : List Token) : Steady s (s.loseTokens ts) :=
  foldl (f := fun (s : State) (t : Token) => s.bumpEntry t.entry Retirement.lost.entryIndex)
    (fun s t => bumpEntry s t.entry (by decide)) ts s

theorem loseRecords (s : State) (l : LaneId) : Steady s (s.loseRecords l) := by
  have lost (s : State) (r : PieceRecord) : Steady s { s.loseTokens r.tokens with free := s.free ++ [r.number] } :=
    (loseTokens s r.tokens).trans (ofSame rfl rfl rfl)
  unfold State.loseRecords
  exact foldl lost _ s

theorem abortAtReset (s : State) (l : LaneId) : Steady s (s.abortAtReset l) := by
  have aborted (s : State) (it : OpenItem) : Steady s (s.writeBackEntry it.entry .aborted) :=
    setEntryWord s it.entry 0 _ (by decide)
  unfold State.abortAtReset
  exact foldl aborted _ s

theorem writeOff (s : State) : Steady s s.writeOff := by
  unfold State.writeOff
  exact (foldl loseRecords allLanes s).trans
    ((foldl (fun t l => loseTokens t _) allLanes _).trans (foldl abortAtReset allLanes _))

theorem warmReset (s : State) : Steady s s.warmReset := by
  have cleared (t : State) : Steady t t.clearCounterPage := ⟨fun wf => Mem.clearPage_wf wf 7, id, id⟩
  exact (writeOff s).trans ((cleared _).trans (toReset _))

/-! ### The moves -/

theorem ofLaneMove {t : State} (h : LaneMove l s t) : Steady s t := by
  cases h with
  | inert h => exact h.steady
  | retire n o => exact retire s l n o
  | loseToken q front rest => exact (modLane s l _).trans (loseToken _ l q.token)
  | purge f => exact purge s l f
  | append n lead => exact appendRecord s l n lead
  | record n f => exact modLane s l _
  | double r => exact takeDouble s l r
  | sched f => exact modLane s l _
  | windows f => exact modLane s l _
  | exitLevel f => exact modLane s l _
  | arrive r p => exact (modLane s l _).trans (matchArrival _ l r p)
  | phantom p => exact (modLane s l _).trans (phantomArrival _ l p)
  | depart => exact (modLane s l _).trans (exitTrailing _ l)
  | reroute r => exact rerouteAtExit s l r

theorem ofMove {t : State} (h : Move s t) : Steady s t := by
  cases h with
  | lane l h => exact ofLaneMove h
  | inert h => exact h.steady
  | accept a e => exact acceptToken s a e
  | adopt a => exact (claim s _).trans ((wakeDry _ _).trans (acceptToken _ a _))
  | writeOff l t => exact (assign s l _).trans (loseToken _ l t)
  | claim l => exact claim s l
  | turn l f => exact modLane s l _
  | abort l => exact (Loose.abortLane s l).steady
  | idle l => exact ofSame rfl rfl rfl
  | clearFault l => exact modLane s l _
  | wrote p w => exact ⟨fun wf => State.setWord_wf wf p.page.isLt p.offset.isLt w, id, id⟩
  | warmReset => exact warmReset s
  | powerOn => exact powerOnReset s

end Steady

/-- Settles O5: every move keeps the canonical form. -/
theorem tableMemoryWfKept : Obligations.TableMemoryWfKept := kept_of_moves fun _ _ move => (Steady.ofMove move).wf

/-! ## The motion state -/

/-- The presented state is the mode's, and the counts are held, whatever a stop notice does after. -/
theorem State.presentTrack_track (s : State) (t : Track) : (s.presentTrack t).track = t.present := by
  have noticed (u : State) : u.stopNotice.track = u.track := by
    have lane (ns : List RecordNo) (l : LaneId) (v : State) : (ns.foldl (fun v n => v.spoil l n) v).track = v.track :=
      (Inside.foldl (fun v n => Inside.spoil l v n) ns v).track
    have all (ls : List LaneId) (v : State) : (ls.foldl (fun v l => (u.toSpoil l).foldl (fun v n => v.spoil l n) v) v).track = v.track := by
      induction ls generalizing v with
      | nil => rfl
      | cons l ls ih => rw [List.foldl_cons, ih, lane]
    exact all u.spoilOrder { u with freeCount := u.freeCount + 1 }
  unfold State.presentTrack
  dsimp only
  split
  · exact noticed _
  · rfl

end Sys2Proof.Machine
end


section
/-!
# What bookings, retirements and the purge do to the lanes

`Lane.Books` bounds what a booking, a claim and all that follows can change of a lane. The retirement of a record, the loss of a token and
the purge are each one change of the lane and such a booking after it.
-/

namespace Sys2Proof.Machine

/-! ## Bookings -/

/-- The lane is fed or waits for its release. -/
def LaneMode.works (m : LaneMode) : Prop := m = .running ∨ m = .dry ∨ m = .wait

/-- What bookings and claims can change of a lane: its open entries and its cursor, its marks, and its state among RUNNING, DRY and WAIT, or
from SUSPENDING to SUSPENDED when it is empty. -/
structure Lane.Books (L M : Lane) : Prop where
  same : M = { L with
    starved := M.starved, cursor := M.cursor, openList := M.openList, lot := M.lot, waitPending := M.waitPending, mode := M.mode }
  room : L.openList.length ≤ Config.openListCap → M.openList.length ≤ Config.openListCap
  mode : M.mode = L.mode ∨ (L.mode.works ∧ M.mode.works) ∨
    (L.mode = .suspending ∧ M.mode = .suspended ∧ L.tokens = [] ∧ L.inFlight = [])

namespace Lane.Books

variable {L M N : Lane}

theorem refl (L : Lane) : L.Books L := ⟨rfl, id, Or.inl rfl⟩

theorem not_works_suspending : ¬ LaneMode.suspending.works := by simp [LaneMode.works]

theorem not_works_suspended : ¬ LaneMode.suspended.works := by simp [LaneMode.works]

theorem trans (h : L.Books M) (k : M.Books N) : L.Books N where
  same := by rw [k.same, h.same]
  room := fun e => k.room (h.room e)
  mode := by
    rcases h.mode with e | ⟨before, works⟩ | ⟨before, after, empty⟩
    · have tokens : M.tokens = L.tokens := by rw [h.same]
      have inFlight : M.inFlight = L.inFlight := by rw [h.same]
      rw [← e, ← tokens, ← inFlight]; exact k.mode
    · rcases k.mode with e | ⟨_, works'⟩ | ⟨suspending, _⟩
      · exact Or.inr (Or.inl ⟨before, e ▸ works⟩)
      · exact Or.inr (Or.inl ⟨before, works'⟩)
      · exact absurd (suspending ▸ works) not_works_suspending
    · rcases k.mode with e | ⟨works, _⟩ | ⟨suspending, _⟩
      · exact Or.inr (Or.inr ⟨before, e ▸ after, empty⟩)
      · exact absurd (after ▸ works) not_works_suspended
      · rw [after] at suspending; cases suspending

theorem ofLoose (h : L.Loose M) : L.Books M where
  same := by conv_lhs => rw [h.same]
             conv_rhs => rw [h.same]
  room := fun room => h.openList.length_le.trans room
  mode := by
    rcases h.mode with e | ⟨works, waits⟩
    · exact Or.inl e
    · exact Or.inr (Or.inl ⟨works.imp_right Or.inl, Or.inr (Or.inr waits)⟩)

/-- Bookings reach every lane alike, whatever records, tokens and windows it holds, as long as those it holds after are none. -/
theorem ofEmptied (h : L.Books M) (f : Lane → Lane)
    (keeps : ∀ L, f L = { f L with
      starved := L.starved, cursor := L.cursor, openList := L.openList, lot := L.lot, waitPending := L.waitPending, mode := L.mode })
    (same : f M = { f L with
      starved := M.starved, cursor := M.cursor, openList := M.openList, lot := M.lot, waitPending := M.waitPending, mode := M.mode })
    (empty : L.tokens = [] → L.inFlight = [] → (f L).tokens = [] ∧ (f L).inFlight = []) : (f L).Books (f M) where
  same := by rw [same]
  room := by rw [keeps L, keeps M]; exact h.room
  mode := by
    have modeL : (f L).mode = L.mode := by rw [keeps L]
    have modeM : (f M).mode = M.mode := by rw [keeps M]
    rw [modeL, modeM]
    exact h.mode.imp_right (Or.imp_right fun ⟨before, after, tokens, inFlight⟩ => ⟨before, after, empty tokens inFlight⟩)

end Lane.Books

/-- Bookings on every lane that keep the cursors and the free list. -/
structure BooksAll (s t : State) : Prop where
  lanes : ∀ l, (s.lane l).Books (t.lane l)
  cursor : ∀ l, (t.lane l).cursor = (s.lane l).cursor
  free : t.free = s.free

theorem Loose.booked {s t : State} (h : Loose s t) : BooksAll s t where
  lanes := fun l => .ofLoose (h.lanes l)
  cursor := fun l => by rw [(h.lanes l).same]
  free := h.free

theorem Quiet.booked {s t : State} (h : Quiet s t) : BooksAll s t := h.loose.booked

namespace BooksAll

variable {s t u : State} {l : LaneId}

theorem ofSame (lanes : t.lanes = s.lanes) (free : t.free = s.free) : BooksAll s t := by
  have lane (l : LaneId) : t.lane l = s.lane l := congrArg (fun v : Vector Lane 4 => v[l]) lanes
  exact ⟨fun l => lane l ▸ Lane.Books.refl _, fun l => lane l ▸ rfl, free⟩

theorem refl (s : State) : BooksAll s s := ofSame rfl rfl

theorem trans (h : BooksAll s t) (k : BooksAll t u) : BooksAll s u :=
  ⟨fun l => (h.lanes l).trans (k.lanes l), fun l => (k.cursor l).trans (h.cursor l), k.free.trans h.free⟩

theorem modLane {f : Lane → Lane} (books : (s.lane l).Books (f (s.lane l))) (cursor : (f (s.lane l)).cursor = (s.lane l).cursor) :
    BooksAll s (s.modLane l f) where
  lanes := fun m => by
    rw [State.modLane_lane]
    split
    · next e => rw [e]; exact books
    · exact Lane.Books.refl _
  cursor := fun m => by
    rw [State.modLane_lane]
    split
    · next e => rw [e]; exact cursor
    · rfl
  free := rfl

/-! ### Retirements and lost tokens -/

theorem clearInbound (s : State) (p : PlaceId) : BooksAll s (s.clearInbound p) := by
  unfold State.clearInbound
  split
  · dsimp only
    split
    · exact trans (t := s.modPlace p fun pl => { pl with inbound := false }) (ofSame rfl rfl) (Quiet.shortClose _ p).booked
    · exact ofSame rfl rfl
  · exact refl s

theorem leavePlace (s : State) (r : PieceRecord) : BooksAll s (s.leavePlace r) := by
  unfold State.leavePlace
  split
  · exact clearInbound s _
  · exact refl s

theorem countRetirement (s : State) (l : LaneId) (r : PieceRecord) (o : Retirement) : BooksAll s (s.countRetirement l r o) := by
  unfold State.countRetirement
  dsimp only
  split <;> exact ofSame rfl rfl

theorem examineSuspending (s : State) (l : LaneId) : BooksAll s (s.examineSuspending l) := by
  unfold State.examineSuspending
  split
  · next h => exact modLane ⟨rfl, id, Or.inr (Or.inr ⟨h.1, rfl, h.2⟩)⟩ rfl
  · exact refl s

/-- What a retirement does after the record has left its lane. -/
theorem retired {n : RecordNo} {r : PieceRecord} (found : s.findRecord l n = some r) (o : Retirement) :
    BooksAll (s.freeRecord l r) (s.retire l n o) := by
  unfold State.retire
  rw [found]
  exact (leavePlace _ r).trans ((Loose.bookTokens _ l o _).booked.trans ((countRetirement _ l r o).trans (examineSuspending _ l)))

theorem loseToken (s : State) (l : LaneId) (t : Token) : BooksAll s (s.loseToken l t) :=
  (Loose.book s l .lost t.entry).booked.trans (trans (t := (s.book l .lost t.entry).addLaneCounter l Retirement.lost.laneIndex 1)
    (ofSame rfl rfl) (examineSuspending _ l))

end BooksAll

/-! ## The lane that a record has left -/

/-- The lane without its first record of this number, the windows of that number and the arrival that names it (R57, R60, R78). -/
def Lane.freed (L : Lane) (n : RecordNo) : Lane :=
  { L with
    inFlight := L.inFlight.eraseP fun x => decide (x.number = n)
    sched := L.sched.dropPiece n
    exit := { L.exit with arrival := if L.exit.arrival = .matched n then .absent else L.exit.arrival } }

theorem State.freeRecord_lane_same (s : State) (l : LaneId) (r : PieceRecord) :
    (s.freeRecord l r).lane l = (s.lane l).freed r.number :=
  State.modLane_lane_same s l fun L => L.freed r.number

theorem State.freeRecord_lane_other (s : State) {l m : LaneId} (r : PieceRecord) (h : m ≠ l) : (s.freeRecord l r).lane m = s.lane m :=
  State.modLane_lane_other s (fun L => L.freed r.number) h

/-- With no arrival, only the list and the schedule change. -/
theorem Lane.freed_of_absent {L : Lane} (absent : L.exit.arrival = .absent) (n : RecordNo) :
    L.freed n = { L with inFlight := L.inFlight.eraseP fun x => decide (x.number = n), sched := L.sched.dropPiece n } := by
  have : (if L.exit.arrival = .matched n then Arrival.absent else L.exit.arrival) = L.exit.arrival := by rw [absent]; rfl
  unfold Lane.freed
  rw [this]

/-! ## The purge -/

/-- The lane as the purge leaves it, apart from what the bookings do (R157, R83, R88). -/
def Lane.purged (L : Lane) (f : LaneFault) : Lane :=
  { L with
    mode := .faulted
    faultCode := some f
    returnToWait := false
    tokens := []
    inFlight := []
    sched := { windows := [], folds := Vector.replicate 6 false, gate := true, gateHold := true }
    entry := { L.entry with openPiece := none, blockedTarget := none }
    exit := { L.exit with arrival := .absent, blockedTarget := none, route := .overflow } }

/-- The lane with no record, and this schedule. -/
def Lane.withoutRecords (fl : FoldLane) (L : Lane) : Lane := { L with inFlight := [], sched := fl }

/-- The lane with no token. -/
def Lane.withoutTokens (L : Lane) : Lane := { L with tokens := [] }

theorem Lane.Books.withoutRecords {L M : Lane} (h : L.Books M) (fl : FoldLane) : (L.withoutRecords fl).Books (M.withoutRecords fl) :=
  h.ofEmptied _ (fun _ => rfl) (by unfold Lane.withoutRecords; conv_lhs => rw [h.same]) fun tokens _ => ⟨tokens, rfl⟩

theorem Lane.Books.withoutTokens {L M : Lane} (h : L.Books M) : L.withoutTokens.Books M.withoutTokens :=
  h.ofEmptied _ (fun _ => rfl) (by unfold Lane.withoutTokens; conv_lhs => rw [h.same]) fun _ inFlight => ⟨rfl, inFlight⟩

/-- The lane with an empty schedule and the gate held. -/
def Lane.gateHeld (L : Lane) : Lane :=
  { L with sched := { windows := [], folds := Vector.replicate 6 false, gate := true, gateHold := true } }

theorem Lane.Books.gateHeld {L M : Lane} (h : L.Books M) : L.gateHeld.Books M.gateHeld :=
  h.ofEmptied _ (fun _ => rfl) (by unfold Lane.gateHeld; conv_lhs => rw [h.same]) fun tokens inFlight => ⟨tokens, inFlight⟩

/-- Every record of the lane retired in turn: a lane with no arrival keeps all but its records and its windows. -/
theorem State.purgeRecords_books (s : State) (l : LaneId) (absent : (s.lane l).exit.arrival = .absent) :
    (∃ fl, ((s.lane l).withoutRecords fl).Books ((s.purgeRecords l).lane l)) ∧
    (∀ m, m ≠ l → (s.lane m).Books ((s.purgeRecords l).lane m)) ∧
    (∀ m, ((s.purgeRecords l).lane m).cursor = (s.lane m).cursor) ∧
    (s.purgeRecords l).free = s.free ++ (s.lane l).numbers := by
  unfold State.purgeRecords Lane.numbers
  generalize list : (s.lane l).inFlight = rs
  induction rs generalizing s with
  | nil =>
    refine ⟨⟨(s.lane l).sched, ?_⟩, fun m _ => Lane.Books.refl _, fun m => rfl, by simp⟩
    have : (s.lane l).withoutRecords (s.lane l).sched = s.lane l := by unfold Lane.withoutRecords; rw [← list]
    rw [this]
    exact Lane.Books.refl _
  | cons r rs ih =>
    have found : s.findRecord l r.number = some r := by
      unfold State.findRecord
      rw [list]
      simp
    have booked := BooksAll.retired found .lost
    have own := booked.lanes l
    rw [State.freeRecord_lane_same] at own
    rw [Lane.freed_of_absent absent, list, List.eraseP_cons_of_pos (by simp)] at own
    obtain ⟨⟨fl, books⟩, others, cursors, free⟩ := ih (s.retire l r.number .lost) (by rw [own.same]; exact absent)
      (by rw [own.same])
    refine ⟨⟨fl, ?_⟩, fun m h => ?_, fun m => ?_, ?_⟩
    · exact (own.withoutRecords fl).trans books
    · exact (State.freeRecord_lane_other s r h ▸ booked.lanes m).trans (others m h)
    · rw [List.map_cons, List.foldl_cons, cursors m, booked.cursor m]
      by_cases h : m = l
      · rw [h, State.freeRecord_lane_same]; rfl
      · rw [State.freeRecord_lane_other s r h]
    · rw [List.map_cons, List.foldl_cons, free, booked.free]
      simp [State.freeRecord]

/-- Every queued token lost in turn. -/
theorem State.purgeTokens_books (s : State) (l : LaneId) :
    (s.lane l).withoutTokens.Books ((s.purgeTokens l).lane l) ∧ (∀ m, m ≠ l → (s.lane m).Books ((s.purgeTokens l).lane m)) ∧
    (∀ m, ((s.purgeTokens l).lane m).cursor = (s.lane m).cursor) ∧ (s.purgeTokens l).free = s.free := by
  unfold State.purgeTokens
  generalize queue : (s.lane l).tokens = qs
  induction qs generalizing s with
  | nil =>
    have : (s.lane l).withoutTokens = s.lane l := by unfold Lane.withoutTokens; rw [← queue]
    exact ⟨this ▸ Lane.Books.refl _, fun m _ => Lane.Books.refl _, fun m => rfl, rfl⟩
  | cons q qs ih =>
    have booked := BooksAll.loseToken (s.popToken l) l q.token
    have popped : (s.popToken l).lane l = { s.lane l with tokens := qs } := by
      unfold State.popToken
      rw [State.modLane_lane_same, queue, List.tail_cons]
    have own := booked.lanes l
    rw [popped] at own
    obtain ⟨books, others, cursors, free⟩ := ih ((s.popToken l).loseToken l q.token) (by rw [own.same])
    refine ⟨own.withoutTokens.trans books, fun m h => ?_, fun m => ?_, ?_⟩
    · exact (State.modLane_lane_other s _ h ▸ booked.lanes m).trans (others m h)
    · rw [List.foldl_cons, cursors m, booked.cursor m]
      unfold State.popToken
      rw [State.modLane_lane]
      split
      · next e => rw [e]
      · rfl
    · rw [List.foldl_cons, free, booked.free]
      rfl

/-- The purge empties its lane, frees its records, and books (R157). -/
theorem State.purge_books (s : State) (l : LaneId) (f : LaneFault) :
    ((s.lane l).purged f).Books ((s.purge l f).lane l) ∧ (∀ m, m ≠ l → (s.lane m).Books ((s.purge l f).lane m)) ∧
    (∀ m, ((s.purge l f).lane m).cursor = (s.lane m).cursor) ∧ (s.purge l f).free = s.free ++ (s.lane l).numbers := by
  have faulted : (s.enterFaulted l f).lane l =
      { s.lane l with
        mode := .faulted
        faultCode := some f
        returnToWait := false
        entry := { (s.lane l).entry with openPiece := none, blockedTarget := none }
        exit := { (s.lane l).exit with arrival := .absent, blockedTarget := none, route := .overflow } } := by
    unfold State.enterFaulted State.holdEdges
    rw [State.modLane_lane_same, State.modLane_lane_same]
  have entered (m : LaneId) (h : m ≠ l) : (s.enterFaulted l f).lane m = s.lane m := by
    unfold State.enterFaulted State.holdEdges
    rw [State.modLane_lane_other _ _ h, State.modLane_lane_other _ _ h]
  obtain ⟨⟨fl, records⟩, recordsOthers, recordsCursor, recordsFree⟩ := State.purgeRecords_books (s.enterFaulted l f) l (by rw [faulted])
  obtain ⟨tokens, tokensOthers, tokensCursor, tokensFree⟩ := State.purgeTokens_books ((s.enterFaulted l f).purgeRecords l) l
  have after (t : State) : BooksAll (t.holdGate l) (((t.holdGate l).freeEmptyFilling l).produce
      (.laneFault l f (s.lane l).inFlight.length (s.lane l).tokens.length)) :=
    (Quiet.freeEmptyFilling _ l).booked.trans (Quiet.produce _ _).booked
  have ended := after (((s.enterFaulted l f).purgeRecords l).purgeTokens l)
  have gated (t : State) : (t.holdGate l).lane l = (t.lane l).gateHeld := State.modLane_lane_same t l Lane.gateHeld
  have gatedOther (t : State) {m : LaneId} (h : m ≠ l) : (t.holdGate l).lane m = t.lane m := State.modLane_lane_other t Lane.gateHeld h
  refine ⟨?_, fun m h => ?_, fun m => ?_, ?_⟩
  · have lane := ended.lanes l
    rw [gated] at lane
    have held := (records.withoutTokens.trans tokens).gateHeld
    rw [faulted] at held
    exact held.trans lane
  · have first := recordsOthers m h
    rw [entered m h] at first
    have lane := ended.lanes m
    rw [gatedOther _ h] at lane
    exact first.trans ((tokensOthers m h).trans lane)
  · have cursor (t : State) : ((t.holdGate l).lane m).cursor = (t.lane m).cursor := by
      by_cases h : m = l
      · rw [h, gated]; rfl
      · rw [gatedOther t h]
    have first : ((s.enterFaulted l f).lane m).cursor = (s.lane m).cursor := by
      by_cases h : m = l
      · rw [h, faulted]
      · rw [entered m h]
    exact (ended.cursor m).trans ((cursor _).trans ((tokensCursor m).trans ((recordsCursor m).trans first)))
  · have free : (s.enterFaulted l f).free = s.free := rfl
    have numbers : ((s.enterFaulted l f).lane l).numbers = (s.lane l).numbers := by rw [faulted]; rfl
    have held : ((((s.enterFaulted l f).purgeRecords l).purgeTokens l).holdGate l).free =
        (((s.enterFaulted l f).purgeRecords l).purgeTokens l).free := rfl
    exact ended.free.trans (held.trans (tokensFree.trans (recordsFree.trans (by rw [free, numbers]))))

end Sys2Proof.Machine
end


section
/-!
# The effect of a move on each lane

`Lane.Effect` lists what a move can do to a lane before the bookings that follow. Each condition on single lanes is kept by every effect and by
bookings, and so by every step.
-/

namespace Sys2Proof.Machine

/-- A SUSPENDED lane that gets work becomes SUSPENDING. -/
def LaneMode.woken (m : LaneMode) : LaneMode := if m = .suspended then .suspending else m

/-- The exit unit of a matched arrival. -/
def ExitUnit.matchedWith (x : ExitUnit) (n : RecordNo) (d : Destination) (target : Pos) : ExitUnit :=
  { x.accept with arrival := .matched n, route := d, blockedTarget := some target }

/-- The exit unit after a matched piece has passed. -/
def ExitUnit.passed (x : ExitUnit) : ExitUnit := { x.accept with arrival := .absent, blockedTarget := none, route := .overflow }

/-- The list with a change of the records of one number. -/
def modNumber (n : RecordNo) (f : PieceRecord → PieceRecord) (rs : List PieceRecord) : List PieceRecord :=
  rs.map fun r => if r.number = n then f r else r

/-- What a move from `s` does to lane `m`, before bookings. -/
inductive Effect (s : State) (m : LaneId) : Lane → Prop
  | same : Effect s m (s.lane m)
  | inert {M : Lane} (h : (s.lane m).Inert M) : Effect s m M
  | freed (n : RecordNo) (away : s.poolWhole → s.exitsCoherent → s.onItsWay m n) : Effect s m ((s.lane m).freed n)
  | tokenLost (q : QueuedToken) (front rest : List QueuedToken) (queue : (s.lane m).tokens = front ++ q :: rest) :
      Effect s m { s.lane m with tokens := front ++ rest }
  | purged (f : LaneFault) (passes : (s.lane m).mode.passes = true) : Effect s m ((s.lane m).purged f)
  | appended (r : PieceRecord) (fresh : r.phase = .entering) (passes : (s.lane m).mode.passes = true) :
      Effect s m { s.lane m with
        tokens := (s.lane m).tokens.tail, inFlight := (s.lane m).inFlight ++ [r], mode := (s.lane m).mode.woken }
  | record (n : RecordNo) (f : PieceRecord → PieceRecord) (kept : s.poolWhole → ∀ r ∈ (s.lane m).inFlight, r.number = n → r.KeptBy f) :
      Effect s m { s.lane m with inFlight := modNumber n f (s.lane m).inFlight }
  | doubled (n : RecordNo) (ts : List Token) (away : s.poolWhole → s.onItsWay m n) :
      Effect s m { s.lane m with
        inFlight := modNumber n (fun x => { x with tokens := x.tokens ++ ts }) (s.lane m).inFlight, tokens := (s.lane m).tokens.tail }
  | sched (f : FoldLane → FoldLane) (kept : (s.lane m).sched.KeptBy f)
      (unfaulted : s.faultsCoherent → (s.lane m).mode ≠ .faulted ∨ f (s.lane m).sched = (s.lane m).sched) :
      Effect s m { s.lane m with sched := f (s.lane m).sched }
  | exitLevel (f : ExitUnit → ExitUnit) (arrival : (f (s.lane m).exit).arrival = (s.lane m).exit.arrival)
      (route : (f (s.lane m).exit).route = (s.lane m).exit.route) (held : (s.lane m).mode.passes = false) :
      Effect s m { s.lane m with exit := f (s.lane m).exit }
  | arrived (r : PieceRecord) (d : Destination) (target : Pos) (covers : (s.lane m).exit.rawLevel = .covered)
      (clear : (s.lane m).exit.level = .clear) (passes : (s.lane m).mode.passes = true) (candidate : s.candidate m = some r) :
      Effect s m { s.lane m with
        inFlight := modNumber r.number (fun x => { x with phase := .atExit, destination := some d }) (s.lane m).inFlight
        exit := (s.lane m).exit.matchedWith r.number d target }
  | phantom (target : Pos) (covers : (s.lane m).exit.rawLevel = .covered) (clear : (s.lane m).exit.level = .clear)
      (passes : (s.lane m).mode.passes = true) :
      Effect s m { s.lane m with exit := { (s.lane m).exit.accept with arrival := .phantom, blockedTarget := some target } }
  | departed (n : RecordNo) (arrival : (s.lane m).exit.arrival = .matched n) (clears : (s.lane m).exit.rawLevel = .clear)
      (passes : (s.lane m).mode.passes = true) : Effect s m { (s.lane m).freed n with exit := (s.lane m).exit.passed }
  | unfound (n : RecordNo) (arrival : (s.lane m).exit.arrival = .matched n) (missing : s.findRecord m n = none) :
      Effect s m { s.lane m with exit := (s.lane m).exit.passed }
  | uncovered (target : Option Pos) (unmatched : ∀ n, (s.lane m).exit.arrival ≠ .matched n)
      (clears : (s.lane m).exit.rawLevel = .clear) (passes : (s.lane m).mode.passes = true) :
      Effect s m { s.lane m with exit := { (s.lane m).exit.accept with arrival := .absent, blockedTarget := target } }
  | rerouted (r x : PieceRecord) (found : s.findRecord m r.number = some x) (atExit : x.phase = .atExit) :
      Effect s m { s.lane m with
        inFlight := modNumber r.number (fun x => { x with forceOverflow := true, destination := some .overflow }) (s.lane m).inFlight
        exit := { (s.lane m).exit with route := .overflow } }
  | queued {B : Lane} (books : (s.lane m).Books B) (q : QueuedToken) (room : (s.lane m).tokens.length < Config.tokenQueueCap)
      (passes : (s.lane m).mode.passes = true) : Effect s m { B with tokens := B.tokens ++ [q], mode := B.mode.woken }
  | turned {M : Lane} (turns : (s.lane m).Turns M) : Effect s m M
  | idled (suspended : (s.lane m).mode = .suspended) :
      Effect s m { s.lane m with
        mode := .idle, returnToWait := false
        entry := { (s.lane m).entry with openPiece := none, blockedTarget := none }
        exit := { (s.lane m).exit with arrival := .absent, blockedTarget := none, route := .overflow } }
  | faultCleared (faulted : (s.lane m).mode = .faulted) : Effect s m (s.lane m).clearFault
  | reset : Effect s m (s.lane m).toReset

/-- The lanes of `t` come from those of `s` by effects and bookings. -/
def Effects (s t : State) : Prop := ∀ m, ∃ B, Effect s m B ∧ B.Books (t.lane m)

/-! ## The lanes after the operations on records -/

/-- A SUSPENDED lane woken, as one change of the lane. -/
theorem State.wakeSuspended_lane (s : State) (l m : LaneId) :
    (s.wakeSuspended l).lane m = if m = l then { s.lane l with mode := (s.lane l).mode.woken } else s.lane m := by
  unfold State.wakeSuspended LaneMode.woken
  split
  · exact State.modLane_lane s l m fun L => { L with mode := .suspending }
  · split
    · next e => rw [e]
    · rfl

/-- The lane with a record at the tail of its list, and its head token taken. -/
def Lane.entered (L : Lane) (r : PieceRecord) : Lane := { L with tokens := L.tokens.tail, inFlight := L.inFlight ++ [r] }

theorem State.appendRecord_lane (s : State) (l m : LaneId) (n : RecordNo) (lead : Pos) :
    (s.appendRecord l n lead).lane m =
      if m = l then { (s.lane l).entered (s.newRecord l n lead) with mode := (s.lane l).mode.woken } else s.lane m := by
  have entered (k : LaneId) : ({ s.modLane l (·.entered (s.newRecord l n lead)) with free := s.free.tail } : State).lane k =
      if k = l then (s.lane l).entered (s.newRecord l n lead) else s.lane k :=
    State.modLane_lane s l k fun L => L.entered (s.newRecord l n lead)
  unfold State.appendRecord
  refine (State.wakeSuspended_lane _ l m).trans ?_
  by_cases h : m = l
  · rw [if_pos h, if_pos h]
    exact congrArg (fun L : Lane => { L with mode := L.mode.woken }) ((entered l).trans (if_pos rfl))
  · rw [if_neg h, if_neg h]
    exact (entered m).trans (if_neg h)

/-- What a destination does besides the lane's starved mark concerns places (R98 to R101). -/
theorem BooksAll.destinationFor (s : State) (l : LaneId) (r : PieceRecord) : BooksAll s (s.destinationFor l r).1 := by
  have starve (t : State) : BooksAll t (t.starve l) :=
    (Quiet.raise t .overflow (some l)).booked.trans (.modLane (f := fun L => { L with starved := true }) ⟨rfl, id, Or.inl rfl⟩ rfl)
  have place (t : State) (customer : Word) (article target : Nat) : BooksAll t (t.placeFor l customer article target).1 := by
    unfold State.placeFor
    split
    · exact .ofSame rfl rfl
    · split
      · exact .ofSame rfl rfl
      · exact starve t
  unfold State.destinationFor
  split
  · split
    · exact (Quiet.raise s _ _).booked
    · split
      · exact BooksAll.refl s
      · exact (Quiet.closeOtherIdentity s l _ _).booked.trans (place _ _ _ _)
  · exact BooksAll.refl s

theorem BooksAll.countIfDelivered (s : State) (r : PieceRecord) : BooksAll s (s.countIfDelivered r) := by
  have full (s : State) (p : PlaceId) (short : Bool) : BooksAll s (s.makeFull p short) := by
    rw [State.makeFull_eq]
    exact trans (t := s.joinQueue p short) (ofSame rfl rfl)
      ((Quiet.tellStackClosed _ p).booked.trans (Quiet.tryDischarge _).booked)
  have counted (s : State) (p : PlaceId) (t : Option Token) : BooksAll s (s.countDelivery p t) := by
    have piece : BooksAll s (s.modPlace p fun pl => pl.counted t) := ofSame rfl rfl
    unfold State.countDelivery
    dsimp only
    split
    · exact piece.trans (full _ p false)
    · split
      · exact piece.trans (Quiet.shortClose _ p).booked
      · exact piece
  unfold State.countIfDelivered
  split
  · exact counted s _ _
  · exact refl s

/-- A change of the Exit Unit and of the records of the lane is made alike before and after bookings. -/
theorem Lane.Books.exitChange {L M : Lane} (h : L.Books M) (rs : List PieceRecord → List PieceRecord) (f : ExitUnit → ExitUnit)
    (empty : rs [] = []) :
    Lane.Books { L with inFlight := rs L.inFlight, exit := f L.exit } { M with inFlight := rs M.inFlight, exit := f M.exit } :=
  h.ofEmptied (fun L => { L with inFlight := rs L.inFlight, exit := f L.exit }) (fun _ => rfl) (by conv_lhs => rw [h.same])
    fun tokens inFlight => ⟨tokens, by rw [inFlight]; exact empty⟩

/-- The claim and the assignment of a token are bookings, but for the cursor (R125, R129). -/
theorem State.claim_books (s : State) (l m : LaneId) : (s.lane m).Books ((s.claim l).lane m) := by
  cases can : s.canClaim l with
  | true =>
    have room : (s.lane l).openList.length < Config.openListCap := by
      unfold State.canClaim at can
      exact of_decide_eq_true (Bool.and_eq_true _ _ ▸ can).2
    rw [State.claim_of_can can, State.takeEntry_lane]
    split
    · next e =>
      subst e
      exact ⟨rfl, fun _ => by rw [List.length_append]; exact room, Or.inl rfl⟩
    · exact .refl _
  | false => exact (State.claim_quiet can).booked.lanes m

theorem State.setMode_books (s : State) (l m : LaneId) {mode : LaneMode} (works : (s.lane l).mode.works) (after : mode.works) :
    (s.lane m).Books ((s.setMode l mode).lane m) := by
  unfold State.setMode
  rw [State.modLane_lane]
  split
  · next e =>
    subst e
    exact ⟨rfl, id, Or.inr (Or.inl ⟨works, after⟩)⟩
  · exact .refl _

theorem State.wakeDry_books (s : State) (l m : LaneId) : (s.lane m).Books ((s.wakeDry l).lane m) := by
  unfold State.wakeDry
  split
  · next dry => exact s.setMode_books l m (dry ▸ Or.inr (Or.inl rfl)) (Or.inl rfl)
  · exact .refl _

theorem State.assign_books (s : State) (l m : LaneId) (e : EntryId) : (s.lane m).Books ((s.assign l e).lane m) := by
  have counted : (s.lane m).Books ((s.bumpEntry e 6).lane m) := .refl _
  have step (t : State) : (t.lane m).Books ((t.stepClaim l).lane m) := by
    unfold State.stepClaim
    split
    · exact t.claim_books l m
    · next can =>
      split
      · next running =>
        have mode : ((t.claim l).lane l).mode = (t.lane l).mode := by
          rw [(State.claim_quiet (by simpa using can)).lanes l]
        exact (t.claim_books l m).trans ((t.claim l).setMode_books l m (mode ▸ running ▸ Or.inl rfl) (Or.inr (Or.inl rfl)))
      · exact t.claim_books l m
  have quota (t : State) : (t.lane m).Books ((t.quotaStep l e).lane m) := by
    have moved : (t.lane m).Books (((t.setEntryStatus e .closing).modLane l fun L => { L with cursor := t.nextIndex l e }).lane m) := by
      rw [State.modLane_lane]
      split
      · next h => exact h ▸ ⟨rfl, id, Or.inl rfl⟩
      · exact .refl _
    exact moved.trans (step _)
  unfold State.assign
  dsimp only
  split
  · exact counted.trans (quota _)
  · exact counted

/-! ## The lanes after a reset -/

/-- What a warm reset writes off, it writes off in table memory and on the free list. -/
theorem State.loseTokens_lanes (s : State) (ts : List Token) : (s.loseTokens ts).lanes = s.lanes := by
  unfold State.loseTokens
  induction ts generalizing s with
  | nil => rfl
  | cons t ts ih => exact (ih _).trans rfl

theorem State.loseRecords_lanes (s : State) (l : LaneId) : (s.loseRecords l).lanes = s.lanes := by
  unfold State.loseRecords
  generalize (s.lane l).inFlight = rs
  induction rs generalizing s with
  | nil => rfl
  | cons r rs ih => exact (ih _).trans (s.loseTokens_lanes r.tokens)

theorem State.abortAtReset_lanes (s : State) (l : LaneId) : (s.abortAtReset l).lanes = s.lanes := by
  unfold State.abortAtReset
  generalize (s.lane l).openList = is
  induction is generalizing s with
  | nil => rfl
  | cons i is ih => exact (ih _).trans rfl

theorem State.foldl_lanes {α : Type} {f : State → α → State} (h : ∀ s a, (f s a).lanes = s.lanes) (xs : List α) (s : State) :
    (xs.foldl f s).lanes = s.lanes := by
  induction xs generalizing s with
  | nil => rfl
  | cons x xs ih => exact (ih _).trans (h s x)

theorem State.writeOff_lanes (s : State) : s.writeOff.lanes = s.lanes := by
  have queue (t : State) (l : LaneId) : (t.loseQueue l).lanes = t.lanes := t.loseTokens_lanes _
  unfold State.writeOff
  dsimp only
  rw [foldl_lanes abortAtReset_lanes, foldl_lanes queue, foldl_lanes loseRecords_lanes]

theorem State.toReset_lane (s : State) (m : LaneId) : s.toReset.lane m = (s.lane m).toReset := by
  unfold State.toReset
  exact State.mapLanes_lane s Lane.toReset m

theorem State.warmReset_lane (s : State) (m : LaneId) : s.warmReset.lane m = (s.lane m).toReset := by
  have cleared (t : State) : t.clearCounterPage.lanes = t.lanes := rfl
  unfold State.warmReset
  rw [State.toReset_lane]
  unfold State.lane
  rw [cleared, State.writeOff_lanes]

theorem State.powerOnReset_lane (s : State) (m : LaneId) : s.powerOnReset.lane m = (s.lane m).toReset := State.toReset_lane s m

namespace Effects

variable {s t : State} {l : LaneId}

theorem ofBooks (h : ∀ m, (s.lane m).Books (t.lane m)) : Effects s t :=
  fun m => ⟨_, .same, h m⟩

/-- An effect on one lane, with bookings on it and the others. -/
theorem ofLane {B : Lane} (effect : Effect s l B) (own : B.Books (t.lane l)) (others : ∀ m, m ≠ l → (s.lane m).Books (t.lane m)) :
    Effects s t := fun m => by
  by_cases h : m = l
  · exact h ▸ ⟨B, effect, own⟩
  · exact ⟨_, .same, others m h⟩

/-- An effect on one lane alone. -/
theorem ofModLane {f : Lane → Lane} (effect : Effect s l (f (s.lane l))) : Effects s (s.modLane l f) :=
  ofLane effect (State.modLane_lane_same s l f ▸ Lane.Books.refl _) fun _ h => State.modLane_lane_other s f h ▸ Lane.Books.refl _

/-- One change of a lane, and bookings. -/
theorem ofModLaneBooks {f : Lane → Lane} (effect : Effect s l (f (s.lane l))) (books : BooksAll (s.modLane l f) t) : Effects s t := by
  refine ofLane effect ?_ fun m h => ?_
  · exact State.modLane_lane_same s l f ▸ books.lanes l
  · exact State.modLane_lane_other s f h ▸ books.lanes m

/-! ### Records and tokens -/

theorem retire (n : RecordNo) (o : Retirement) (away : s.poolWhole → s.exitsCoherent → s.onItsWay l n) : Effects s (s.retire l n o) := by
  cases found : s.findRecord l n with
  | none =>
    unfold State.retire
    rw [found]
    exact ofBooks fun _ => Lane.Books.refl _
  | some r =>
    have number : r.number = n := by simpa using List.find?_some found
    have books := BooksAll.retired found o
    refine ofLane (.freed n away) ?_ fun m h => ?_
    · have own := books.lanes l
      rw [State.freeRecord_lane_same, number] at own
      exact own
    · exact State.freeRecord_lane_other s r h ▸ books.lanes m

theorem append (n : RecordNo) (lead : Pos) (passes : (s.lane l).mode.passes = true) : Effects s (s.appendRecord l n lead) := by
  refine ofLane (.appended (s.newRecord l n lead) rfl passes) ?_ fun m h => ?_
  · rw [State.appendRecord_lane, if_pos rfl]
    exact .refl _
  · rw [State.appendRecord_lane, if_neg h]
    exact .refl _

theorem double (r : PieceRecord) (away : s.poolWhole → s.onItsWay l r.number) : Effects s (s.takeDouble l r) := by
  unfold State.takeDouble
  split
  · refine ofLane (.doubled r.number (s.headToken l).toList away) ?_ fun m h => ?_
    · unfold State.popToken State.modRecord
      rw [State.modLane_lane_same, State.modLane_lane_same]
      exact .refl _
    · unfold State.popToken State.modRecord
      rw [State.modLane_lane_other _ _ h, State.modLane_lane_other _ _ h]
      exact .refl _
  · exact ofBooks fun _ => .refl _

/-! ### The exit -/

theorem arrive {r : PieceRecord} (p : Pos) (covers : (s.lane l).exit.rawLevel = .covered) (clear : (s.lane l).exit.level = .clear)
    (passes : (s.lane l).mode.passes = true) (candidate : s.candidate l = some r) :
    Effects s ((s.modExit l ExitUnit.accept).matchArrival l r p) := by
  let marked := (s.modExit l ExitUnit.accept).markMatched l r.number
  have own : marked.lane l =
      { s.lane l with
        inFlight := modNumber r.number (fun x => { x with phase := .atExit }) (s.lane l).inFlight
        exit := { (s.lane l).exit.accept with arrival := .matched r.number } } := by
    unfold marked State.markMatched State.modExit State.modRecord
    rw [State.modLane_lane_same, State.modLane_lane_same, State.modLane_lane_same]
    rfl
  have other (m : LaneId) (h : m ≠ l) : marked.lane m = s.lane m := by
    unfold marked State.markMatched State.modExit State.modRecord
    rw [State.modLane_lane_other _ _ h, State.modLane_lane_other _ _ h, State.modLane_lane_other _ _ h]
  have asked := BooksAll.destinationFor marked l r
  generalize destination : marked.destinationFor l r = d at asked
  generalize goal : p + posOf r.lengthOf + posOf ((s.modExit l ExitUnit.accept).exitWindow l) + 1 = target
  have result : (s.modExit l ExitUnit.accept).matchArrival l r p = d.1.setDestination l r.number d.2 target := by
    unfold State.matchArrival
    rw [← goal, ← destination]
  rw [result]
  refine ofLane (.arrived r d.2 target covers clear passes candidate) ?_ fun m h => ?_
  · have lane := (asked.lanes l).exitChange (modNumber r.number fun x => { x with destination := some d.2 })
      (fun x => { x with route := d.2, blockedTarget := some target }) rfl
    rw [own] at lane
    unfold State.setDestination State.modExit State.modRecord
    rw [State.modLane_lane_same, State.modLane_lane_same]
    have both : modNumber r.number (fun x => { x with phase := .atExit, destination := some d.2 }) (s.lane l).inFlight =
        modNumber r.number (fun x => { x with destination := some d.2 })
          (modNumber r.number (fun x => { x with phase := .atExit }) (s.lane l).inFlight) := by
      unfold modNumber
      rw [List.map_map]
      refine List.map_congr_left fun x _ => ?_
      by_cases h : x.number = r.number <;> simp [h]
    rw [both]
    exact lane
  · unfold State.setDestination State.modExit State.modRecord
    rw [State.modLane_lane_other _ _ h, State.modLane_lane_other _ _ h, ← other m h]
    exact asked.lanes m

theorem phantom (p : Pos) (covers : (s.lane l).exit.rawLevel = .covered) (clear : (s.lane l).exit.level = .clear)
    (passes : (s.lane l).mode.passes = true) : Effects s ((s.modExit l ExitUnit.accept).phantomArrival l p) := by
  generalize goal : p + posOf (s.modExit l ExitUnit.accept).maxPieceLength + posOf ((s.modExit l ExitUnit.accept).exitWindow l) + 1 = target
  have raised : BooksAll (s.modExit l ExitUnit.accept)
      (((s.modExit l ExitUnit.accept).addLaneCounter l phantomIndex 1).raise .phantom (some l)) :=
    .trans (t := (s.modExit l ExitUnit.accept).addLaneCounter l phantomIndex 1) (.ofSame rfl rfl) (Quiet.raise _ _ _).booked
  have lane (m : LaneId) := raised.lanes m
  unfold State.phantomArrival
  rw [goal]
  generalize ((s.modExit l ExitUnit.accept).addLaneCounter l phantomIndex 1).raise .phantom (some l) = u at lane
  unfold State.modExit at lane ⊢
  refine ofLane (.phantom target covers clear passes) ?_ fun m h => ?_
  · have own := lane l
    rw [State.modLane_lane_same] at own
    rw [State.modLane_lane_same]
    exact own.exitChange id (fun x => { x with arrival := .phantom, blockedTarget := some target }) rfl
  · have other := lane m
    rw [State.modLane_lane_other _ _ h] at other
    rw [State.modLane_lane_other _ _ h]
    exact other

theorem depart (clears : (s.lane l).exit.rawLevel = .clear) (passes : (s.lane l).mode.passes = true) :
    Effects s ((s.modExit l ExitUnit.accept).exitTrailing l) := by
  have accepted : (s.modExit l ExitUnit.accept).lane l = { s.lane l with exit := (s.lane l).exit.accept } := State.modLane_lane_same s l _
  have other (m : LaneId) (h : m ≠ l) : (s.modExit l ExitUnit.accept).lane m = s.lane m := State.modLane_lane_other s _ h
  have arrival : ((s.modExit l ExitUnit.accept).lane l).exit.arrival = (s.lane l).exit.arrival := by rw [accepted]; rfl
  unfold State.exitTrailing
  rw [arrival]
  cases stands : (s.lane l).exit.arrival with
  | absent =>
    refine ofLane (.uncovered (s.lane l).exit.blockedTarget (by simp [stands]) clears passes) ?_ fun m h => ?_
    · rw [accepted, ← stands]
      exact .refl _
    · rw [other m h]
      exact .refl _
  | phantom =>
    refine ofLane (.uncovered none (by simp [stands]) clears passes) ?_ fun m h => ?_
    · dsimp only
      unfold State.modExit
      rw [State.modLane_lane_same, State.modLane_lane_same]
      exact .refl _
    · dsimp only
      unfold State.modExit
      rw [State.modLane_lane_other _ _ h, State.modLane_lane_other _ _ h]
      exact .refl _
  | matched n =>
    dsimp only
    generalize start : s.modExit l ExitUnit.accept = u at accepted other
    have inFlight : (u.lane l).inFlight = (s.lane l).inFlight := by rw [accepted]
    have cleared (v : State) : (v.clearArrival l).lane l =
        { v.lane l with exit := { (v.lane l).exit with arrival := .absent, blockedTarget := none, route := .overflow } } :=
      State.modLane_lane_same v l _
    have clearedOther (v : State) (m : LaneId) (h : m ≠ l) : (v.clearArrival l).lane m = v.lane m := State.modLane_lane_other v _ h
    unfold State.passExit
    cases found : u.findRecord l n with
    | none =>
      refine ofLane (.unfound n stands (by unfold State.findRecord at found ⊢; rw [← inFlight]; exact found)) ?_ fun m h => ?_
      · rw [cleared, accepted]
        exact .refl _
      · rw [clearedOther _ m h, other m h]
        exact .refl _
    | some r =>
      dsimp only
      have counted := BooksAll.countIfDelivered u r
      generalize u.countIfDelivered r = v at counted
      have foundAfter : v.findRecord l n = some r := by
        unfold State.findRecord at found ⊢
        rw [(counted.lanes l).same]
        exact found
      have number : r.number = n := by simpa using List.find?_some found
      have retired := BooksAll.retired foundAfter (exitOutcome r)
      refine ofLane (.departed n stands clears passes) ?_ fun m h => ?_
      · have own := retired.lanes l
        rw [State.freeRecord_lane_same, number] at own
        have freed := (counted.lanes l).ofEmptied (·.freed n) (fun _ => rfl)
          (by unfold Lane.freed; conv_lhs => rw [(counted.lanes l).same])
          fun tokens inFlight => ⟨tokens, by unfold Lane.freed; rw [inFlight]; rfl⟩
        have passed := (freed.trans own).exitChange id
          (fun x => { x with arrival := .absent, blockedTarget := none, route := .overflow }) rfl
        rw [accepted] at passed
        rw [cleared]
        exact passed
      · rw [clearedOther _ m h]
        have later := retired.lanes m
        rw [State.freeRecord_lane_other _ _ h] at later
        exact (other m h ▸ counted.lanes m).trans later

theorem reroute {r x : PieceRecord} (found : s.findRecord l r.number = some x) (atExit : x.phase = .atExit) :
    Effects s (s.rerouteAtExit l r) := by
  refine ofLane (.rerouted r x found atExit) ?_ fun m h => ?_
  · have own := (BooksAll.leavePlace ((s.modRecord l r.number fun x => { x with forceOverflow := true, destination := some .overflow }).modExit l
      fun x => { x with route := .overflow }) r).lanes l
    unfold State.modExit State.modRecord at own
    rw [State.modLane_lane_same, State.modLane_lane_same] at own
    exact own
  · have later := (BooksAll.leavePlace ((s.modRecord l r.number fun x => { x with forceOverflow := true, destination := some .overflow }).modExit l
      fun x => { x with route := .overflow }) r).lanes m
    unfold State.modExit State.modRecord at later
    rw [State.modLane_lane_other _ _ h, State.modLane_lane_other _ _ h] at later
    exact later

/-! ### Tokens -/

/-- A token accepted after a booking that gives the lane its ACTIVE entry. -/
theorem accept {u : State} (a : Announcement) (e : EntryId) (before : ∀ m, (s.lane m).Books (u.lane m))
    (room : (s.lane a.lane).tokens.length < Config.tokenQueueCap) (passes : (s.lane a.lane).mode.passes = true) :
    Effects s (u.acceptToken a e) := by
  have assigned (m : LaneId) := (before m).trans (u.assign_books a.lane m e)
  unfold State.acceptToken
  generalize u.tokenFor a e = t
  generalize u.assign a.lane e = v at assigned
  unfold State.queueToken
  refine ofLane (.queued (assigned a.lane) ⟨t, v.track.position, v.track.position + posOf (v.tokenTravelLimit a.lane)⟩ room passes) ?_
    fun m h => ?_
  · rw [State.wakeSuspended_lane, if_pos rfl, State.modLane_lane_same]
    exact .refl _
  · rw [State.wakeSuspended_lane, if_neg h, State.modLane_lane_other _ _ h]
    exact assigned m

/-! ### The moves -/

theorem ofLaneMove (h : LaneMove l s t) : Effects s t := by
  cases h with
  | inert h => exact fun m => ⟨_, .inert (h.lanes m), .refl _⟩
  | retire n o away => exact retire n o away
  | loseToken q front rest queue => exact ofModLaneBooks (.tokenLost q front rest queue) (.loseToken _ l q.token)
  | purge f passes =>
    obtain ⟨own, others, _, _⟩ := State.purge_books s l f
    exact ofLane (.purged f passes) own others
  | append n lead rest free passes => exact append n lead passes
  | record n f kept => exact ofModLane (.record n f kept)
  | double r away => exact double r away
  | sched f kept unfaulted => exact ofModLane (.sched f kept fun faults => Or.inl (unfaulted faults))
  | windows f kept empty =>
    exact ofModLane (.sched f kept fun faults => by
      by_cases faulted : (s.lane l).mode = .faulted
      · exact Or.inr (empty ((faults l).2 faulted).2.2.1)
      · exact Or.inl faulted)
  | exitLevel f arrival route held => exact ofModLane (.exitLevel f arrival route held)
  | arrive r p covers clear passes candidate => exact arrive p covers clear passes candidate
  | phantom p covers clear passes => exact phantom p covers clear passes
  | depart clears passes => exact depart clears passes
  | reroute r x found atExit same => exact reroute found (same.1 ▸ atExit)

theorem ofMove (h : Move s t) : Effects s t := by
  cases h with
  | lane l h => exact ofLaneMove h
  | inert h => exact fun m => ⟨_, .inert (h.lanes m), .refl _⟩
  | accept a e active room passes => exact accept a e (fun _ => .refl _) room passes
  | adopt a can room passes => exact accept a _ (fun m => (s.claim_books _ m).trans ((s.claim _).wakeDry_books _ m)) room passes
  | writeOff l t => exact ofBooks fun m => (s.assign_books l m _).trans ((BooksAll.loseToken _ l t).lanes m)
  | claim l => exact ofBooks (s.claim_books l)
  | turn l f turns => exact ofModLane (.turned turns)
  | abort l => exact ofBooks (Loose.abortLane s l).booked.lanes
  | idle l suspended =>
    refine ofLane (.idled suspended) ?_ fun m h => ?_
    · unfold State.enterIdle State.holdEdges
      rw [State.modLane_lane_same, State.modLane_lane_same]
      exact .refl _
    · unfold State.enterIdle State.holdEdges
      rw [State.modLane_lane_other _ _ h, State.modLane_lane_other _ _ h]
      exact .refl _
  | clearFault l faulted => exact ofModLane (.faultCleared faulted)
  | wrote p w => exact ofBooks fun _ => .refl _
  | warmReset => exact fun m => ⟨_, .reset, by rw [State.warmReset_lane]; exact .refl _⟩
  | powerOn => exact fun m => ⟨_, .reset, by rw [State.powerOnReset_lane]; exact .refl _⟩

end Effects

end Sys2Proof.Machine
end


section
/-!
# The conditions on single lanes

The room of queues, the marks of a fault, the rest of IDLE and SUSPENDED lanes and the drive of the outputs: each is kept by every effect and by
the bookings after it.
-/

namespace Sys2Proof.Machine

/-- A condition on each lane, kept by effects and by bookings, is kept by moves. -/
theorem Effects.keep {P : Lane → Prop} {s t : State} (effects : Effects s t) (effect : ∀ m B, Effect s m B → P B)
    (books : ∀ B M : Lane, B.Books M → P B → P M) : ∀ m, P (t.lane m) := fun m => by
  obtain ⟨B, done, booked⟩ := effects m
  exact books B _ booked (effect m B done)

/-! ## The fields that effects leave -/

theorem Lane.Inert.kept {L M : Lane} (h : L.Inert M) :
    M.tokens = L.tokens ∧ M.inFlight = L.inFlight ∧ M.sched = L.sched ∧ M.openList = L.openList ∧ M.mode = L.mode ∧
    M.faultCode = L.faultCode := by
  rw [h]
  exact ⟨rfl, rfl, rfl, rfl, rfl, rfl⟩

theorem Lane.Turns.kept {L M : Lane} (h : L.Turns M) :
    M.tokens = L.tokens ∧ M.inFlight = L.inFlight ∧ M.sched = L.sched ∧ M.openList = L.openList ∧ M.faultCode = L.faultCode := by
  obtain ⟨tokens, inFlight, sched, openList, _, faultCode⟩ := h.same.kept
  exact ⟨tokens, inFlight, sched, openList, faultCode⟩

theorem Lane.Books.kept {L M : Lane} (h : L.Books M) :
    M.tokens = L.tokens ∧ M.inFlight = L.inFlight ∧ M.sched = L.sched ∧ M.faultCode = L.faultCode ∧ M.exit = L.exit := by
  rw [h.same]
  exact ⟨rfl, rfl, rfl, rfl, rfl⟩

/-- Bookings neither bring a lane to FAULTED or IDLE nor out of it. -/
theorem Lane.Books.mode_iff {L M : Lane} (h : L.Books M) {mode : LaneMode} (still : mode = .faulted ∨ mode = .idle) :
    M.mode = mode ↔ L.mode = mode := by
  rcases h.mode with e | ⟨before, after⟩ | ⟨before, after, _⟩
  · rw [e]
  · rcases still with rfl | rfl <;> rcases before with e | e | e <;> rcases after with f | f | f <;> simp [e, f]
  · rcases still with rfl | rfl <;> simp [before, after]

theorem LaneMode.ne_faulted_of_passes {m : LaneMode} (h : m.passes = true) : m ≠ .faulted := by
  rintro rfl
  cases h

theorem LaneMode.ne_idle_of_passes {m : LaneMode} (h : m.passes = true) : m ≠ .idle := by
  rintro rfl
  cases h

theorem LaneMode.woken_ne_suspended (m : LaneMode) : m.woken ≠ .suspended := by cases m <;> simp [LaneMode.woken]

theorem LaneMode.woken_eq_iff {m n : LaneMode} (h : n = .faulted ∨ n = .idle) : m.woken = n ↔ m = n := by
  rcases h with rfl | rfl <;> cases m <;> simp [LaneMode.woken]

@[simp] theorem modNumber_nil (n : RecordNo) (f : PieceRecord → PieceRecord) : modNumber n f [] = [] := rfl

theorem Lane.freed_nil {L : Lane} (h : L.inFlight = []) (n : RecordNo) : (L.freed n).inFlight = [] := by
  unfold Lane.freed
  rw [h]
  rfl

/-! ## The room of the queues -/

theorem Effect.bounded {s : State} {m : LaneId} {M : Lane} (effect : Effect s m M) (bounded : (s.lane m).bounded) : M.bounded := by
  obtain ⟨tokens, windows, opens⟩ := bounded
  cases effect with
  | same => exact ⟨tokens, windows, opens⟩
  | inert h =>
    obtain ⟨sameTokens, _, sameSched, sameOpen, _⟩ := h.kept
    unfold Lane.bounded
    rw [sameTokens, sameSched, sameOpen]
    exact ⟨tokens, windows, opens⟩
  | freed n => exact ⟨tokens, (List.length_filter_le _ _).trans windows, opens⟩
  | tokenLost q front rest queue =>
    refine ⟨?_, windows, opens⟩
    rw [queue] at tokens
    simp only [List.length_append, List.length_cons] at tokens ⊢
    omega
  | purged => exact ⟨Nat.zero_le _, Nat.zero_le _, opens⟩
  | appended => exact ⟨by simpa using (Nat.sub_le _ _).trans tokens, windows, opens⟩
  | record => exact ⟨tokens, windows, opens⟩
  | doubled => exact ⟨by simpa using (Nat.sub_le _ _).trans tokens, windows, opens⟩
  | sched f kept => exact ⟨tokens, kept.room windows, opens⟩
  | exitLevel => exact ⟨tokens, windows, opens⟩
  | arrived => exact ⟨tokens, windows, opens⟩
  | phantom => exact ⟨tokens, windows, opens⟩
  | departed => exact ⟨tokens, (List.length_filter_le _ _).trans windows, opens⟩
  | unfound => exact ⟨tokens, windows, opens⟩
  | uncovered => exact ⟨tokens, windows, opens⟩
  | rerouted => exact ⟨tokens, windows, opens⟩
  | queued books q room =>
    obtain ⟨sameTokens, _, sameSched, _⟩ := books.kept
    refine ⟨?_, by rw [sameSched]; exact windows, books.room opens⟩
    rw [List.length_append, sameTokens]
    exact room
  | turned turns =>
    obtain ⟨sameTokens, _, sameSched, sameOpen, _⟩ := turns.kept
    unfold Lane.bounded
    rw [sameTokens, sameSched, sameOpen]
    exact ⟨tokens, windows, opens⟩
  | idled => exact ⟨tokens, windows, opens⟩
  | faultCleared => exact ⟨tokens, windows, opens⟩
  | reset => exact ⟨Nat.zero_le _, Nat.zero_le _, Nat.zero_le _⟩

theorem Lane.Books.bounded {B M : Lane} (books : B.Books M) (bounded : B.bounded) : M.bounded := by
  obtain ⟨tokens, windows, opens⟩ := bounded
  obtain ⟨sameTokens, _, sameSched, _⟩ := books.kept
  exact ⟨sameTokens ▸ tokens, sameSched ▸ windows, books.room opens⟩

/-- Settles O6: the ring's queues gain where they have room, and so do a lane's queues by every effect. -/
theorem queuesBoundedKept : Obligations.QueuesBoundedKept :=
  ⟨kept_of_moves fun _ _ move => (Steady.ofMove move).ring,
    kept_of_moves fun _ _ move bounded =>
      (Effects.ofMove move).keep (fun m _ effect => effect.bounded (bounded m)) fun _ _ books => books.bounded⟩

/-! ## Faults -/

/-- The two conditions on faults, of one lane. -/
def Lane.faultSound (L : Lane) : Prop := L.faultMarked ∧ L.faultEmpty

/-- A lane that passes edges has no fault code and no gate hold. -/
theorem Lane.faultSound.clear {L : Lane} (h : L.faultSound) (passes : L.mode ≠ .faulted) :
    L.faultCode.isSome ≠ true ∧ L.sched.gateHold ≠ true :=
  ⟨fun code => passes (h.1.1.2 code), fun hold => passes (h.1.2.2 hold)⟩

/-- A lane out of FAULTED with neither code nor hold. -/
theorem Lane.faultSound_of_clear {L : Lane} (passes : L.mode ≠ .faulted) (code : L.faultCode.isSome ≠ true)
    (hold : L.sched.gateHold ≠ true) : L.faultSound :=
  ⟨⟨⟨fun h => absurd h passes, fun h => absurd h code⟩, ⟨fun h => absurd h passes, fun h => absurd h hold⟩⟩, fun h => absurd h passes⟩

/-- A change that keeps mode, code and hold, and what a FAULTED lane does not hold. -/
theorem Lane.faultSound.congr {L M : Lane} (h : L.faultSound) (mode : M.mode = .faulted ↔ L.mode = .faulted) (code : M.faultCode = L.faultCode)
    (hold : M.sched.gateHold = L.sched.gateHold)
    (empty : L.mode = .faulted → L.tokens = [] → L.inFlight = [] → L.sched.windows = [] → L.sched.gate = true →
      M.tokens = [] ∧ M.inFlight = [] ∧ M.sched.windows = [] ∧ M.sched.gate = true) : M.faultSound := by
  obtain ⟨⟨marked, held⟩, none⟩ := h
  refine ⟨⟨by rw [mode, code]; exact marked, by rw [mode, hold]; exact held⟩, fun faulted => ?_⟩
  obtain ⟨tokens, inFlight, windows, gate⟩ := none (mode.1 faulted)
  exact empty (mode.1 faulted) tokens inFlight windows gate

theorem Lane.Books.faultSound {B M : Lane} (books : B.Books M) (sound : B.faultSound) : M.faultSound := by
  obtain ⟨tokens, inFlight, sched, code, _⟩ := books.kept
  refine sound.congr (books.mode_iff (Or.inl rfl)) code (by rw [sched]) fun _ noTokens noRecords noWindows gate => ?_
  rw [tokens, inFlight, sched]
  exact ⟨noTokens, noRecords, noWindows, gate⟩

theorem Effect.faultSound {s : State} {m : LaneId} {M : Lane} (effect : Effect s m M) (faults : s.faultsCoherent) : M.faultSound := by
  have sound : (s.lane m).faultSound := faults m
  cases effect with
  | same => exact sound
  | inert h =>
    obtain ⟨tokens, inFlight, sched, _, mode, code⟩ := h.kept
    refine sound.congr (by rw [mode]) code (by rw [sched]) fun _ noTokens noRecords noWindows gate => ?_
    rw [tokens, inFlight, sched]
    exact ⟨noTokens, noRecords, noWindows, gate⟩
  | freed n =>
    refine sound.congr Iff.rfl rfl rfl fun _ noTokens noRecords noWindows gate => ⟨noTokens, Lane.freed_nil noRecords n, ?_, gate⟩
    unfold Lane.freed FoldLane.dropPiece
    rw [noWindows]
    rfl
  | tokenLost q front rest queue =>
    refine sound.congr Iff.rfl rfl rfl fun _ noTokens noRecords noWindows gate => ?_
    rw [queue] at noTokens
    simp at noTokens
  | purged f =>
    exact ⟨⟨⟨fun _ => rfl, fun _ => rfl⟩, ⟨fun _ => rfl, fun _ => rfl⟩⟩, fun _ => ⟨rfl, rfl, rfl, rfl⟩⟩
  | appended r fresh passes =>
    have unfaulted := LaneMode.ne_faulted_of_passes passes
    obtain ⟨code, hold⟩ := sound.clear unfaulted
    exact Lane.faultSound_of_clear (fun h => unfaulted ((LaneMode.woken_eq_iff (Or.inl rfl)).1 h)) code hold
  | record n f =>
    refine sound.congr Iff.rfl rfl rfl fun _ noTokens noRecords noWindows gate => ⟨noTokens, ?_, noWindows, gate⟩
    rw [noRecords]
    rfl
  | doubled n ts =>
    refine sound.congr Iff.rfl rfl rfl fun _ noTokens noRecords noWindows gate => ⟨?_, ?_, noWindows, gate⟩
    · rw [noTokens]; rfl
    · rw [noRecords]; rfl
  | sched f kept unfaulted =>
    refine sound.congr Iff.rfl rfl kept.gateHold fun faulted noTokens noRecords noWindows gate => ?_
    rcases unfaulted faults with not | same
    · exact absurd faulted not
    · rw [same]
      exact ⟨noTokens, noRecords, noWindows, gate⟩
  | exitLevel => exact sound
  | arrived r d target covers clear passes =>
    obtain ⟨code, hold⟩ := sound.clear (LaneMode.ne_faulted_of_passes passes)
    exact Lane.faultSound_of_clear (LaneMode.ne_faulted_of_passes passes) code hold
  | phantom => exact sound
  | departed n arrival clears passes =>
    obtain ⟨code, hold⟩ := sound.clear (LaneMode.ne_faulted_of_passes passes)
    exact Lane.faultSound_of_clear (LaneMode.ne_faulted_of_passes passes) code hold
  | unfound => exact sound
  | uncovered => exact sound
  | rerouted =>
    refine sound.congr Iff.rfl rfl rfl fun _ noTokens noRecords noWindows gate => ⟨noTokens, ?_, noWindows, gate⟩
    rw [noRecords]
    rfl
  | queued books q room passes =>
    have unfaulted := mt (books.mode_iff (Or.inl rfl)).1 (LaneMode.ne_faulted_of_passes passes)
    obtain ⟨code, hold⟩ := (books.faultSound sound).clear unfaulted
    exact Lane.faultSound_of_clear (fun h => unfaulted ((LaneMode.woken_eq_iff (Or.inl rfl)).1 h)) code hold
  | turned turns =>
    obtain ⟨_, _, sched, _, code⟩ := turns.kept
    obtain ⟨noCode, noHold⟩ := sound.clear turns.before
    exact Lane.faultSound_of_clear (LaneMode.ne_faulted_of_passes turns.after) (code ▸ noCode) (sched ▸ noHold)
  | idled suspended =>
    obtain ⟨code, hold⟩ := sound.clear (by rw [suspended]; decide)
    exact Lane.faultSound_of_clear (fun h => by cases h) code hold
  | faultCleared => exact Lane.faultSound_of_clear (fun h => by cases h) (fun h => by cases h) fun h => by cases h
  | reset => exact Lane.faultSound_of_clear (fun h => by cases h) (fun h => by cases h) fun h => by cases h

theorem faultsCoherent_move {s t : State} (move : Move s t) (faults : s.faultsCoherent) : t.faultsCoherent :=
  (Effects.ofMove move).keep (P := Lane.faultSound) (fun _ _ effect => effect.faultSound faults) fun _ _ books => books.faultSound

/-! ## Rest -/

theorem Lane.Books.restsEmpty {B M : Lane} (books : B.Books M) (rests : B.restsEmpty) : M.restsEmpty := by
  obtain ⟨tokens, inFlight, _⟩ := books.kept
  unfold Lane.restsEmpty
  rw [tokens, inFlight]
  rintro (idle | suspended)
  · exact rests (Or.inl ((books.mode_iff (Or.inr rfl)).1 idle))
  · rcases books.mode with e | ⟨_, works⟩ | ⟨_, _, empty⟩
    · exact rests (Or.inr (e ▸ suspended))
    · exact absurd (suspended ▸ works) Lane.Books.not_works_suspended
    · exact empty

/-- A change that keeps the state, and empty lists empty. -/
theorem Lane.restsEmpty.congr {L M : Lane} (h : L.restsEmpty) (mode : M.mode = L.mode)
    (empty : L.tokens = [] → L.inFlight = [] → M.tokens = [] ∧ M.inFlight = []) : M.restsEmpty := fun rests => by
  obtain ⟨tokens, inFlight⟩ := h (mode ▸ rests)
  exact empty tokens inFlight

theorem Effect.restsEmpty {s : State} {m : LaneId} {M : Lane} (effect : Effect s m M) (faults : s.faultsCoherent)
    (rests : (s.lane m).restsEmpty) : M.restsEmpty := by
  cases effect with
  | same => exact rests
  | inert h =>
    obtain ⟨tokens, inFlight, _, _, mode, _⟩ := h.kept
    exact rests.congr mode fun noTokens noRecords => ⟨tokens.trans noTokens, inFlight.trans noRecords⟩
  | freed n => exact rests.congr rfl fun noTokens noRecords => ⟨noTokens, Lane.freed_nil noRecords n⟩
  | tokenLost q front rest queue => exact rests.congr rfl fun noTokens _ => by simp [queue] at noTokens
  | purged => rintro (h | h) <;> cases h
  | appended r fresh passes =>
    rintro (idle | suspended)
    · exact absurd ((LaneMode.woken_eq_iff (Or.inr rfl)).1 idle) (LaneMode.ne_idle_of_passes passes)
    · exact absurd suspended (LaneMode.woken_ne_suspended _)
  | record n f => exact rests.congr rfl fun noTokens noRecords => ⟨noTokens, by rw [noRecords]; rfl⟩
  | doubled n ts => exact rests.congr rfl fun noTokens noRecords => ⟨by rw [noTokens]; rfl, by rw [noRecords]; rfl⟩
  | sched => exact rests
  | exitLevel => exact rests
  | arrived => exact rests.congr rfl fun noTokens noRecords => ⟨noTokens, by rw [noRecords]; rfl⟩
  | phantom => exact rests
  | departed n => exact rests.congr rfl fun noTokens noRecords => ⟨noTokens, Lane.freed_nil noRecords n⟩
  | unfound => exact rests
  | uncovered => exact rests
  | rerouted => exact rests.congr rfl fun noTokens noRecords => ⟨noTokens, by rw [noRecords]; rfl⟩
  | queued books q room passes =>
    rintro (idle | suspended)
    · exact absurd ((books.mode_iff (Or.inr rfl)).1 ((LaneMode.woken_eq_iff (Or.inr rfl)).1 idle)) (LaneMode.ne_idle_of_passes passes)
    · exact absurd suspended (LaneMode.woken_ne_suspended _)
  | turned turns =>
    obtain ⟨tokens, inFlight, _⟩ := turns.kept
    rintro (idle | suspended)
    · exact absurd idle (LaneMode.ne_idle_of_passes turns.after)
    · rw [tokens, inFlight]
      exact turns.rests suspended
  | idled suspended => exact fun _ => rests (Or.inr suspended)
  | faultCleared faulted =>
    obtain ⟨tokens, inFlight, _⟩ := (faults m).2 faulted
    exact fun _ => ⟨tokens, inFlight⟩
  | reset => exact fun _ => ⟨rfl, rfl⟩

theorem restCoherent_move {s t : State} (move : Move s t) (faults : s.faultsCoherent) (rests : s.restCoherent) : t.restCoherent :=
  (Effects.ofMove move).keep (fun m _ effect => effect.restsEmpty faults (rests m)) fun _ _ books => books.restsEmpty

/-- Settles O8: a fault's marks stand and fall with FAULTED, which a purge enters empty; SUSPENDED is entered empty. -/
theorem faultsAndRestKept : Obligations.FaultsAndRestKept :=
  ⟨kept_of_moves fun _ _ move => faultsCoherent_move move,
    kept_of_moves fun _ _ move ⟨faults, rests⟩ => ⟨faultsCoherent_move move faults, restCoherent_move move faults rests⟩⟩

/-! ## Outputs -/

theorem FoldLane.driven_of_quiet {fl : FoldLane} (folds : ∀ f : StationId, fl.folds[f] = false) (gate : fl.gate = true → fl.gateHold = true)
    (windows : fl.windows = []) : fl.driven :=
  ⟨fun f h => absurd (folds f ▸ h) Bool.false_ne_true, fun h => Or.inl (gate h), by simp [windows]⟩

theorem Effect.driven {s : State} {m : LaneId} {M : Lane} (effect : Effect s m M)
    (driven : (s.lane m).sched.driven) : M.sched.driven := by
  cases effect with
  | inert h => rw [h.kept.2.2.1]; exact driven
  | freed n => exact FoldLane.driven_dropPiece driven n
  | purged => exact FoldLane.driven_of_quiet (fun f => by simp [Lane.purged]) (fun _ => rfl) rfl
  | sched f kept => exact kept.driven driven
  | departed n => exact FoldLane.driven_dropPiece driven n
  | queued books => exact books.kept.2.2.1.symm ▸ driven
  | turned turns => rw [turns.kept.2.2.1]; exact driven
  | reset => exact FoldLane.driven_of_quiet (fun f => by simp [Lane.toReset, Lane.reset, FoldLane.reset]) (fun h => by cases h) rfl
  | faultCleared => exact ⟨driven.1, fun h => (by cases h), driven.2.2⟩
  | _ => exact driven

theorem outputsDriven_move {s t : State} (move : Move s t) (driven : s.outputsDriven) : t.outputsDriven :=
  (Effects.ofMove move).keep (P := fun L => L.sched.driven) (fun m _ effect => effect.driven (driven m)) fun _ _ books driven =>
    books.kept.2.2.1 ▸ driven

end Sys2Proof.Machine
end


section
/-!
# What commands leave of the plan and the track

The pages of the configuration and the planned words of the entries are written by WRITE TABLE and power-on alone; the Track Monitor is changed by
its own commands and the resets alone.
-/

namespace Sys2Proof.Machine

/-! ## The planned words -/

/-- The addresses of pages 0, 1, 2, 3 and 5 and of the words 1 to 4 of the entries. -/
def Planned (a : Nat) : Prop :=
  (∃ page ∈ [0, 1, 2, 3, 5], ∃ offset < 1024, a = pageBase page + offset) ∨
  ∃ (e : EntryId), ∃ k ∈ [1, 2, 3, 4], a = pageBase 4 + (12 * e.val + k)

theorem planned_page {page offset : Nat} (hp : page ∈ [0, 1, 2, 3, 5]) (ho : offset < 1024) : Planned (pageBase page + offset) :=
  Or.inl ⟨page, hp, offset, ho, rfl⟩

theorem planned_entry (e : EntryId) {k : Nat} (hk : k ∈ [1, 2, 3, 4]) : Planned (pageBase 4 + (12 * e.val + k)) := Or.inr ⟨e, k, hk, rfl⟩

/-- No planned word is an entry's status or runtime word. -/
theorem Planned.ne_entry {a : Nat} (h : Planned a) (e : EntryId) {k : Nat} (hk : k < 12) (runtime : k = 0 ∨ 5 ≤ k) :
    a ≠ pageBase 4 + (12 * e.val + k) := by
  have := e.isLt
  rcases h with ⟨page, hp, offset, ho, rfl⟩ | ⟨f, j, hj, rfl⟩
  · unfold pageBase
    simp only [List.mem_cons, List.not_mem_nil, or_false] at hp
    omega
  · simp only [List.mem_cons, List.not_mem_nil, or_false] at hj
    intro same
    have := (entryAddress_inj (by omega) hk same).2
    omega

/-- No planned word is on page 7. -/
theorem Planned.ne_counter {a : Nat} (h : Planned a) (offset : Nat) : a ≠ pageBase 7 + offset := by
  rcases h with ⟨page, hp, o, ho, rfl⟩ | ⟨f, j, hj, rfl⟩
  · unfold pageBase
    simp only [List.mem_cons, List.not_mem_nil, or_false] at hp
    omega
  · have := f.isLt
    simp only [List.mem_cons, List.not_mem_nil, or_false] at hj
    unfold pageBase
    omega

theorem Planned.not_booked {a : Nat} (h : Planned a) (l : LaneId) : ¬ Booked l a := by
  rintro (⟨e, k, rfl, hk, runtime⟩ | ⟨k, _, rfl⟩)
  · exact h.ne_entry e hk runtime rfl
  · exact h.ne_counter _ rfl

/-- The planned words are kept. -/
def PlanKept (s t : State) : Prop := ∀ a, Planned a → t.mem.read a = s.mem.read a

/-- The planned words and the Track Monitor are kept. -/
structure Beside (s t : State) : Prop where
  plan : PlanKept s t
  track : t.track = s.track

theorem Inside.beside {l : LaneId} {s t : State} (h : Inside l s t) : Beside s t := ⟨fun a planned => h.read a (planned.not_booked l), h.track⟩

namespace PlanKept

variable {s t u : State}

theorem refl (s : State) : PlanKept s s := fun _ _ => rfl

theorem trans (h : PlanKept s t) (k : PlanKept t u) : PlanKept s u := fun a planned => (k a planned).trans (h a planned)

theorem foldl {α : Type} {f : State → α → State} (h : ∀ s a, PlanKept s (f s a)) (xs : List α) (s : State) : PlanKept s (xs.foldl f s) := by
  induction xs generalizing s with
  | nil => exact refl s
  | cons x xs ih => exact (h s x).trans (ih _)

theorem setEntryWord (s : State) (e : EntryId) {k : Nat} (w : Word) (hk : k < 12) (runtime : k = 0 ∨ 5 ≤ k) :
    PlanKept s (s.setEntryWord e k w) := fun _ planned => Mem.read_write_other _ w (planned.ne_entry e hk runtime)

theorem writeOff (s : State) : PlanKept s s.writeOff := by
  have tokens (s : State) (ts : List Token) : PlanKept s (s.loseTokens ts) := by
    unfold State.loseTokens
    exact foldl (f := fun (s : State) (t : Token) => s.bumpEntry t.entry Retirement.lost.entryIndex)
      (fun s t => setEntryWord s t.entry _ (by decide) (Or.inr (by decide))) ts s
  have record (s : State) (r : PieceRecord) : PlanKept s { s.loseTokens r.tokens with free := s.free ++ [r.number] } := tokens s r.tokens
  have records (s : State) (l : LaneId) : PlanKept s (s.loseRecords l) := foldl record _ s
  have queue (s : State) (l : LaneId) : PlanKept s (s.loseQueue l) := tokens s _
  have abort (s : State) (it : OpenItem) : PlanKept s (s.writeBackEntry it.entry .aborted) :=
    setEntryWord s it.entry _ (by decide) (Or.inl rfl)
  have aborts (s : State) (l : LaneId) : PlanKept s (s.abortAtReset l) := foldl abort _ s
  unfold State.writeOff
  exact (foldl records allLanes s).trans ((foldl queue allLanes _).trans (foldl aborts allLanes _))

theorem warmReset (s : State) : PlanKept s s.warmReset := by
  have cleared (t : State) : PlanKept t t.clearCounterPage := fun a planned => by
    have outside : ¬ (pageBase 7 ≤ a ∧ a < pageBase 8) := by
      rintro ⟨low, high⟩
      exact planned.ne_counter (a - pageBase 7) (by omega)
    exact (Mem.read_clearPage t.mem 7 a).trans (if_neg outside)
  have rest (t : State) : PlanKept t t.toReset := refl t
  unfold State.warmReset
  exact (writeOff s).trans ((cleared _).trans (rest _))

theorem presentTrack (s : State) (t : Track) : PlanKept s (s.presentTrack t) := by
  have spoils (l : LaneId) (ns : List RecordNo) (v : State) : PlanKept v (ns.foldl (fun v n => v.spoil l n) v) :=
    (Inside.foldl (fun v n => Inside.spoil l v n) ns v).beside.plan
  have noticed (u : State) : PlanKept u u.stopNotice := by
    have start : PlanKept u { u with freeCount := u.freeCount + 1 } := refl u
    exact start.trans (foldl (fun v l => spoils l (u.toSpoil l) v) u.spoilOrder _)
  unfold State.presentTrack
  dsimp only
  split
  · exact noticed { s with track := t.present }
  · exact refl s

end PlanKept

/-! ## The operations beside the lanes -/

namespace Beside

variable {s t u : State}

theorem ofSame (mem : t.mem = s.mem) (track : t.track = s.track) : Beside s t := ⟨fun a _ => by rw [mem], track⟩

theorem refl (s : State) : Beside s s := ofSame rfl rfl

theorem trans (h : Beside s t) (k : Beside t u) : Beside s u := ⟨h.plan.trans k.plan, k.track.trans h.track⟩

theorem foldl {α : Type} {f : State → α → State} (h : ∀ s a, Beside s (f s a)) (xs : List α) (s : State) : Beside s (xs.foldl f s) := by
  induction xs generalizing s with
  | nil => exact refl s
  | cons x xs ih => exact (h s x).trans (ih _)

theorem counter (s : State) (offset : Nat) (w : Word) : Beside s (s.setWord 7 offset w) :=
  ⟨fun _ planned => Mem.read_write_other _ w (planned.ne_counter offset), rfl⟩

theorem tryDischarge (s : State) : Beside s s.tryDischarge := (Inside.tryDischarge 0 s).beside

theorem freeCurrent (s : State) : Beside s s.freeCurrent := by
  unfold State.freeCurrent
  split
  · exact trans (t := { s with discharge := s.discharge.toIdle }) (ofSame rfl rfl) (Inside.freePlace 0 _ _).beside
  · exact ofSame rfl rfl

theorem outfeedEyeConfirm (s : State) : Beside s s.outfeedEyeConfirm := by
  have accepted : Beside s { s with discharge := s.discharge.accept } := ofSame rfl rfl
  refine accepted.trans ?_
  unfold State.outfeedEyeConfirm State.outfeedConfirmed
  split
  · split
    · exact ofSame rfl rfl
    · split
      · exact (freeCurrent _).trans ((counter _ _ _).trans (tryDischarge _))
      · exact refl _
  · exact refl _

theorem outfeedTimeout (s : State) : Beside s s.outfeedTimeout := by
  unfold State.outfeedTimeout
  split
  · next p _ =>
    have timed : Beside s { s.modPlace p fun pl => { pl with state := .blocked } with
        discharge := { s.discharge with outfeed := .stalled, timer := none, seenCovered := false } } := ofSame rfl rfl
    exact timed.trans (Inside.produce 0 _ _).beside
  · exact refl s

/-! ### The ring -/

theorem cutReceive (s : State) : Beside s s.cutReceive := by
  have counted : Beside s ((s.setReceive .none).countCrcError) :=
    trans (t := s.setReceive .none) (ofSame rfl rfl) (counter _ crcErrorOffset _)
  unfold State.cutReceive
  split
  · exact refl s
  · exact counted
  · exact counted

theorem onAllLanes {act : LaneAct} (h : ∀ s l, Beside s (act s l).1) (s : State) : Beside s (s.onAllLanes act).1 := by
  have each (ls : List LaneId) (acc : State × List Word) : Beside acc.1 (ls.foldl (State.eachLane act) acc).1 := by
    induction ls generalizing acc with
    | nil => exact refl _
    | cons l ls ih =>
      have one : Beside acc.1 (State.eachLane act acc l).1 := by
        unfold State.eachLane
        split
        · exact h acc.1 l
        · exact refl _
      exact one.trans (ih _)
  exact each allLanes (s, [])

theorem onLaneValue {act : LaneAct} (h : ∀ s l, Beside s (act s l).1) (s : State) (b : Byte) : Beside s (s.onLaneValue act b).1 := by
  unfold State.onLaneValue
  split
  · exact h s _
  · split
    · exact onAllLanes h s
    · exact refl s

theorem suspendLane (s : State) (l : LaneId) : Beside s (s.suspendLane l).1 := by
  unfold State.suspendLane
  split <;> exact ofSame rfl rfl

theorem returnLane (s : State) (l : LaneId) : Beside s (s.returnLane l) := by
  unfold State.returnLane
  split
  · exact ofSame rfl rfl
  · split
    · exact ofSame rfl rfl
    · exact (Inside.reread l s).beside.trans (Inside.setMode l _ _).beside

theorem resumeLane (s : State) (l : LaneId) : Beside s (s.resumeLane l).1 := by
  unfold State.resumeLane
  split
  · exact returnLane s l
  · exact returnLane s l
  all_goals exact refl s

theorem bounce (s : State) (t : Telegram) : Beside s (s.bounce t) :=
  (counter s bouncedOffset _).trans (ofSame rfl rfl)

theorem badTelegram (s : State) : Beside s s.badTelegram := (Inside.raise 0 s _ _).beside

theorem forward (s : State) (t : Telegram) (orders : Bool) : Beside s (s.forward t orders) := ofSame rfl rfl

theorem takePiece (s : State) (t : Telegram) : Beside s (s.takePiece t) := by
  unfold State.takePiece
  split
  · unfold State.takeAnnouncement
    split
    · exact bounce s t
    · exact (Inside.intake s _).beside
  · exact badTelegram s

theorem queueRequest (s : State) (t : Telegram) : Beside s (s.queueRequest t) := by
  unfold State.queueRequest
  split
  · exact ofSame rfl rfl
  · exact bounce s t

theorem takeBroadcast (s : State) (t : Telegram) : Beside s (s.takeBroadcast t) := by
  unfold State.takeBroadcast
  split
  · split
    · unfold State.carryBroadcast
      split
      · exact (forward s t false).trans (onLaneValue suspendLane _ _)
      · exact (forward s t false).trans (onLaneValue resumeLane _ _)
      · exact forward s t true
    · exact (forward s t false).trans (badTelegram _)
  · exact forward s t false

theorem handleTelegram (s : State) (t : Telegram) : Beside s (s.handleTelegram t) := by
  unfold State.handleTelegram
  split
  · exact badTelegram s
  · split
    · exact takePiece s t
    · split
      · exact queueRequest s t
      · exact badTelegram s

theorem classify (s : State) (t : Telegram) : Beside s (s.classify t) := by
  unfold State.classify
  repeat' split
  · exact forward s t false
  · exact forward s t false
  · exact refl s
  · exact handleTelegram s t
  · exact takeBroadcast s t
  · exact forward s t false

theorem endReceive (s : State) (t : Telegram) : Beside s (s.endReceive t) := by
  have ended : Beside s (s.setReceive .none) := ofSame rfl rfl
  unfold State.endReceive
  split
  · exact ended.trans (classify _ t)
  · exact ended.trans (counter _ _ _)

theorem leavePort (s : State) (src : SendSource) : Beside s (s.leavePort src) := by
  unfold State.leavePort
  split
  · exact ofSame rfl rfl
  · exact ofSame rfl rfl
  · unfold State.freeReportSlot
    split
    · exact ofSame rfl rfl
    · exact trans (t := s.popReport) (ofSame rfl rfl) (tryDischarge _)

/-! ### The requests -/

theorem readWords (n : Nat) (s : State) : Beside s (State.readWords n s).1 := by
  induction n generalizing s with
  | zero => exact refl s
  | succ n ih =>
    have loaded : Beside s s.loadLatch := by
      unfold State.loadLatch
      dsimp only
      split <;> exact ofSame rfl rfl
    exact loaded.trans (ih _)

theorem zeroCounters (offsets : List Nat) (s : State) : Beside s (s.zeroCounters offsets) := by
  unfold State.zeroCounters
  exact foldl (f := fun (s : State) o => s.setWord 7 o 0#16) (fun s o => counter s o _) offsets s

theorem clearScope {scope : Nat} (h : s.clearScope scope = some t) : Beside s t := by
  unfold State.clearScope at h
  split at h
  · cases h; exact zeroCounters _ s
  · split at h
    · cases h; exact zeroCounters _ s
    · split at h
      · cases h; exact (foldl (fun s _ => zeroCounters _ s) allLanes s).trans (zeroCounters _ _)
      · cases h

theorem laneStart (s : State) (l : LaneId) (e : EntryId) : Beside s (s.laneStart l e).1 := by
  unfold State.laneStart
  split
  · exact refl s
  · split
    · exact refl s
    · split
      · exact refl s
      · exact ((Inside.ofLane l s _).trans ((Inside.claim l _).trans (Inside.setMode l _ _))).beside

theorem laneStop (s : State) (l : LaneId) : Beside s (s.laneStop l).1 := by
  unfold State.laneStop
  split
  · exact ((Inside.closeFilling l l s).trans ((Inside.abortLane l _).trans ((Inside.ofLane l _ _).trans (Inside.holdEdges l _)))).beside
  · exact refl s

theorem onLane {f : LaneId → State × Answer} (h : ∀ l, Beside s (f l).1) (b : Byte) : Beside s (Machine.onLane b s f).1 := by
  unfold Machine.onLane
  split
  · exact h _
  · exact refl s

/-- The act of each request but WRITE TABLE and SET MOTION MODE. -/
theorem act {r : Request} (notWrite : r ≠ .writeTable) (notMode : r ≠ .setMotionMode) (ps : List Byte) (s : State) :
    Beside s (r.act ps s).1 := by
  cases r with
  | identify => exact refl s
  | readStatus => exact ofSame rfl rfl
  | setPointer =>
    unfold Request.act setPointerAct
    dsimp only
    split
    · exact refl s
    · split <;> exact ofSame rfl rfl
  | writeTable => exact absurd rfl notWrite
  | readTable =>
    unfold Request.act readTableAct
    dsimp only
    split
    · exact readWords _ s
    · exact refl s
  | beginModify => exact ofSame rfl rfl
  | endModify =>
    unfold Request.act endModifyAct
    dsimp only
    split <;> exact ofSame rfl rfl
  | setMotionMode => exact absurd rfl notMode
  | clearCounters =>
    unfold Request.act clearCountersAct
    dsimp only
    split
    · next cleared => exact clearScope cleared
    · exact refl s
  | stationReset => exact refl s
  | laneStart =>
    unfold Request.act laneStartAct
    dsimp only
    split
    · exact laneStart s _ _
    · exact refl s
  | laneSuspend => exact onLaneValue suspendLane s _
  | laneResume => exact onLaneValue resumeLane s _
  | laneRelease =>
    refine onLane (fun l => ?_) _
    unfold State.laneRelease
    split
    · exact returnLane s l
    · exact refl s
  | laneStop => exact onLane (laneStop s) _
  | clearFault =>
    refine onLane (fun l => ?_) _
    unfold State.laneClearFault
    split <;> exact ofSame rfl rfl
  | closePlace =>
    unfold Request.act closePlaceAct
    dsimp only
    split
    · exact refl s
    · split
      · exact (Inside.shortClose 0 s _).beside
      · exact refl s
  | releaseOutfeed =>
    unfold Request.act releaseOutfeedAct
    dsimp only
    split
    · exact (freeCurrent s).trans (tryDischarge _)
    · exact refl s

theorem runRequest {r : Request} (notWrite : r ≠ .writeTable) (notMode : r ≠ .setMotionMode) (s : State) :
    Beside s (s.runRequest r r.act) := by
  have taken : Beside s s.dequeued := ofSame rfl rfl
  rcases s.runRequest_cases r r.act with same | ⟨t, a, turnedAway | carried⟩
  · rw [same]
    exact refl s
  · rw [turnedAway]
    exact ofSame rfl rfl
  · rw [carried]
    exact taken.trans ((act notWrite notMode _ _).trans (ofSame rfl rfl))

theorem answerUnknown (s : State) : Beside s s.answerUnknown := by
  rcases s.answerUnknown_cases with same | ⟨t, a, answered⟩
  · rw [same]
    exact refl s
  · rw [answered]
    exact ofSame rfl rfl

theorem row_of_requestOf {c : Instr} {r : Request} (h : requestOf c = some r) : c = r.row := by cases c <;> cases h <;> rfl

/-- The commands of the Track Monitor. -/
def ofTrack : Instr → Bool
  | .encoderPulse => true
  | .motionSampleClose => true
  | .setMotionMode => true
  | _ => false

/-- The commands that reset, or may. -/
def resets : Instr → Bool
  | .powerOn => true
  | .warmReset => true
  | .telegramSent => true
  | _ => false

theorem movesPosition_of_resets {c : Instr} (h : resets c = true) : movesPosition c = true := by
  cases c <;> simp [resets, movesPosition] at h ⊢

/-- The event of every other command. -/
theorem after {c : Instr} (notTrack : ofTrack c = false) (notReset : resets c = false) (notWrite : c ≠ .writeTable) (s : State) :
    Beside s (s.after c) := by
  cases asks : requestOf c with
  | some r =>
    have runs : s.after c = s.runRequest r r.act := by rw [State.after, asks]
    rw [runs]
    have row := row_of_requestOf asks
    refine runRequest (fun write => notWrite (by rw [row, write]; rfl)) (fun mode => ?_) s
    rw [row, mode] at notTrack
    cases notTrack
  | none =>
    have occurs : s.after c = s.occur c := by rw [State.after, asks]
    rw [occurs]
    cases c with
    | entryEyeChange l level => exact (Inside.entryEyeChange l s level).beside
    | widthBeamChange l beams => exact (Inside.modEntry l s fun e => e.beamsChanged beams).beside
    | entryEyeConfirm l => exact (Inside.entryEyeConfirm l s).beside
    | blockedTargetReached l => exact (Inside.blockedTargetReached l s).beside
    | tokenExpiry l => exact (Inside.expireToken l s).beside
    | retirePositionReached l => exact (Inside.retireAtGate l s).beside
    | windowOpen l o => exact (Inside.openWindow l s o).beside
    | windowEnd l o => exact (Inside.endWindow l s o).beside
    | exitEyeChange l level => exact (Inside.exitEyeChange l s level).beside
    | exitEyeConfirm l => exact (Inside.exitEyeConfirm l s).beside
    | missingTargetReached l => exact (Inside.missingTargetReached l s).beside
    | exitBlockedTargetReached l => exact (Inside.exitBlockedTargetReached l s).beside
    | dischargeStart => exact (Inside.startDischarge 0 s).beside
    | outfeedEyeChange level =>
      have eye : Beside s (s.outfeedEyeChange level) := by
        unfold State.outfeedEyeChange
        split <;> exact ofSame rfl rfl
      exact eye
    | outfeedEyeConfirm => exact outfeedEyeConfirm s
    | outfeedTimeout => exact outfeedTimeout s
    | receiveStart => exact (cutReceive s).trans (ofSame rfl rfl)
    | telegramReceived t => exact endReceive s t
    | sendStart ready => exact ofSame rfl rfl
    | resetEnd straps => exact ofSame rfl rfl
    | unknownRequest => exact answerUnknown s
    | powerOn => cases notReset
    | warmReset => cases notReset
    | telegramSent => cases notReset
    | encoderPulse => cases notTrack
    | motionSampleClose => cases notTrack
    | _ => cases asks

end Beside

/-! ## WRITE TABLE -/

/-- What WRITE TABLE leaves: the words of the claimed entries, page 7, the places, and the Track Monitor (R141, R179). -/
structure WriteFrame (s t : State) : Prop where
  entries : ∀ e, s.entryClaimed e → ∀ k < 12, t.entryWord e k = s.entryWord e k
  counters : ∀ offset < 1024, t.word 7 offset = s.word 7 offset
  places : t.places = s.places
  stackSerial : t.stackSerial = s.stackSerial
  track : t.track = s.track

theorem WriteFrame.refl (s : State) : WriteFrame s s := ⟨fun _ _ _ _ => rfl, fun _ _ => rfl, rfl, rfl, rfl⟩

/-- A claimed entry stays claimed while its words are kept. -/
theorem WriteFrame.claimed {s t : State} (h : WriteFrame s t) {e : EntryId} (claimed : s.entryClaimed e) : t.entryClaimed e := by
  have status : t.entryStatus e = s.entryStatus e := congrArg statusField (h.entries e claimed 0 (by decide))
  unfold State.entryClaimed
  rw [status]
  exact claimed

theorem WriteFrame.trans {s t u : State} (h : WriteFrame s t) (k : WriteFrame t u) : WriteFrame s u where
  entries := fun e claimed j hj => (k.entries e (h.claimed claimed) j hj).trans (h.entries e claimed j hj)
  counters := fun o ho => (k.counters o ho).trans (h.counters o ho)
  places := k.places.trans h.places
  stackSerial := k.stackSerial.trans h.stackSerial
  track := k.track.trans h.track

/-- A word with a write right is on no word of a claimed entry and not on page 7 (R141, R179). -/
theorem WriteFrame.writeAtPointer {s : State} {w : Word} (right : s.writable s.tables.pointer w = true) :
    WriteFrame s (s.writeAtPointer w) where
  entries := fun e claimed k hk => by
    refine Mem.read_write_other _ w fun same => ?_
    have page : s.tables.pointer.page = 4 := Fin.ext (by
      have := s.tables.pointer.offset.isLt
      have := e.isLt
      unfold pageBase at same
      show s.tables.pointer.page.val = 4
      omega)
    have offset : s.tables.pointer.offset.val = 12 * e.val + k := by
      rw [page] at same
      exact (Nat.add_left_cancel same).symm
    have index : (12 * e.val + k) / 12 = e.val := by omega
    unfold State.writable at right
    rw [if_neg (by rw [page]; decide), if_neg (by rw [page]; decide), if_pos page, offset] at right
    unfold State.ringWritable at right
    rw [dif_pos (by rw [index]; exact e.isLt)] at right
    have same' : (⟨(12 * e.val + k) / 12, by rw [index]; exact e.isLt⟩ : EntryId) = e := Fin.ext index
    rw [same', show isClaimed (s.entryStatus e) = true from claimed] at right
    cases right
  counters := fun o _ => by
    refine Mem.read_write_other _ w fun same => ?_
    have page : s.tables.pointer.page = 7 := Fin.ext (by
      have := s.tables.pointer.offset.isLt
      unfold pageBase at same
      show s.tables.pointer.page.val = 7
      omega)
    unfold State.writable at right
    rw [page] at right
    cases right
  places := rfl
  stackSerial := rfl
  track := rfl

theorem WriteFrame.writeWords (ws : List Word) (s : State) : WriteFrame s (s.writeWords ws).1 := by
  induction ws generalizing s with
  | nil => exact refl s
  | cons w ws ih =>
    unfold State.writeWords
    split
    · next right => exact (writeAtPointer right).trans (ih _)
    · exact refl s

theorem WriteFrame.after (s : State) : WriteFrame s (s.after .writeTable) := by
  have act (ps : List Byte) (t : State) : WriteFrame t (writeTableAct ps t).1 := by
    unfold writeTableAct
    split
    · exact writeWords _ t
    · exact refl t
  have runs : s.after .writeTable = s.runRequest .writeTable Request.writeTable.act := rfl
  rw [runs]
  rcases s.runRequest_cases .writeTable Request.writeTable.act with same | ⟨t, a, turnedAway | carried⟩
  · rw [same]
    exact refl s
  · rw [turnedAway]
    exact ⟨fun _ _ _ _ => rfl, fun _ _ => rfl, rfl, rfl, rfl⟩
  · rw [carried]
    have taken : WriteFrame s s.dequeued := ⟨fun _ _ _ _ => rfl, fun _ _ => rfl, rfl, rfl, rfl⟩
    have answered (u : State) : WriteFrame u (u.respond t a) := ⟨fun _ _ _ _ => rfl, fun _ _ => rfl, rfl, rfl, rfl⟩
    exact taken.trans ((act _ _).trans (answered _))

/-! ## The memory frame -/

/-- What SET MOTION MODE makes of the Track Monitor. -/
theorem setMotionModeAct_cases (ps : List Byte) (s : State) :
    (setMotionModeAct ps s).1 = s ∨ ∃ m, (setMotionModeAct ps s).1 = s.presentTrack { s.track with mode := m } := by
  unfold setMotionModeAct
  split
  · next m _ => exact Or.inr ⟨m, rfl⟩
  · exact Or.inl rfl

/-- What the event of SET MOTION MODE is, besides the taking of the request and its response. -/
theorem State.after_setMotionMode_cases (s : State) :
    Beside s (s.after .setMotionMode) ∨ ∃ t a m, s.after .setMotionMode = (s.dequeued.presentTrack { s.track with mode := m }).respond t a := by
  have runs : s.after .setMotionMode = s.runRequest .setMotionMode Request.setMotionMode.act := rfl
  rw [runs]
  rcases s.runRequest_cases .setMotionMode Request.setMotionMode.act with same | ⟨t, a, turnedAway | carried⟩
  · rw [same]
    exact Or.inl (.refl s)
  · rw [turnedAway]
    exact Or.inl (.ofSame rfl rfl)
  · rw [carried]
    rcases setMotionModeAct_cases (t.body.drop 3) s.dequeued with same | ⟨m, presents⟩
    · have act : (Request.setMotionMode.act (t.body.drop 3) s.dequeued).1 = s.dequeued := same
      rw [act]
      exact Or.inl (.ofSame rfl rfl)
    · exact Or.inr ⟨t, a, m, congrArg (State.respond · t a) presents⟩

/-- Every event but WRITE TABLE's and POWER_ON's keeps the planned words. -/
theorem PlanKept.after {c : Instr} (notWrite : c ≠ .writeTable) (notPowerOn : c ≠ .powerOn) (s : State) : PlanKept s (s.after c) := by
  have left (s : State) (src : SendSource) := (Beside.leavePort s src).plan
  cases c with
  | powerOn => exact absurd rfl notPowerOn
  | warmReset => exact warmReset s
  | encoderPulse => exact refl s
  | motionSampleClose => exact presentTrack s _
  | setMotionMode =>
    rcases s.after_setMotionMode_cases with beside | ⟨t, a, m, presents⟩
    · exact beside.plan
    · rw [presents]
      exact trans (t := s.dequeued) (refl s) (presentTrack s.dequeued _)
  | telegramSent =>
    have sent : PlanKept s s.telegramSent := by
      unfold State.telegramSent
      split
      · split
        · exact (left s _).trans (warmReset _)
        · exact left s _
      · exact refl s
    exact sent
  | _ => exact (Beside.after (by rfl) (by rfl) notWrite s).plan

/-- Settles O13: no event but these writes a planned word, and a write right excludes the claimed entries and page 7. -/
theorem tableMemoryFrame : Obligations.TableMemoryFrame := by
  refine ⟨fun c s t notWrite notPowerOn taken => ?_, fun s t taken => ?_⟩
  · have kept : PlanKept s t := by
      rcases exec_cases taken with ⟨_, rfl⟩ | ⟨_, rfl⟩
      · exact PlanKept.after notWrite notPowerOn s
      · exact PlanKept.refl _
    exact ⟨fun page hp offset ho => kept _ (planned_page hp ho), fun e k hk => kept _ (planned_entry e hk)⟩
  · have frame : WriteFrame s t := by
      rcases exec_cases taken with ⟨_, rfl⟩ | ⟨_, rfl⟩
      · obtain ⟨entries, counters, places, serial, track⟩ := WriteFrame.after s
        exact ⟨entries, counters, places, serial, track⟩
      · exact WriteFrame.refl _
    exact ⟨frame.entries, frame.counters, frame.places, frame.stackSerial⟩

/-! ## The Track Monitor -/

/-- What an event makes of the Track Monitor. -/
theorem State.after_track (c : Instr) (s : State) :
    (s.after c).track = s.track ∨ (c = .encoderPulse ∧ (s.after c).track = s.track.pulse) ∨
    (c = .motionSampleClose ∧ (s.after c).track = (s.track.countSample.examine s.motionLock s.motionUnlock).present) ∨
    (c = .setMotionMode ∧ ∃ m, (s.after c).track = { s.track with mode := m }.present) ∨
    (Beside.resets c = true ∧ (s.after c).track = Track.reset) := by
  cases c with
  | powerOn => exact Or.inr (Or.inr (Or.inr (Or.inr ⟨rfl, rfl⟩)))
  | warmReset => exact Or.inr (Or.inr (Or.inr (Or.inr ⟨rfl, rfl⟩)))
  | encoderPulse => exact Or.inr (Or.inl ⟨rfl, rfl⟩)
  | motionSampleClose => exact Or.inr (Or.inr (Or.inl ⟨rfl, s.presentTrack_track _⟩))
  | setMotionMode =>
    rcases s.after_setMotionMode_cases with beside | ⟨t, a, m, presents⟩
    · exact Or.inl beside.track
    · refine Or.inr (Or.inr (Or.inr (Or.inl ⟨rfl, m, ?_⟩)))
      rw [presents]
      exact s.dequeued.presentTrack_track _
  | telegramSent =>
    have sent : s.telegramSent.track = s.track ∨ s.telegramSent.track = Track.reset := by
      unfold State.telegramSent
      split
      · split
        · exact Or.inr rfl
        · exact Or.inl (Beside.leavePort s _).track
      · exact Or.inl rfl
    exact sent.imp_right fun reset => Or.inr (Or.inr (Or.inr ⟨rfl, reset⟩))
  | writeTable => exact Or.inl (WriteFrame.after s).track
  | _ => exact Or.inl (Beside.after (by rfl) (by rfl) (by simp) s).track

theorem countUp_le (n : Nat) : countUp n ≤ 15 := by
  unfold countUp
  split <;> omega

theorem Track.countSample_le {t : Track} : t.countSample.movingCount ≤ 15 ∧ t.countSample.stillCount ≤ 15 := by
  unfold Track.countSample
  split
  · exact ⟨countUp_le _, Nat.zero_le _⟩
  · exact ⟨Nat.zero_le _, countUp_le _⟩

theorem Track.examine_le {t : Track} (h : t.movingCount ≤ 15 ∧ t.stillCount ≤ 15) (lock unlock : Nat) :
    (t.examine lock unlock).movingCount ≤ 15 ∧ (t.examine lock unlock).stillCount ≤ 15 := by
  unfold Track.examine
  repeat' split
  · exact ⟨Nat.zero_le _, Nat.zero_le _⟩
  · exact h
  · exact ⟨Nat.zero_le _, Nat.zero_le _⟩
  · exact h

theorem Track.coherent_present {t : Track} (h : t.movingCount ≤ 15 ∧ t.stillCount ≤ 15) : t.present.coherent := ⟨rfl, h⟩

/-- Settles O9: a discharge takes the outfeed from IDLE and back; the Track Monitor is presented after every change of its mode or its computed
state. -/
theorem outfeedAndMotionKept : Obligations.OutfeedAndMotionKept := by
  refine ⟨kept_of_moves fun _ _ move => (Steady.ofMove move).outfeed, kept_of_events (fun _ _ => id) (fun _ => id) fun c s _ coherent => ?_⟩
  unfold State.motionCoherent
  rcases s.after_track c with same | ⟨_, pulse⟩ | ⟨_, sample⟩ | ⟨_, m, mode⟩ | ⟨_, reset⟩
  · rw [same]
    exact coherent
  · rw [pulse]
    exact coherent
  · rw [sample]
    exact Track.coherent_present (Track.examine_le Track.countSample_le _ _)
  · rw [mode]
    exact Track.coherent_present coherent.2
  · rw [reset]
    exact ⟨rfl, Nat.zero_le _, Nat.zero_le _⟩

theorem Track.countSample_position (t : Track) : t.countSample.position = t.position := by
  unfold Track.countSample
  split <;> rfl

theorem Track.examine_position (t : Track) (lock unlock : Nat) : (t.examine lock unlock).position = t.position := by
  unfold Track.examine
  repeat' split
  all_goals rfl

/-- The positions of a run of pulses, compared within half the range (R2). -/
theorem reached_ahead (now : Pos) {d k : Nat} (hd : d < 2 ^ 31) (hk : k < 2 ^ 31) :
    reached (now + BitVec.ofNat 32 k) (now + BitVec.ofNat 32 d) = true ↔ d ≤ k := by
  unfold reached
  have difference : now + BitVec.ofNat 32 k - (now + BitVec.ofNat 32 d) = BitVec.ofNat 32 k - BitVec.ofNat 32 d := by bv_omega
  rw [difference, Bool.not_eq_true', BitVec.msb_eq_false_iff_two_mul_lt, BitVec.toNat_sub, BitVec.toNat_ofNat, BitVec.toNat_ofNat]
  omega

/-- Settles O18: the position is the pulses' and the resets' alone, and a difference is compared by its sign. -/
theorem pulsesMoveThePosition : Obligations.PulsesMoveThePosition := by
  refine ⟨fun s follow running => ?_, ⟨fun now target => ?_, fun a b => ?_, fun now d k hd hk => reached_ahead now hd hk⟩,
    fun c s t still taken => ?_⟩
  · have due : s.due .encoderPulse = true := by
      show (!s.resetHeld) = true
      rw [running]
      rfl
    rw [exec_of_due due]
    exact congrArg _ (State.settle_withTrack follow _)
  · unfold reached
    rw [Bool.not_eq_true', BitVec.msb_eq_toInt, decide_eq_false_iff_not, not_lt]
  · unfold before
    rw [BitVec.msb_eq_toInt, decide_eq_true_iff]
  · rcases exec_cases taken with ⟨_, rfl⟩ | ⟨_, rfl⟩
    · rw [State.settle_track]
      rcases s.after_track c with same | ⟨rfl, _⟩ | ⟨_, sample⟩ | ⟨_, m, mode⟩ | ⟨resets, _⟩
      · rw [same]
      · cases still
      · rw [sample]
        exact (Track.examine_position _ _ _).trans s.track.countSample_position
      · rw [mode]
        rfl
      · rw [Beside.movesPosition_of_resets resets] at still
        cases still
    · rfl

end Sys2Proof.Machine
end


section
/-!
# What the events of a lane leave alone

A lane's moves keep the held places, the ring start and the cursor of every lane; the other blocks are as `Inside` says, and the lines follow.
-/

namespace Sys2Proof.Machine

/-! ## The settings of the lanes -/

/-- What LANE START gives a lane, and its cursor. -/
def Lane.settings (L : Lane) : List PlaceId × EntryId × EntryId := (L.held, L.ringStart, L.cursor)

/-- Every lane's held places, ring start and cursor are kept. -/
def SettingsKept (s t : State) : Prop := ∀ m, (t.lane m).settings = (s.lane m).settings

namespace SettingsKept

variable {l : LaneId} {s t u : State}

theorem refl (s : State) : SettingsKept s s := fun _ => rfl

theorem trans (h : SettingsKept s t) (k : SettingsKept t u) : SettingsKept s u := fun m => (k m).trans (h m)

theorem ofLanes (lanes : t.lanes = s.lanes) : SettingsKept s t := fun m => congrArg (fun v : Vector Lane 4 => v[m].settings) lanes

theorem modLane (s : State) (l : LaneId) (f : Lane → Lane) (h : ∀ L, (f L).settings = L.settings) : SettingsKept s (s.modLane l f) :=
  fun m => by
    rw [State.modLane_lane]
    split
    · next e => rw [e, h]
    · rfl

theorem modExit (s : State) (l : LaneId) (f : ExitUnit → ExitUnit) : SettingsKept s (s.modExit l f) := modLane s l _ fun _ => rfl

theorem modRecord (s : State) (l : LaneId) (n : RecordNo) (f : PieceRecord → PieceRecord) : SettingsKept s (s.modRecord l n f) :=
  modLane s l _ fun _ => rfl

theorem ofBooks (h : BooksAll s t) : SettingsKept s t := fun m => by
  have cursor := h.cursor m
  unfold Lane.settings
  rw [(h.lanes m).same] at cursor ⊢
  exact congrArg _ (congrArg _ cursor)

theorem retire (s : State) (l : LaneId) (n : RecordNo) (o : Retirement) : SettingsKept s (s.retire l n o) := by
  cases found : s.findRecord l n with
  | none =>
    unfold State.retire
    rw [found]
    exact refl s
  | some r =>
    have freed : SettingsKept s (s.freeRecord l r) := modLane s l (·.freed r.number) fun _ => rfl
    exact freed.trans (ofBooks (BooksAll.retired found o))

theorem purge (s : State) (l : LaneId) (f : LaneFault) : SettingsKept s (s.purge l f) := fun m => by
  obtain ⟨own, others, cursor, _⟩ := State.purge_books s l f
  have cursor := cursor m
  by_cases h : m = l
  · subst h
    unfold Lane.settings
    rw [own.same] at cursor ⊢
    exact congrArg _ (congrArg _ cursor)
  · unfold Lane.settings
    rw [(others m h).same] at cursor ⊢
    exact congrArg _ (congrArg _ cursor)

theorem matchArrival (s : State) (l : LaneId) (r : PieceRecord) (p : Pos) : SettingsKept s (s.matchArrival l r p) := by
  have marked : SettingsKept s (s.markMatched l r.number) := (modRecord s l _ _).trans (modExit _ l _)
  have set (t : State) (n : RecordNo) (d : Destination) (target : Pos) : SettingsKept t (t.setDestination l n d target) :=
    (modRecord t l _ _).trans (modExit _ l _)
  unfold State.matchArrival
  exact marked.trans ((ofBooks (BooksAll.destinationFor _ l r)).trans (set _ _ _ _))

theorem phantomArrival (s : State) (l : LaneId) (p : Pos) : SettingsKept s (s.phantomArrival l p) := by
  have counted : SettingsKept s (s.addLaneCounter l phantomIndex 1) := ofLanes rfl
  unfold State.phantomArrival
  exact counted.trans ((ofBooks (Quiet.raise _ _ _).booked).trans (modExit _ l _))

theorem exitTrailing (s : State) (l : LaneId) : SettingsKept s (s.exitTrailing l) := by
  have passed (n : RecordNo) : SettingsKept s (s.passExit l n) := by
    unfold State.passExit
    split
    · exact (ofBooks (BooksAll.countIfDelivered s _)).trans (retire _ l n _)
    · exact refl s
  unfold State.exitTrailing
  split
  · exact (passed _).trans (modExit _ l _)
  · exact modExit s l _
  · exact refl s

theorem ofLaneMove (h : LaneMove l s t) : SettingsKept s t ∨ (Inert s t ∧ (t.lane l).settings = (s.lane l).settings) := by
  cases h with
  | inert h held ringStart cursor =>
    refine Or.inr ⟨h, ?_⟩
    unfold Lane.settings
    rw [held, ringStart, cursor]
  | retire n o => exact Or.inl (retire s l n o)
  | loseToken q front rest =>
    have removed : SettingsKept s (s.modLane l fun L => { L with tokens := front ++ rest }) := modLane s l _ fun _ => rfl
    exact Or.inl (removed.trans (ofBooks (BooksAll.loseToken _ l _)))
  | purge f => exact Or.inl (purge s l f)
  | append n lead =>
    refine Or.inl fun m => ?_
    rw [State.appendRecord_lane]
    split
    · next e => rw [e]; rfl
    · rfl
  | record n f => exact Or.inl (modRecord s l n f)
  | double r =>
    refine Or.inl ?_
    unfold State.takeDouble
    split
    · exact (modRecord s l _ _).trans (modLane _ l _ fun _ => rfl)
    · exact refl s
  | sched f => exact Or.inl (modLane s l _ fun _ => rfl)
  | windows f => exact Or.inl (modLane s l _ fun _ => rfl)
  | exitLevel f => exact Or.inl (modExit s l f)
  | arrive r p => exact Or.inl ((modExit s l _).trans (matchArrival _ l r p))
  | phantom p => exact Or.inl ((modExit s l _).trans (phantomArrival _ l p))
  | depart => exact Or.inl ((modExit s l _).trans (exitTrailing _ l))
  | reroute r =>
    have rerouted : SettingsKept s ((s.modRecord l r.number fun x => { x with forceOverflow := true, destination := some .overflow }).modExit l
        fun x => { x with route := .overflow }) := (modRecord s l _ _).trans (modExit _ l _)
    exact Or.inl (rerouted.trans (ofBooks (BooksAll.leavePlace _ r)))

end SettingsKept

/-- The moves of a lane keep its settings. -/
theorem LaneMoves.settings {l : LaneId} {s t : State} (h : LaneMoves l s t) : (t.lane l).settings = (s.lane l).settings := by
  induction h with
  | refl => rfl
  | tail _ move ih =>
    refine Eq.trans ?_ ih
    rcases SettingsKept.ofLaneMove move with kept | ⟨_, same⟩
    · exact kept l
    · exact same

/-! ## The lines after the event of one lane -/

/-- A lane whose FEED_SLOW follows is settled by its FEED_HOLD alone. -/
theorem Lane.settle_spared {L M : Lane} (h : L.Spared M) (slow : L.entry.feedSlow = L.entry.feedSlowRule) :
    M.settle = { L with
      starved := M.settle.starved
      feedHold := M.settle.feedHold
      lot := { L.lot with stacksClosed := M.settle.lot.stacksClosed } } := by
  have entry : M.entry = L.entry := by rw [h.same]
  have settled : { M.entry with feedSlow := M.entry.feedSlowRule } = L.entry := by rw [entry, ← slow]
  unfold Lane.settle
  rw [settled]
  dsimp only
  generalize M.feedHoldRule = hold
  conv_lhs => rw [h.same]

/-- Settles O14: the operations of a lane's event act inside the lane, and its moves keep its settings. -/
theorem laneEventsLeaveOtherLanes : Obligations.LaneEventsLeaveOtherLanes := by
  intro c l s t follow own taken
  obtain ⟨lanes, push, run, ready, alert⟩ := follow
  have settings : (t.lane l).settings = (s.lane l).settings := by
    rcases exec_cases taken with ⟨due, rfl⟩ | ⟨_, rfl⟩
    · rw [State.settle_lane]
      exact (LaneMoves.after own due).settings
    · rfl
  have held : (t.lane l).held = (s.lane l).held := congrArg Prod.fst settings
  have ringStart : (t.lane l).ringStart = (s.lane l).ringStart := congrArg (·.2.1) settings
  have cursor : (t.lane l).cursor = (s.lane l).cursor := congrArg (·.2.2) settings
  rcases exec_inside own taken with rfl | ⟨u, inside, rfl⟩
  · exact ⟨fun m _ => ⟨rfl, id⟩, held, ringStart, cursor, rfl, rfl, rfl, rfl, rfl, ⟨[], by rw [List.append_nil]⟩, fun _ _ _ => rfl, rfl, rfl,
      rfl⟩
  · have ring : ∃ reports, u.settle.ring = { s.ring with reportQueue := s.ring.reportQueue ++ reports } := by
      obtain ⟨reports, ring⟩ := inside.ring
      have sameReady : u.readyOutRule = s.ring.readyOut := by
        rw [ready]
        unfold State.readyOutRule Ring.forwardCount
        rw [ring, inside.resetHeld]
      refine ⟨reports, ?_⟩
      rw [State.settle_ring, sameReady, ring]
    refine ⟨fun m other => ⟨?_, ?_⟩, held, ringStart, cursor, inside.track, inside.rawLevel, inside.level, inside.changePending, ?_, ring, ?_,
      inside.resetHeld, inside.freeCount, inside.pending⟩
    · rw [State.settle_lane]
      exact Lane.settle_spared (inside.others m other) (lanes m).2
    · rw [State.settle_lane]
      exact (inside.others m other).starved
    · rw [State.settle_tables, inside.tables]
    · intro offset _ outside
      refine inside.read _ fun booked => ?_
      rcases booked with ⟨e, k, same, hk, _⟩ | ⟨k, hk, same⟩
      · exact entryAddress_ne_counter e hk offset same
      · unfold laneCounterOffset at same
        omega

end Sys2Proof.Machine
end


section
/-!
# The record pool

Every move permutes the free list and the in-flight lists together, POWER_ON apart, which fills the free list anew.
-/

namespace Sys2Proof.Machine

/-- The free list and the in-flight lists hold the same numbers. -/
structure PoolKept (s t : State) : Prop where
  perm : t.allNumbers.Perm s.allNumbers

/-- One lane and the free list exchange records. -/
theorem State.allNumbers_perm {s t : State} (l : LaneId) (others : ∀ m, m ≠ l → (t.lane m).numbers = (s.lane m).numbers)
    (own : (t.free ++ (t.lane l).numbers).Perm (s.free ++ (s.lane l).numbers)) : PoolKept s t := by
  have apart (u : State) : u.allNumbers.Perm (u.free ++ (u.lane l).numbers ++ (allLanes.erase l).flatMap fun m => (u.lane m).numbers) := by
    unfold State.allNumbers
    rw [List.append_assoc]
    exact ((List.perm_cons_erase (mem_allLanes l)).flatMap_right _).append_left _
  have same : ((allLanes.erase l).flatMap fun m => (t.lane m).numbers) = (allLanes.erase l).flatMap fun m => (s.lane m).numbers :=
    List.flatMap_congr fun m hm => others m fun e => (show ∀ k : LaneId, k ∉ allLanes.erase k by decide) l (e ▸ hm)
  exact ⟨(apart t).trans ((own.append (same ▸ List.Perm.refl _)).trans (apart s).symm)⟩

namespace PoolKept

variable {l : LaneId} {s t u : State}

theorem refl (s : State) : PoolKept s s := ⟨List.Perm.refl _⟩

theorem trans (h : PoolKept s t) (k : PoolKept t u) : PoolKept s u := ⟨k.perm.trans h.perm⟩

/-- The same lists. -/
theorem ofSame (numbers : ∀ m, (t.lane m).numbers = (s.lane m).numbers) (free : t.free = s.free) : PoolKept s t :=
  State.allNumbers_perm 0 (fun m _ => numbers m) (by rw [numbers, free])

theorem ofLanes (lanes : t.lanes = s.lanes) (free : t.free = s.free) : PoolKept s t :=
  ofSame (fun m => congrArg (fun v : Vector Lane 4 => v[m].numbers) lanes) free

theorem ofBooks (books : ∀ m, (s.lane m).Books (t.lane m)) (free : t.free = s.free) : PoolKept s t :=
  ofSame (fun m => congrArg (List.map PieceRecord.number) (books m).kept.2.1) free

theorem modLane (s : State) (l : LaneId) (f : Lane → Lane) (h : (f (s.lane l)).numbers = (s.lane l).numbers) : PoolKept s (s.modLane l f) :=
  ofSame (fun m => by
    rw [State.modLane_lane]
    split
    · next e => rw [e, h]
    · rfl) rfl

theorem modExit (s : State) (l : LaneId) (f : ExitUnit → ExitUnit) : PoolKept s (s.modExit l f) := modLane s l _ rfl

theorem modRecord (s : State) (l : LaneId) (n : RecordNo) {f : PieceRecord → PieceRecord} (number : ∀ r, (f r).number = r.number) :
    PoolKept s (s.modRecord l n f) := by
  refine modLane s l _ ?_
  unfold Lane.numbers
  rw [List.map_map]
  refine List.map_congr_left fun r _ => ?_
  by_cases h : r.number = n <;> simp [h, number]

/-! ### Retirement, the purge and the entry -/

theorem freeRecord {n : RecordNo} {r : PieceRecord} (found : s.findRecord l n = some r) : PoolKept s (s.freeRecord l r) := by
  refine State.allNumbers_perm l (fun m h => by rw [State.freeRecord_lane_other s r h]) ?_
  obtain ⟨front, back, split, _, _, erased⟩ := split_of_find? found
  have number : r.number = n := (State.findRecord_mem found).2
  have free : (s.freeRecord l r).free = s.free ++ [r.number] := rfl
  rw [State.freeRecord_lane_same, free]
  unfold Lane.freed Lane.numbers
  rw [number, erased, split, List.map_append, List.map_append, List.map_cons, List.append_assoc, number, List.singleton_append]
  exact List.perm_middle.symm.append_left _

theorem retire (s : State) (l : LaneId) (n : RecordNo) (o : Retirement) : PoolKept s (s.retire l n o) := by
  cases found : s.findRecord l n with
  | none =>
    unfold State.retire
    rw [found]
    exact refl s
  | some r =>
    have booked := BooksAll.retired found o
    exact (freeRecord found).trans (ofBooks booked.lanes booked.free)

theorem purge (s : State) (l : LaneId) (f : LaneFault) : PoolKept s (s.purge l f) := by
  obtain ⟨own, others, _, free⟩ := State.purge_books s l f
  refine State.allNumbers_perm l (fun m h => congrArg (List.map PieceRecord.number) (others m h).kept.2.1) ?_
  have emptied : ((s.purge l f).lane l).numbers = [] := congrArg (List.map PieceRecord.number) own.kept.2.1
  rw [free, emptied, List.append_nil]

theorem append {n : RecordNo} {rest : List RecordNo} (free : s.free = n :: rest) (lead : Pos) : PoolKept s (s.appendRecord l n lead) := by
  refine State.allNumbers_perm l (fun m h => by rw [State.appendRecord_lane, if_neg h]) ?_
  have left : (s.appendRecord l n lead).free = rest := by
    unfold State.appendRecord State.wakeSuspended
    split <;> exact congrArg List.tail free
  have entered : ((s.appendRecord l n lead).lane l).numbers = (s.lane l).numbers ++ [n] := by
    rw [State.appendRecord_lane, if_pos rfl]
    exact List.map_append
  rw [left, entered, free, ← List.append_assoc]
  exact List.perm_append_comm

/-! ### The exit -/

theorem matchArrival (s : State) (l : LaneId) (r : PieceRecord) (p : Pos) : PoolKept s (s.matchArrival l r p) := by
  have marked : PoolKept s (s.markMatched l r.number) := (modRecord s l _ (by intro _; rfl)).trans (modExit _ l _)
  have set (t : State) (n : RecordNo) (d : Destination) (target : Pos) : PoolKept t (t.setDestination l n d target) :=
    (modRecord t l _ (by intro _; rfl)).trans (modExit _ l _)
  have asked := BooksAll.destinationFor (s.markMatched l r.number) l r
  unfold State.matchArrival
  exact marked.trans ((ofBooks asked.lanes asked.free).trans (set _ _ _ _))

theorem phantomArrival (s : State) (l : LaneId) (p : Pos) : PoolKept s (s.phantomArrival l p) := by
  have counted : PoolKept s (s.addLaneCounter l phantomIndex 1) := ofLanes rfl rfl
  have raised := (Quiet.raise (s.addLaneCounter l phantomIndex 1) .phantom (some l)).booked
  unfold State.phantomArrival
  exact counted.trans ((ofBooks raised.lanes raised.free).trans (modExit _ l _))

theorem exitTrailing (s : State) (l : LaneId) : PoolKept s (s.exitTrailing l) := by
  have passed (n : RecordNo) : PoolKept s (s.passExit l n) := by
    unfold State.passExit
    split
    · next r _ =>
      have counted := BooksAll.countIfDelivered s r
      exact (ofBooks counted.lanes counted.free).trans (retire _ l n _)
    · exact refl s
  unfold State.exitTrailing
  split
  · exact (passed _).trans (modExit _ l _)
  · exact modExit s l _
  · exact refl s

theorem reroute (s : State) (l : LaneId) (r : PieceRecord) : PoolKept s (s.rerouteAtExit l r) := by
  have rerouted : PoolKept s ((s.modRecord l r.number fun x => { x with forceOverflow := true, destination := some .overflow }).modExit l
      fun x => { x with route := .overflow }) := (modRecord s l _ (by intro _; rfl)).trans (modExit _ l _)
  have left (t : State) := BooksAll.leavePlace t r
  unfold State.rerouteAtExit
  exact rerouted.trans (ofBooks (left _).lanes (left _).free)

theorem ofLaneMove (h : LaneMove l s t) : PoolKept s t := by
  cases h with
  | inert h => exact ofSame (fun m => congrArg (List.map PieceRecord.number) (h.lanes m).kept.2.1) h.free
  | retire n o => exact retire s l n o
  | loseToken q front rest =>
    have removed : PoolKept s (s.modLane l fun L => { L with tokens := front ++ rest }) := modLane s l _ rfl
    have lost := BooksAll.loseToken (s.modLane l fun L => { L with tokens := front ++ rest }) l q.token
    exact removed.trans (ofBooks lost.lanes lost.free)
  | purge f => exact purge s l f
  | append n lead rest free => exact append free lead
  | record n f kept number => exact modRecord s l n number
  | double r =>
    unfold State.takeDouble
    split
    · exact (modRecord s l _ (by intro _; rfl)).trans (modLane _ l _ (by rfl))
    · exact refl s
  | sched f => exact modLane s l _ rfl
  | windows f => exact modLane s l _ rfl
  | exitLevel f => exact modExit s l f
  | arrive r p => exact (modExit s l _).trans (matchArrival _ l r p)
  | phantom p => exact (modExit s l _).trans (phantomArrival _ l p)
  | depart => exact (modExit s l _).trans (exitTrailing _ l)
  | reroute r => exact reroute s l r

/-! ### Tokens -/

theorem claim (s : State) (l : LaneId) : PoolKept s (s.claim l) := by
  refine ofBooks (s.claim_books l) ?_
  cases can : s.canClaim l with
  | true =>
    have zeroed (t : State) (e : EntryId) : (t.zeroEntryCounts e).free = t.free := by
      unfold State.zeroEntryCounts
      generalize [6, 7, 8, 9, 10, 11] = ks
      induction ks generalizing t with
      | nil => rfl
      | cons k ks ih => exact (ih (t.setEntryWord e k 0#16)).trans rfl
    rw [State.claim_of_can can]
    have claimed := zeroed ((s.setEntryWord (s.lane l).cursor 5 (wordOf l.val)).setEntryStatus (s.lane l).cursor .active) (s.lane l).cursor
    exact claimed
  | false => exact (State.claim_quiet can).free

theorem assign (s : State) (l : LaneId) (e : EntryId) : PoolKept s (s.assign l e) := by
  have counted : PoolKept s (s.bumpEntry e 6) := ofLanes rfl rfl
  have step (t : State) : PoolKept t (t.stepClaim l) := by
    unfold State.stepClaim
    split
    · exact claim t l
    · split
      · exact (claim t l).trans (modLane _ l _ (by rfl))
      · exact claim t l
  have quota (t : State) : PoolKept t (t.quotaStep l e) := by
    have moved : PoolKept t ((t.setEntryStatus e .closing).modLane l fun L => { L with cursor := t.nextIndex l e }) :=
      trans (t := t.setEntryStatus e .closing) (ofLanes rfl rfl) (modLane _ l _ (by rfl))
    exact moved.trans (step _)
  unfold State.assign
  dsimp only
  split
  · exact counted.trans (quota _)
  · exact counted

theorem acceptToken (s : State) (a : Announcement) (e : EntryId) : PoolKept s (s.acceptToken a e) := by
  have woken (t : State) : PoolKept t (t.wakeSuspended a.lane) := by
    unfold State.wakeSuspended
    split
    · exact modLane t _ _ rfl
    · exact refl t
  have queued (t : State) (q : Token) : PoolKept t (t.queueToken a.lane q) := modLane t _ _ rfl
  unfold State.acceptToken
  exact (assign s a.lane e).trans ((queued _ _).trans (woken _))

end PoolKept

/-! ## The warm reset -/

theorem State.loseTokens_free (s : State) (ts : List Token) : (s.loseTokens ts).free = s.free := by
  unfold State.loseTokens
  induction ts generalizing s with
  | nil => rfl
  | cons t ts ih => exact (ih _).trans rfl

theorem State.loseRecords_free (s : State) (l : LaneId) : (s.loseRecords l).free = s.free ++ (s.lane l).numbers := by
  unfold State.loseRecords Lane.numbers
  generalize (s.lane l).inFlight = rs
  induction rs generalizing s with
  | nil => exact (List.append_nil _).symm
  | cons r rs ih =>
    rw [List.foldl_cons, ih, List.map_cons]
    simp

theorem State.foldl_free {α : Type} {f : State → α → State} (h : ∀ s a, (f s a).free = s.free) (xs : List α) (s : State) :
    (xs.foldl f s).free = s.free := by
  induction xs generalizing s with
  | nil => rfl
  | cons x xs ih => exact (ih _).trans (h s x)

theorem State.abortAtReset_free (s : State) (l : LaneId) : (s.abortAtReset l).free = s.free := by
  unfold State.abortAtReset
  exact foldl_free (f := fun (s : State) (it : OpenItem) => s.writeBackEntry it.entry .aborted) (fun _ _ => rfl) _ s

/-- The records written off join the free list, lane 0 first (R63). -/
theorem State.writeOff_free (s : State) : s.writeOff.free = s.free ++ allLanes.flatMap fun l => (s.lane l).numbers := by
  have records (ls : List LaneId) (t : State) (lanes : t.lanes = s.lanes) :
      (ls.foldl State.loseRecords t).free = t.free ++ ls.flatMap fun l => (s.lane l).numbers := by
    induction ls generalizing t with
    | nil => exact (List.append_nil _).symm
    | cons l ls ih =>
      have same : (t.lane l).numbers = (s.lane l).numbers := congrArg (fun v : Vector Lane 4 => v[l].numbers) lanes
      rw [List.foldl_cons, ih _ ((t.loseRecords_lanes l).trans lanes), t.loseRecords_free, same, List.flatMap_cons, List.append_assoc]
  have queue (t : State) (l : LaneId) : (t.loseQueue l).free = t.free := t.loseTokens_free _
  unfold State.writeOff
  dsimp only
  rw [foldl_free abortAtReset_free, foldl_free queue, records allLanes s rfl]

theorem State.warmReset_free (s : State) : s.warmReset.free = s.free ++ allLanes.flatMap fun l => (s.lane l).numbers := by
  have kept (t : State) : t.clearCounterPage.toReset.free = t.free := rfl
  unfold State.warmReset
  rw [kept, State.writeOff_free]

/-- Lanes at their reset values hold no record. -/
theorem State.allNumbers_reset {s t : State} (lanes : ∀ m, t.lane m = (s.lane m).toReset) : t.allNumbers = t.free := by
  have none : (allLanes.flatMap fun l => (t.lane l).numbers) = [] := List.flatMap_eq_nil_iff.mpr fun l _ => by
    rw [lanes l]
    rfl
  unfold State.allNumbers
  rw [none, List.append_nil]

theorem PoolKept.ofMove {s t : State} (h : Move s t) : PoolKept s t ∨ t.poolWhole := by
  cases h with
  | lane l h => exact Or.inl (ofLaneMove h)
  | inert h => exact Or.inl (ofSame (fun m => congrArg (List.map PieceRecord.number) (h.lanes m).kept.2.1) h.free)
  | accept a e => exact Or.inl (acceptToken s a e)
  | adopt a =>
    have woken (t : State) : PoolKept t (t.wakeDry a.lane) := by
      unfold State.wakeDry
      split
      · exact modLane t _ _ rfl
      · exact refl t
    exact Or.inl ((claim s _).trans ((woken _).trans (acceptToken _ a _)))
  | writeOff l t =>
    have lost (u : State) := BooksAll.loseToken u l t
    exact Or.inl ((assign s l _).trans (ofBooks (lost _).lanes (lost _).free))
  | claim l => exact Or.inl (claim s l)
  | turn l f turns => exact Or.inl (modLane s l f (congrArg (List.map PieceRecord.number) turns.kept.2.1))
  | abort l =>
    have aborted := (Loose.abortLane s l).booked
    exact Or.inl (ofBooks aborted.lanes aborted.free)
  | idle l =>
    have held (t : State) : PoolKept t (t.holdEdges l) := modLane t l _ (by rfl)
    have turned : PoolKept s (s.modLane l fun L => { L with mode := .idle, returnToWait := false }) := modLane s l _ (by rfl)
    exact Or.inl (turned.trans (held _))
  | clearFault l => exact Or.inl (modLane s l _ rfl)
  | wrote p w => exact Or.inl (ofLanes rfl rfl)
  | warmReset =>
    refine Or.inl ⟨?_⟩
    rw [State.allNumbers_reset s.warmReset_lane, State.warmReset_free]
    exact List.Perm.refl _
  | powerOn =>
    refine Or.inr ?_
    unfold State.poolWhole
    rw [State.allNumbers_reset s.powerOnReset_lane]
    exact List.Perm.refl _

theorem poolWhole_move {s t : State} (move : Move s t) (whole : s.poolWhole) : t.poolWhole :=
  (PoolKept.ofMove move).elim (·.perm.trans whole) id

/-- Settles O7: records only pass between the free list and the in-flight lists. -/
theorem recordPoolWholeKept : Obligations.RecordPoolWholeKept := kept_of_moves fun _ _ => poolWhole_move

end Sys2Proof.Machine
end


section
/-!
# Arrivals and AT_EXIT records

Each effect on a lane keeps the agreement of its arrival, its ROUTE and the record that is AT_EXIT.
-/

namespace Sys2Proof.Machine

/-! ## Lanes with no record AT_EXIT -/

theorem Lane.exitCoherent.none_atExit {L : Lane} (h : L.exitCoherent) (unmatched : ∀ n, L.exit.arrival ≠ .matched n) :
    ∀ r ∈ L.inFlight, r.phase ≠ .atExit := fun r hr atExit => unmatched r.number (h.2.1 r hr atExit).1

/-- With no matched arrival and no record AT_EXIT the rest is the level and ROUTE. -/
theorem Lane.exitCoherent_of_none {L : Lane} (unmatched : ∀ n, L.exit.arrival ≠ .matched n) (none : ∀ r ∈ L.inFlight, r.phase ≠ .atExit)
    (route : L.exit.route = .overflow) (clear : L.exit.level = .clear → L.exit.arrival = .absent)
    (held : L.mode.passes = false → L.exit.arrival = .absent) : L.exitCoherent :=
  ⟨fun n h => absurd h (unmatched n), fun r hr atExit => absurd atExit (none r hr), fun _ => route, clear, held⟩

/-- The arrival and ROUTE kept, with the AT_EXIT records. -/
theorem Lane.exitCoherent.congr {L M : Lane} (h : L.exitCoherent) (level : M.exit.level = L.exit.level)
    (arrival : M.exit.arrival = L.exit.arrival) (route : M.exit.route = L.exit.route) (passes : M.mode.passes = L.mode.passes)
    (forth : ∀ n, L.exit.arrival = .matched n → ∀ r ∈ L.inFlight, r.number = n → r.phase = .atExit → r.retirePosition = none →
      ∃ x ∈ M.inFlight, x.number = n ∧ x.phase = .atExit ∧ x.retirePosition = none)
    (back : ∀ x ∈ M.inFlight, x.phase = .atExit →
      ∃ r ∈ L.inFlight, r.number = x.number ∧ r.phase = .atExit ∧ r.destination = x.destination) : M.exitCoherent := by
  obtain ⟨matched, listed, rests, clear, held⟩ := h
  refine ⟨fun n arrived => ?_, fun x hx atExit => ?_, fun unmatched => ?_, fun isClear => ?_, fun holds => ?_⟩
  · rw [arrival] at arrived
    obtain ⟨covered, r, hr, number, atExit, ungated⟩ := matched n arrived
    exact ⟨level.trans covered, forth n arrived r hr number atExit ungated⟩
  · obtain ⟨r, hr, number, rAtExit, destination⟩ := back x hx atExit
    obtain ⟨arrived, shown⟩ := listed r hr rAtExit
    exact ⟨by rw [arrival, arrived, number], by rw [route, shown, destination]⟩
  · rw [route]
    exact rests (arrival ▸ unmatched)
  · rw [arrival]
    exact clear (level ▸ isClear)
  · rw [arrival]
    exact held (passes ▸ holds)

/-- The exit unit's levels and the records kept. -/
theorem Lane.exitCoherent.same {L M : Lane} (h : L.exitCoherent) (level : M.exit.level = L.exit.level)
    (arrival : M.exit.arrival = L.exit.arrival) (route : M.exit.route = L.exit.route) (passes : M.mode.passes = L.mode.passes)
    (inFlight : M.inFlight = L.inFlight) : M.exitCoherent :=
  h.congr level arrival route passes (fun _ _ r hr number atExit ungated => ⟨r, inFlight ▸ hr, number, atExit, ungated⟩)
    fun x hx atExit => ⟨x, inFlight ▸ hx, rfl, atExit, rfl⟩

theorem Lane.Books.passes {B M : Lane} (books : B.Books M) : M.mode.passes = B.mode.passes := by
  have faulted := books.mode_iff (mode := .faulted) (Or.inl rfl)
  have idle := books.mode_iff (mode := .idle) (Or.inr rfl)
  have key (m : LaneMode) : m.passes = true ↔ ¬ (m = .faulted ∨ m = .idle) := by cases m <;> simp [LaneMode.passes]
  rw [Bool.eq_iff_iff, key, key, faulted, idle]

theorem Lane.Books.exitCoherent {B M : Lane} (books : B.Books M) (coherent : B.exitCoherent) : M.exitCoherent := by
  obtain ⟨_, inFlight, _, _, exit⟩ := books.kept
  exact coherent.same (by rw [exit]) (by rw [exit]) (by rw [exit]) books.passes inFlight

theorem LaneMode.woken_passes (m : LaneMode) : m.woken.passes = m.passes := by cases m <;> rfl

theorem mem_modNumber {n : RecordNo} {f : PieceRecord → PieceRecord} {rs : List PieceRecord} {x : PieceRecord} (h : x ∈ modNumber n f rs) :
    ∃ r ∈ rs, (r.number = n ∧ x = f r) ∨ (r.number ≠ n ∧ x = r) := by
  obtain ⟨r, hr, rfl⟩ := List.mem_map.mp h
  refine ⟨r, hr, ?_⟩
  by_cases same : r.number = n
  · exact Or.inl ⟨same, if_pos same⟩
  · exact Or.inr ⟨same, if_neg same⟩

theorem modNumber_mem {n : RecordNo} {f : PieceRecord → PieceRecord} {rs : List PieceRecord} {r : PieceRecord} (hr : r ∈ rs) :
    (if r.number = n then f r else r) ∈ modNumber n f rs := List.mem_map_of_mem hr

/-! ## The effects -/

/-- A change of records that keeps what the Exit Unit knows of them. -/
theorem Lane.exitCoherent.modNumber {L : Lane} (h : L.exitCoherent) (n : RecordNo) (f : PieceRecord → PieceRecord)
    (kept : ∀ r ∈ L.inFlight, r.number = n → (f r).number = r.number ∧ (r.phase ≠ .atExit → (f r).phase ≠ .atExit) ∧
      (r.phase = .atExit → (f r).phase = .atExit ∧ (f r).destination = r.destination ∧ (f r).retirePosition = r.retirePosition))
    (tokens : List QueuedToken) : Lane.exitCoherent { L with inFlight := modNumber n f L.inFlight, tokens := tokens } := by
  refine h.congr rfl rfl rfl rfl (fun k _ r hr number atExit ungated => ?_) fun x hx atExit => ?_
  · refine ⟨_, modNumber_mem hr, ?_⟩
    by_cases same : r.number = n
    · obtain ⟨numberKept, _, atExitKept⟩ := kept r hr same
      obtain ⟨stays, _, retire⟩ := atExitKept atExit
      rw [if_pos same]
      exact ⟨numberKept.trans number, stays, retire.trans ungated⟩
    · rw [if_neg same]
      exact ⟨number, atExit, ungated⟩
  · obtain ⟨r, hr, ⟨same, rfl⟩ | ⟨_, rfl⟩⟩ := mem_modNumber hx
    · obtain ⟨numberKept, awayKept, atExitKept⟩ := kept r hr same
      have rAtExit : r.phase = .atExit := by
        by_contra away
        exact awayKept away atExit
      exact ⟨r, hr, numberKept.symm, rAtExit, (atExitKept rAtExit).2.1.symm⟩
    · exact ⟨x, hr, rfl, atExit, rfl⟩

theorem State.candidate_spec {s : State} {l : LaneId} {r : PieceRecord} (h : s.candidate l = some r) :
    r ∈ (s.lane l).inFlight ∧ r.retirePosition = none ∧ r.phase ≠ .atExit := by
  refine ⟨List.mem_of_find?_eq_some h, ?_⟩
  have test := List.find?_some h
  simp only [PieceRecord.gated, Bool.and_eq_true, Bool.not_eq_true', Option.isSome_eq_false_iff, Option.isNone_iff_eq_none,
    decide_eq_true_eq] at test
  exact test

/-- In a whole pool the erasure by a number leaves the records of other numbers. -/
theorem State.poolWhole.mem_eraseP {s : State} (whole : s.poolWhole) {l : LaneId} {n : RecordNo} {r : PieceRecord} :
    r ∈ (s.lane l).inFlight.eraseP (fun x => decide (x.number = n)) ↔ r ∈ (s.lane l).inFlight ∧ r.number ≠ n := by
  constructor
  · intro hr
    have listed := List.mem_of_mem_eraseP hr
    refine ⟨listed, fun same => ?_⟩
    cases found : s.findRecord l n with
    | none =>
      have := List.find?_eq_none.mp found r listed
      simp [same] at this
    | some x =>
      obtain ⟨front, back, split, _, _, erased⟩ := split_of_find? found
      have nodup := whole.numbers_nodup l
      unfold Lane.numbers at nodup
      rw [erased] at hr
      have number : x.number = n := (State.findRecord_mem found).2
      rw [split, List.map_append, List.map_cons, List.nodup_middle, ← List.map_append] at nodup
      exact (List.nodup_cons.mp nodup).1 (List.mem_map.mpr ⟨r, hr, same.trans number.symm⟩)
  · rintro ⟨hr, other⟩
    exact (List.mem_eraseP_of_neg (by simpa using other)).mpr hr

theorem Effect.exitCoherent {s : State} {m : LaneId} {M : Lane} (effect : Effect s m M) (whole : s.poolWhole) (exits : s.exitsCoherent)
    (rests : s.restCoherent) : M.exitCoherent := by
  have coherent := exits m
  cases effect with
  | same => exact coherent
  | inert h =>
    obtain ⟨_, inFlight, _, _, mode, _⟩ := h.kept
    exact coherent.same (by rw [h]) (by rw [h]) (by rw [h]) (by rw [mode]) inFlight
  | freed n away =>
    have onItsWay := away whole exits
    have arrival : ((s.lane m).freed n).exit.arrival = (s.lane m).exit.arrival := by
      unfold Lane.freed
      dsimp only
      split
      · next matched =>
        obtain ⟨_, r, hr, number, atExit, _⟩ := coherent.1 n matched
        exact absurd atExit (onItsWay r hr number)
      · rfl
    refine coherent.congr rfl arrival rfl rfl (fun k _ r hr number atExit ungated => ?_) fun x hx atExit => ?_
    · exact ⟨r, whole.mem_eraseP.mpr ⟨hr, fun same => onItsWay r hr same atExit⟩, number, atExit, ungated⟩
    · exact ⟨x, (whole.mem_eraseP.mp hx).1, rfl, atExit, rfl⟩
  | tokenLost => exact coherent.same rfl rfl rfl rfl rfl
  | purged =>
    exact Lane.exitCoherent_of_none (fun n h => by cases h) (fun r hr => absurd hr (List.not_mem_nil)) rfl (fun _ => rfl) fun _ => rfl
  | appended r fresh passes =>
    refine coherent.congr rfl rfl rfl (LaneMode.woken_passes _) (fun k _ r hr number atExit ungated => ?_) fun x hx atExit => ?_
    · exact ⟨r, List.mem_append_left _ hr, number, atExit, ungated⟩
    · rcases List.mem_append.mp hx with hx | hx
      · exact ⟨x, hx, rfl, atExit, rfl⟩
      · rw [List.mem_singleton.mp hx, fresh] at atExit
        cases atExit
  | record n f kept =>
    exact coherent.modNumber n f (fun r hr same => by
      obtain ⟨number, _, away, atExit⟩ := kept whole r hr same
      exact ⟨number, away, atExit⟩) _
  | doubled n ts => exact coherent.modNumber n _ (by intro r _ _; exact ⟨rfl, id, fun h => ⟨h, rfl, rfl⟩⟩) _
  | sched => exact coherent.same rfl rfl rfl rfl rfl
  | exitLevel f arrival route held =>
    have absent := coherent.2.2.2.2 held
    have unmatched : ∀ n, (s.lane m).exit.arrival ≠ .matched n := fun n h => by rw [absent] at h; cases h
    refine Lane.exitCoherent_of_none (arrival ▸ unmatched) (coherent.none_atExit unmatched) (route.trans (coherent.2.2.1 unmatched))
      (fun _ => arrival.trans absent) fun _ => arrival.trans absent
  | arrived r d target covers clear passes candidate =>
    have absent := coherent.2.2.2.1 clear
    have none := coherent.none_atExit fun n h => by rw [absent] at h; cases h
    obtain ⟨listed, ungated, _⟩ := State.candidate_spec candidate
    refine ⟨fun n matched => ?_, fun x hx atExit => ?_, fun unmatched => ?_, fun isClear => ?_, fun held => ?_⟩
    · injection matched with same
      have changed := modNumber_mem (n := r.number) (f := fun x => { x with phase := .atExit, destination := some d }) listed
      rw [if_pos rfl] at changed
      exact ⟨covers, _, changed, same, rfl, ungated⟩
    · obtain ⟨y, hy, ⟨same, rfl⟩ | ⟨_, rfl⟩⟩ := mem_modNumber hx
      · exact ⟨congrArg Arrival.matched same.symm, rfl⟩
      · exact absurd atExit (none x hy)
    · exact absurd rfl (unmatched r.number)
    · exact absurd (covers.symm.trans isClear) (by decide)
    · exact absurd (passes.symm.trans held) (by decide)
  | phantom target covers clear passes =>
    have absent := coherent.2.2.2.1 clear
    have unmatched : ∀ n, (s.lane m).exit.arrival ≠ .matched n := fun n h => by rw [absent] at h; cases h
    exact Lane.exitCoherent_of_none (fun n h => by cases h) (coherent.none_atExit unmatched) (coherent.2.2.1 unmatched)
      (fun isClear => absurd (covers.symm.trans isClear) (by decide)) fun held => absurd (passes.symm.trans held) (by decide)
  | departed n arrival clears passes =>
    refine Lane.exitCoherent_of_none (fun n h => by cases h) (fun r hr atExit => ?_) rfl (fun _ => rfl) fun _ => rfl
    obtain ⟨listed, other⟩ := whole.mem_eraseP.mp hr
    have matched := (coherent.2.1 r listed atExit).1
    rw [arrival] at matched
    injection matched with same
    exact other same.symm
  | unfound n arrival missing =>
    obtain ⟨_, r, hr, number, _⟩ := coherent.1 n arrival
    have found := whole.findRecord hr
    rw [number, missing] at found
    cases found
  | uncovered target unmatched clears passes =>
    exact Lane.exitCoherent_of_none (fun n h => by cases h) (coherent.none_atExit unmatched) (coherent.2.2.1 unmatched) (fun _ => rfl)
      fun _ => rfl
  | rerouted r x found atExit =>
    obtain ⟨listed, number⟩ := State.findRecord_mem found
    have arrival := (coherent.2.1 x listed atExit).1
    refine ⟨fun n matched => ?_, fun y hy yAtExit => ?_, fun unmatched => rfl, coherent.2.2.2.1, coherent.2.2.2.2⟩
    · obtain ⟨covered, z, hz, zNumber, zAtExit, ungated⟩ := coherent.1 n matched
      have changed := modNumber_mem (n := r.number)
        (f := fun x => { x with forceOverflow := true, destination := some .overflow }) hz
      refine ⟨covered, _, changed, ?_⟩
      split
      · exact ⟨zNumber, zAtExit, ungated⟩
      · exact ⟨zNumber, zAtExit, ungated⟩
    · obtain ⟨z, hz, ⟨same, rfl⟩ | ⟨other, rfl⟩⟩ := mem_modNumber hy
      · exact ⟨(coherent.2.1 z hz yAtExit).1, rfl⟩
      · have matched := (coherent.2.1 y hz yAtExit).1
        rw [arrival] at matched
        injection matched with same
        exact absurd (same.symm.trans number) other
  | queued books q room passes =>
    refine (books.exitCoherent coherent).same rfl rfl rfl (LaneMode.woken_passes _) rfl
  | turned turns =>
    obtain ⟨_, inFlight, _⟩ := turns.kept
    have exit : M.exit = { (s.lane m).exit with
        rawLevel := M.exit.rawLevel, pendingChange := M.exit.pendingChange, blockedTarget := M.exit.blockedTarget
        blockedWaits := M.exit.blockedWaits, missingWaits := M.exit.missingWaits } := congrArg Lane.exit turns.same
    obtain ⟨matched, listed, rest, clear, held⟩ := coherent
    refine ⟨?_, ?_, ?_, ?_, fun held => ?_⟩
    · rw [exit, inFlight]
      exact matched
    · rw [exit, inFlight]
      exact listed
    · rw [exit]
      exact rest
    · rw [exit]
      exact clear
    · exact absurd (turns.after.symm.trans held) (by decide)
  | idled suspended =>
    obtain ⟨_, inFlight⟩ := rests m (Or.inr suspended)
    exact Lane.exitCoherent_of_none (fun n h => by cases h) (fun r hr => absurd (inFlight ▸ hr) List.not_mem_nil) rfl (fun _ => rfl)
      fun _ => rfl
  | faultCleared faulted =>
    have absent := coherent.2.2.2.2 (by rw [faulted]; rfl)
    have unmatched : ∀ n, (s.lane m).exit.arrival ≠ .matched n := fun n h => by rw [absent] at h; cases h
    exact Lane.exitCoherent_of_none unmatched (coherent.none_atExit unmatched) (coherent.2.2.1 unmatched) (fun _ => absent) fun _ => absent
  | reset =>
    exact Lane.exitCoherent_of_none (fun n h => by cases h) (fun r hr => absurd hr List.not_mem_nil) rfl (fun _ => rfl) fun _ => rfl

theorem exitsCoherent_move {s t : State} (move : Move s t) (whole : s.poolWhole) (exits : s.exitsCoherent) (rests : s.restCoherent) :
    t.exitsCoherent :=
  (Effects.ofMove move).keep (fun _ _ effect => effect.exitCoherent whole exits rests) fun _ _ books => books.exitCoherent

end Sys2Proof.Machine
end


section
/-!
# Inbound marks

`Marks out s t`: the stack places stay sound, the marks of the places in `out` are cleared, and the others stand. An AT_EXIT record that leaves
its lane takes the mark of its place with it; a matched arrival sets one.
-/

namespace Sys2Proof.Machine

/-! ## Clearing marks -/

/-- The inbound marks of the places `out` are cleared, and nothing else becomes of any mark. -/
structure Marks (out : PlaceId → Prop) (s t : State) : Prop where
  sound : s.stacksSound → t.stacksSound
  inbound : s.stacksSound → ∀ q, (t.place q).inbound = true ↔ (s.place q).inbound = true ∧ ¬ out q
  lane : s.stacksSound → ∀ q, (t.place q).inbound = true → (t.place q).lane = (s.place q).lane

/-- A record that is AT_EXIT and goes to the place. -/
def PieceRecord.bound (r : PieceRecord) (p : PlaceId) : Prop := r.phase = .atExit ∧ r.destination = some (.place p)

theorem Marks.of_step {s t : State} (sound : s.stacksSound → t.stacksSound)
    (inbound : s.stacksSound → ∀ p, (t.place p).inbound = (s.place p).inbound)
    (lane : s.stacksSound → ∀ p, (s.place p).inbound = true → (t.place p).lane = (s.place p).lane) : Marks (fun _ => False) s t where
  sound := sound
  inbound := fun holds q => by rw [inbound holds q]; simp
  lane := fun holds q marked => lane holds q (inbound holds q ▸ marked)

theorem PlacesStep.marks {s t : State} (h : PlacesStep s t) : Marks (fun _ => False) s t := .of_step h.sound h.inbound h.inboundLane

theorem Quiet.marks {s t : State} (h : Quiet s t) : Marks (fun _ => False) s t := h.places.marks

theorem Loose.marks {s t : State} (h : Loose s t) : Marks (fun _ => False) s t := h.places.marks

theorem Inert.marks {s t : State} (h : Inert s t) : Marks (fun _ => False) s t := .of_step h.sound h.inbound h.inboundLane

namespace Marks

variable {out more : PlaceId → Prop} {s t u : State} {l : LaneId}

theorem ofSame (places : t.places = s.places) (discharge : t.discharge = s.discharge) : Marks (fun _ => False) s t :=
  (PlacesStep.ofSame places discharge).marks

theorem trans (h : Marks out s t) (k : Marks more t u) : Marks (fun q => out q ∨ more q) s u where
  sound := fun sound => k.sound (h.sound sound)
  inbound := fun sound q => by
    rw [k.inbound (h.sound sound) q, h.inbound sound q, not_or, and_assoc]
  lane := fun sound q marked => by
    have between := ((k.inbound (h.sound sound) q).mp marked).1
    exact (k.lane (h.sound sound) q marked).trans (h.lane sound q between)

theorem congr (h : Marks out s t) (same : ∀ q, out q ↔ more q) : Marks more s t where
  sound := h.sound
  inbound := fun sound q => by rw [h.inbound sound q, same q]
  lane := h.lane

/-- After an operation that clears no mark. -/
theorem after (h : Marks (fun _ => False) s t) (k : Marks out t u) : Marks out s u := (h.trans k).congr fun _ => by rw [false_or]

/-- Before an operation that clears no mark. -/
theorem andThen (h : Marks out s t) (k : Marks (fun _ => False) t u) : Marks out s u := (h.trans k).congr fun _ => by rw [or_false]

/-- A FILLING place changed in its mark, and in fields that neither its state nor its lane is among. -/
theorem unmark (s : State) (p : PlaceId) (f : Place → Place) (state : (f (s.place p)).state = (s.place p).state)
    (lane : (f (s.place p)).lane = (s.place p).lane) (cleared : (f (s.place p)).inbound = false) (filling : (s.place p).state = .filling) :
    Marks (· = p) s (s.modPlace p f) := by
  have states (q : PlaceId) : ((s.modPlace p f).place q).state = (s.place q).state := by
    rw [State.modPlace_place]; split
    · next e => rw [state, e]
    · rfl
  have marks (q : PlaceId) : ((s.modPlace p f).place q).inbound = true ↔ (s.place q).inbound = true ∧ q ≠ p := by
    rw [State.modPlace_place]; split
    · next e => rw [cleared]; simp [e]
    · next e => simp [e]
  have lanes (q : PlaceId) : ((s.modPlace p f).place q).lane = (s.place q).lane := by
    rw [State.modPlace_place]; split
    · next e => rw [lane, e]
    · rfl
  refine ⟨fun ⟨outfeed, queue, coherent, marked⟩ => ⟨outfeed, ?_, ?_, fun q h => ?_⟩, fun _ => marks, fun _ q _ => lanes q⟩
  · unfold State.queueHoldsFull at queue ⊢
    simpa only [states, State.modPlace_discharge] using queue
  · exact PlacesStep.placesCoherent_modPlace coherent (fun h => absurd ((state.trans filling).symm.trans h) (by decide))
      fun _ => ⟨filling, lane⟩
  · rw [states]
    exact marked q ((marks q).mp h).1

theorem clearInbound (s : State) (p : PlaceId) : Marks (· = p) s (s.clearInbound p) := by
  by_cases marked : (s.place p).inbound = true
  · by_cases sound : s.stacksSound
    · have cleared : Marks (· = p) s (s.modPlace p fun pl => { pl with inbound := false }) :=
        unmark s p _ rfl rfl rfl (sound.2.2.2 p marked)
      unfold State.clearInbound
      rw [if_pos marked]
      dsimp only
      split
      · exact cleared.andThen (Quiet.shortClose _ p).marks
      · exact cleared
    · exact ⟨fun h => absurd h sound, fun h => absurd h sound, fun h => absurd h sound⟩
  · have same : s.clearInbound p = s := if_neg marked
    rw [same]
    exact ⟨id, fun _ q => ⟨fun h => ⟨h, fun e => marked (e ▸ h)⟩, fun h => h.1⟩, fun _ _ _ => rfl⟩

theorem leavePlace (s : State) (r : PieceRecord) : Marks r.bound s (s.leavePlace r) := by
  unfold State.leavePlace
  split
  · next p atExit goes =>
    exact (clearInbound s p).congr fun q => ⟨fun e => ⟨atExit, e ▸ goes⟩, fun h => by
      have same := goes.symm.trans h.2
      injection same with same
      injection same with same
      exact same.symm⟩
  · next other =>
    exact (ofSame rfl rfl).congr fun q => ⟨False.elim, fun h => other q h.1 h.2⟩

theorem retire {n : RecordNo} {r : PieceRecord} (found : s.findRecord l n = some r) (o : Retirement) : Marks r.bound s (s.retire l n o) := by
  have freed : Marks (fun _ => False) s (s.freeRecord l r) := ofSame rfl rfl
  have counted (t : State) : Marks (fun _ => False) t (t.countRetirement l r o) := by
    unfold State.countRetirement
    dsimp only
    split <;> exact ofSame rfl rfl
  have examined (t : State) : Marks (fun _ => False) t (t.examineSuspending l) := by
    unfold State.examineSuspending
    split <;> exact ofSame rfl rfl
  unfold State.retire
  rw [found]
  exact freed.after ((leavePlace _ r).andThen ((Loose.bookTokens _ l o r.tokens).marks.after ((counted _).after (examined _))))

theorem loseToken (s : State) (l : LaneId) (t : Token) : Marks (fun _ => False) s (s.loseToken l t) := by
  have counted (t : State) : Marks (fun _ => False) t (t.addLaneCounter l Retirement.lost.laneIndex 1) := ofSame rfl rfl
  have examined (t : State) : Marks (fun _ => False) t (t.examineSuspending l) := by
    unfold State.examineSuspending
    split <;> exact ofSame rfl rfl
  unfold State.loseToken
  exact (Loose.book s l .lost t.entry).marks.after ((counted _).after (examined _))

theorem purgeRecords (s : State) (l : LaneId) (absent : (s.lane l).exit.arrival = .absent) :
    Marks (fun q => ∃ r ∈ (s.lane l).inFlight, r.bound q) s (s.purgeRecords l) := by
  unfold State.purgeRecords
  generalize list : (s.lane l).inFlight = rs
  induction rs generalizing s with
  | nil => exact (ofSame rfl rfl).congr fun q => by simp
  | cons r rs ih =>
    have found : s.findRecord l r.number = some r := by
      unfold State.findRecord
      rw [list]
      simp
    have own := (BooksAll.retired found .lost).lanes l
    rw [State.freeRecord_lane_same, Lane.freed_of_absent absent, list, List.eraseP_cons_of_pos (by simp)] at own
    have rest := ih (s.retire l r.number .lost) (by rw [own.same]; exact absent) (by rw [own.same])
    exact ((retire found .lost).trans rest).congr fun q => by simp

theorem purge (s : State) (l : LaneId) (f : LaneFault) : Marks (fun q => ∃ r ∈ (s.lane l).inFlight, r.bound q) s (s.purge l f) := by
  have entered : Marks (fun _ => False) s (s.enterFaulted l f) := ofSame rfl rfl
  have lane : ((s.enterFaulted l f).lane l).inFlight = (s.lane l).inFlight ∧ ((s.enterFaulted l f).lane l).exit.arrival = .absent := by
    unfold State.enterFaulted State.holdEdges
    rw [State.modLane_lane_same, State.modLane_lane_same]
    exact ⟨rfl, rfl⟩
  have records := purgeRecords (s.enterFaulted l f) l lane.2
  rw [lane.1] at records
  have tokens (t : State) : Marks (fun _ => False) t (t.purgeTokens l) := by
    unfold State.purgeTokens
    generalize (t.lane l).tokens = qs
    induction qs generalizing t with
    | nil => exact ofSame rfl rfl
    | cons q qs ih =>
      have popped : Marks (fun _ => False) t (t.popToken l) := ofSame rfl rfl
      exact popped.after ((loseToken _ l q.token).after (ih _))
  have gated (t : State) : Marks (fun _ => False) t (t.holdGate l) := ofSame rfl rfl
  unfold State.purge
  exact entered.after (records.andThen ((tokens _).after ((gated _).after ((Quiet.freeEmptyFilling _ l).marks.after (Quiet.produce _ _).marks))))

/-! ## Deliveries -/

theorem countDelivery (s : State) (p : PlaceId) (t : Option Token) (filling : (s.place p).state = .filling) :
    Marks (· = p) s (s.countDelivery p t) := by
  have counted : Marks (· = p) s (s.modPlace p fun pl => pl.counted t) := unmark s p (fun pl => pl.counted t) rfl rfl rfl filling
  have place : (s.modPlace p fun pl => pl.counted t).place p = (s.place p).counted t := State.modPlace_place_same s p _
  unfold State.countDelivery
  dsimp only
  split
  · exact counted.andThen (Quiet.makeFull _ p false (by rw [place]; exact filling) (by rw [place]; rfl)).marks
  · split
    · exact counted.andThen (Quiet.shortClose _ p).marks
    · exact counted

theorem passExit {n : RecordNo} {r : PieceRecord} (found : s.findRecord l n = some r) (atExit : r.phase = .atExit)
    (filling : ∀ p, r.destination = some (.place p) → (s.place p).state = .filling) : Marks r.bound s (s.passExit l n) := by
  have after (t : State) (found : t.findRecord l n = some r) : Marks r.bound t (t.retire l n (exitOutcome r)) := retire found _
  unfold State.passExit
  rw [found]
  dsimp only
  have sameFound : (s.countIfDelivered r).findRecord l n = some r := by
    unfold State.findRecord at found ⊢
    rw [((BooksAll.countIfDelivered s r).lanes l).same]
    exact found
  have counted : Marks r.bound s (s.countIfDelivered r) ∨ Marks (fun _ => False) s (s.countIfDelivered r) := by
    unfold State.countIfDelivered
    split
    · next p goes =>
      exact Or.inl ((countDelivery s p _ (filling p goes)).congr fun q => ⟨fun e => ⟨atExit, e ▸ goes⟩, fun h => by
        have same := goes.symm.trans h.2
        injection same with same
        injection same with same
        exact same.symm⟩)
    · exact Or.inr (ofSame rfl rfl)
  rcases counted with counted | counted
  · exact (counted.trans (after _ sameFound)).congr fun q => or_self_iff
  · exact counted.after (after _ sameFound)

end Marks

/-! ## Marks and records -/

/-- A record of the lane that is AT_EXIT goes to the place. -/
def State.routed (s : State) (l : LaneId) (p : PlaceId) : Prop := ∃ r ∈ (s.lane l).inFlight, r.bound p

/-- Marks cleared with the records that were routed to their places. -/
theorem State.inboundCoherent.of_marks {out : PlaceId → Prop} {s t : State} (h : s.inboundCoherent) (sound : s.stacksSound)
    (marks : Marks out s t) (routed : ∀ l p, t.routed l p ↔ s.routed l p ∧ ¬ out p) : t.inboundCoherent := by
  obtain ⟨marked, bound⟩ := h
  refine ⟨fun p inbound => ?_, fun l r hr atExit p goes => ?_⟩
  · obtain ⟨before, notOut⟩ := (marks.inbound sound p).mp inbound
    obtain ⟨_, l, lane, r, hr, atExit, goes⟩ := marked p before
    obtain ⟨x, hx, xAtExit, xGoes⟩ := (routed l p).mpr ⟨⟨r, hr, atExit, goes⟩, notOut⟩
    exact ⟨(marks.sound sound).2.2.2 p inbound, l, (marks.lane sound p inbound).trans lane, x, hx, xAtExit, xGoes⟩
  · obtain ⟨⟨x, hx, xAtExit, xGoes⟩, notOut⟩ := (routed l p).mp ⟨r, hr, atExit, goes⟩
    obtain ⟨_, inbound, lane⟩ := bound l x hx xAtExit p xGoes
    have stands := (marks.inbound sound p).mpr ⟨inbound, notOut⟩
    exact ⟨(marks.sound sound).2.2.2 p stands, stands, (marks.lane sound p stands).trans lane⟩

/-- Lanes that route alike, but for one. -/
theorem State.routed_iff {out : PlaceId → Prop} {s t : State} (l : LaneId) (inbound : s.inboundCoherent)
    (others : ∀ m, m ≠ l → (t.lane m).inFlight = (s.lane m).inFlight) (own : ∀ p, t.routed l p ↔ s.routed l p ∧ ¬ out p)
    (outs : ∀ p, out p → s.routed l p) : ∀ m p, t.routed m p ↔ s.routed m p ∧ ¬ out p := fun m p => by
  by_cases h : m = l
  · exact h ▸ own p
  · unfold State.routed
    rw [others m h]
    refine ⟨fun ⟨r, hr, atExit, goes⟩ => ⟨⟨r, hr, atExit, goes⟩, fun isOut => h ?_⟩, And.left⟩
    obtain ⟨x, hx, xAtExit, xGoes⟩ := outs p isOut
    have lane := (inbound.2 m r hr atExit p goes).2.2
    have lane' := (inbound.2 l x hx xAtExit p xGoes).2.2
    rw [lane] at lane'
    injection lane'

/-- Every lane keeps its records. -/
theorem State.inboundCoherent.of_same {s t : State} (h : s.inboundCoherent) (sound : s.stacksSound) (marks : Marks (fun _ => False) s t)
    (inFlight : ∀ m, (t.lane m).inFlight = (s.lane m).inFlight) : t.inboundCoherent :=
  h.of_marks sound marks fun l p => by
    unfold State.routed
    rw [inFlight l]
    simp

/-- What a move makes of marks and records: the marks that fall are those of the records that are no longer routed. -/
def Reroutes (s t : State) : Prop := ∃ out, Marks out s t ∧ ∀ l p, t.routed l p ↔ s.routed l p ∧ ¬ out p

namespace Reroutes

variable {s t u : State} {l : LaneId}

theorem ofSame (marks : Marks (fun _ => False) s t) (inFlight : ∀ m, (t.lane m).inFlight = (s.lane m).inFlight) : Reroutes s t :=
  ⟨fun _ => False, marks, fun l p => by
    unfold State.routed
    rw [inFlight l]
    simp⟩

theorem ofBooks (marks : Marks (fun _ => False) s t) (books : ∀ m, (s.lane m).Books (t.lane m)) : Reroutes s t :=
  ofSame marks fun m => (books m).kept.2.1

/-- A change of one lane that routes its records alike. -/
theorem ofModLane (s : State) (l : LaneId) (f : Lane → Lane)
    (routed : ∀ p, (∃ r ∈ (f (s.lane l)).inFlight, r.bound p) ↔ ∃ r ∈ (s.lane l).inFlight, r.bound p) : Reroutes s (s.modLane l f) :=
  ⟨fun _ => False, Marks.ofSame rfl rfl, fun m p => by
    unfold State.routed
    rw [State.modLane_lane]
    split
    · next e => rw [routed p, e]; simp
    · simp⟩

/-- Records changed by number, each of them bound as before. -/
theorem bound_modNumber {rs : List PieceRecord} {n : RecordNo} {f : PieceRecord → PieceRecord}
    (same : ∀ r ∈ rs, r.number = n → ∀ p, (f r).bound p ↔ r.bound p) (p : PlaceId) :
    (∃ r ∈ modNumber n f rs, r.bound p) ↔ ∃ r ∈ rs, r.bound p := by
  constructor
  · rintro ⟨x, hx, bound⟩
    obtain ⟨r, hr, ⟨number, rfl⟩ | ⟨_, rfl⟩⟩ := mem_modNumber hx
    · exact ⟨r, hr, (same r hr number p).mp bound⟩
    · exact ⟨x, hr, bound⟩
  · rintro ⟨r, hr, bound⟩
    refine ⟨_, modNumber_mem hr, ?_⟩
    split
    · next number => exact (same r hr number p).mpr bound
    · exact bound

/-- The record of a matched arrival is the one AT_EXIT. -/
theorem routed_of_matched (whole : s.poolWhole) (exits : s.exitsCoherent) {r : PieceRecord} (hr : r ∈ (s.lane l).inFlight)
    (atExit : r.phase = .atExit) (p : PlaceId) : s.routed l p ↔ r.bound p := by
  refine ⟨fun ⟨x, hx, bound⟩ => ?_, fun bound => ⟨r, hr, bound⟩⟩
  have matched := (exits l).2.1 r hr atExit
  have matched' := (exits l).2.1 x hx bound.1
  rw [matched.1] at matched'
  have number : r.number = x.number := by
    injection matched'.1
  rw [whole.unique hr hx number]
  exact bound

theorem retire (whole : s.poolWhole) (inbound : s.inboundCoherent) (n : RecordNo) (o : Retirement)
    (away : s.onItsWay l n) : Reroutes s (s.retire l n o) := by
  cases found : s.findRecord l n with
  | none =>
    have same : s.retire l n o = s := by
      unfold State.retire
      rw [found]
    rw [same]
    exact ofSame (Marks.ofSame rfl rfl) fun _ => rfl
  | some r =>
    obtain ⟨listed, number⟩ := State.findRecord_mem found
    have never (p : PlaceId) : ¬ r.bound p := fun bound => away r listed number bound.1
    have lane := (BooksAll.retired found o).lanes
    refine ⟨r.bound, Marks.retire found o, State.routed_iff l inbound (fun m h => ?_) (fun p => ?_) fun p bound => absurd bound (never p)⟩
    · rw [(lane m).kept.2.1, State.freeRecord_lane_other s r h]
    · unfold State.routed
      rw [(lane l).kept.2.1, State.freeRecord_lane_same, number]
      refine ⟨fun ⟨x, hx, bound⟩ => ⟨⟨x, (whole.mem_eraseP.mp hx).1, bound⟩, never p⟩, fun ⟨⟨x, hx, bound⟩, _⟩ => ?_⟩
      exact ⟨x, whole.mem_eraseP.mpr ⟨hx, fun same => away x hx same bound.1⟩, bound⟩

theorem purge (inbound : s.inboundCoherent) (l : LaneId) (f : LaneFault) : Reroutes s (s.purge l f) := by
  obtain ⟨own, others, _, _⟩ := State.purge_books s l f
  refine ⟨_, Marks.purge s l f, State.routed_iff l inbound (fun m h => (others m h).kept.2.1) (fun p => ?_) fun p bound => bound⟩
  have none : ((s.purge l f).lane l).inFlight = [] := own.kept.2.1
  unfold State.routed
  rw [none]
  simp

theorem append (n : RecordNo) (lead : Pos) : Reroutes s (s.appendRecord l n lead) := by
  have marks : Marks (fun _ => False) s (s.appendRecord l n lead) := by
    unfold State.appendRecord State.wakeSuspended
    split <;> exact Marks.ofSame rfl rfl
  refine ⟨_, marks, fun m p => ?_⟩
  unfold State.routed
  rw [State.appendRecord_lane]
  split
  · next e =>
    rw [e]
    refine ⟨fun ⟨x, hx, bound⟩ => ⟨?_, id⟩, fun ⟨⟨x, hx, bound⟩, _⟩ => ⟨x, List.mem_append_left _ hx, bound⟩⟩
    rcases List.mem_append.mp hx with hx | hx
    · exact ⟨x, hx, bound⟩
    · rw [List.mem_singleton.mp hx] at bound
      exact absurd bound.1 (by simp [State.newRecord])
  · simp

/-- A change of the Exit Unit leaves the records. -/
theorem modExit_inFlight (s : State) (l m : LaneId) (f : ExitUnit → ExitUnit) :
    ((s.modExit l f).lane m).inFlight = (s.lane m).inFlight := by
  unfold State.modExit
  rw [State.modLane_lane]
  split
  · next e => rw [e]
  · rfl

/-- The record that passes the exit leaves its lane, and no other record goes. -/
theorem passExit_inFlight {n : RecordNo} {r : PieceRecord} (found : s.findRecord l n = some r) :
    ((s.passExit l n).lane l).inFlight = (s.lane l).inFlight.eraseP (fun x => decide (x.number = n)) ∧
    ∀ m, m ≠ l → ((s.passExit l n).lane m).inFlight = (s.lane m).inFlight := by
  have counted := BooksAll.countIfDelivered s r
  have number : r.number = n := (State.findRecord_mem found).2
  have foundAfter : (s.countIfDelivered r).findRecord l n = some r := by
    unfold State.findRecord at found ⊢
    rw [(counted.lanes l).same]
    exact found
  have retired := BooksAll.retired foundAfter (exitOutcome r)
  unfold State.passExit
  rw [found]
  dsimp only
  refine ⟨?_, fun m h => ?_⟩
  · rw [(retired.lanes l).kept.2.1, State.freeRecord_lane_same, number]
    exact congrArg (List.eraseP _) (counted.lanes l).kept.2.1
  · rw [(retired.lanes m).kept.2.1, State.freeRecord_lane_other _ _ h, (counted.lanes m).kept.2.1]

theorem depart (whole : s.poolWhole) (exits : s.exitsCoherent) (inbound : s.inboundCoherent) (l : LaneId) :
    Reroutes s ((s.modExit l ExitUnit.accept).exitTrailing l) := by
  have accepted : Marks (fun _ => False) s (s.modExit l ExitUnit.accept) := Marks.ofSame rfl rfl
  have inFlight (m : LaneId) := modExit_inFlight s l m ExitUnit.accept
  have places (p : PlaceId) : (s.modExit l ExitUnit.accept).place p = s.place p := rfl
  have arrival : ((s.modExit l ExitUnit.accept).lane l).exit.arrival = (s.lane l).exit.arrival := by
    unfold State.modExit
    rw [State.modLane_lane_same]
    rfl
  unfold State.exitTrailing
  rw [arrival]
  cases stands : (s.lane l).exit.arrival with
  | absent => exact ofSame accepted inFlight
  | phantom => exact ofSame (accepted.andThen (Marks.ofSame rfl rfl)) fun m => (modExit_inFlight _ l m _).trans (inFlight m)
  | matched n =>
    obtain ⟨_, r, hr, number, atExit, _⟩ := (exits l).1 n stands
    have found : (s.modExit l ExitUnit.accept).findRecord l n = some r := by
      have before := whole.findRecord hr
      unfold State.findRecord at before ⊢
      rw [inFlight l, ← number]
      exact before
    have filling (p : PlaceId) (goes : r.destination = some (.place p)) : ((s.modExit l ExitUnit.accept).place p).state = .filling :=
      (inbound.2 l r hr atExit p goes).1
    have passed := Marks.passExit found atExit filling
    obtain ⟨own, others⟩ := passExit_inFlight found
    have cleared (v : State) : Marks (fun _ => False) v (v.clearArrival l) := Marks.ofSame rfl rfl
    have records (v : State) (m : LaneId) : ((v.clearArrival l).lane m).inFlight = (v.lane m).inFlight := modExit_inFlight v l m _
    have only := routed_of_matched whole exits hr atExit
    refine ⟨r.bound, accepted.after (passed.andThen (cleared _)), State.routed_iff l inbound (fun m h => ?_) (fun p => ?_) fun p =>
      (only p).mpr⟩
    · exact (records _ m).trans ((others m h).trans (inFlight m))
    · rw [only p]
      refine ⟨fun ⟨x, hx, bound⟩ => ?_, fun ⟨bound, unbound⟩ => absurd bound unbound⟩
      rw [records, own, inFlight] at hx
      obtain ⟨listed, other⟩ := whole.mem_eraseP.mp hx
      have matched := ((exits l).2.1 x listed bound.1).1
      rw [stands] at matched
      injection matched with same
      exact absurd same.symm other

theorem reroute (whole : s.poolWhole) (exits : s.exitsCoherent) (inbound : s.inboundCoherent) {r x : PieceRecord}
    (found : s.findRecord l r.number = some x) (atExit : r.phase = .atExit) (phase : x.phase = r.phase)
    (destination : x.destination = r.destination) : Reroutes s (s.rerouteAtExit l r) := by
  obtain ⟨listed, number⟩ := State.findRecord_mem found
  have xAtExit : x.phase = .atExit := phase.trans atExit
  have only := routed_of_matched whole exits listed xAtExit
  have same (p : PlaceId) : x.bound p ↔ r.bound p := by
    unfold PieceRecord.bound
    rw [phase, destination]
  have changed : Marks (fun _ => False) s ((s.modRecord l r.number fun x => { x with forceOverflow := true, destination := some .overflow }).modExit l
      fun x => { x with route := .overflow }) := Marks.ofSame rfl rfl
  have left (t : State) := BooksAll.leavePlace t r
  have records (m : LaneId) : ((s.rerouteAtExit l r).lane m).inFlight =
      ((s.modRecord l r.number fun x => { x with forceOverflow := true, destination := some .overflow }).lane m).inFlight :=
    ((left _).lanes m).kept.2.1.trans (modExit_inFlight _ l m _)
  refine ⟨r.bound, changed.after (Marks.leavePlace _ r), State.routed_iff l inbound (fun m h => ?_) (fun p => ?_) fun p bound =>
    (only p).mpr ((same p).mpr bound)⟩
  · rw [records]
    unfold State.modRecord
    rw [State.modLane_lane_other _ _ h]
  · rw [only p, same p]
    refine ⟨fun ⟨y, hy, bound⟩ => ?_, fun ⟨bound, unbound⟩ => absurd bound unbound⟩
    rw [records, State.modRecord_inFlight] at hy
    obtain ⟨z, hz, ⟨_, rfl⟩ | ⟨other, rfl⟩⟩ := mem_modNumber hy
    · exact absurd bound.2 (by simp)
    · have matched := ((exits l).2.1 y hz bound.1).1
      rw [((exits l).2.1 x listed xAtExit).1] at matched
      injection matched with equal
      exact absurd (equal.symm.trans number) other

end Reroutes

/-! ### Entries -/

namespace Loose

/-- The counts of an entry zeroed. -/
theorem zeroEntryCounts (s : State) (e : EntryId) : Loose s (s.zeroEntryCounts e) := by
  have within : ∀ k ∈ [6, 7, 8, 9, 10, 11], k < 12 := by decide
  unfold State.zeroEntryCounts
  generalize [6, 7, 8, 9, 10, 11] = ks at within
  induction ks generalizing s with
  | nil => exact Loose.refl s
  | cons k ks ih =>
    exact (Loose.setEntryWord s e k 0#16 (within k (List.mem_cons_self ..))).trans
      (ih _ fun x hx => within x (List.mem_cons_of_mem _ hx))

end Loose

namespace Marks

variable {s : State}

theorem claim (s : State) (l : LaneId) : Marks (fun _ => False) s (s.claim l) := by
  cases can : s.canClaim l with
  | true =>
    rw [State.claim_of_can can]
    have entered (t : State) (e : EntryId) : Marks (fun _ => False) t (t.takeEntry l e) := by
      have owner : Marks (fun _ => False) t ((t.setEntryWord e 5 (wordOf l.val)).setEntryStatus e .active) := Marks.ofSame rfl rfl
      have listed (u : State) : Marks (fun _ => False) u (u.modLane l fun L => { L with openList := L.openList ++ [⟨e, t.resolvedTarget e⟩] }) :=
        Marks.ofSame rfl rfl
      exact owner.after ((Loose.zeroEntryCounts _ e).marks.after (listed _))
    exact entered s _
  | false => exact (State.claim_quiet can).marks

theorem assign (s : State) (l : LaneId) (e : EntryId) : Marks (fun _ => False) s (s.assign l e) := by
  have counted : Marks (fun _ => False) s (s.bumpEntry e 6) := Marks.ofSame rfl rfl
  have step (t : State) : Marks (fun _ => False) t (t.stepClaim l) := by
    have dry (u : State) : Marks (fun _ => False) u (u.setMode l .dry) := Marks.ofSame rfl rfl
    unfold State.stepClaim
    split
    · exact claim t l
    · split
      · exact (claim t l).after (dry _)
      · exact claim t l
  have quota (t : State) : Marks (fun _ => False) t (t.quotaStep l e) := by
    have moved : Marks (fun _ => False) t ((t.setEntryStatus e .closing).modLane l fun L => { L with cursor := t.nextIndex l e }) :=
      Marks.ofSame rfl rfl
    exact moved.after (step _)
  unfold State.assign
  dsimp only
  split
  · exact counted.after (quota _)
  · exact counted

theorem acceptToken (s : State) (a : Announcement) (e : EntryId) : Marks (fun _ => False) s (s.acceptToken a e) := by
  have woken (t : State) : Marks (fun _ => False) t (t.wakeSuspended a.lane) := by
    unfold State.wakeSuspended
    split <;> exact Marks.ofSame rfl rfl
  have queued (t : State) (q : Token) : Marks (fun _ => False) t (t.queueToken a.lane q) := Marks.ofSame rfl rfl
  unfold State.acceptToken
  exact (assign s a.lane e).after ((queued _ _).after (woken _))

end Marks

end Sys2Proof.Machine
end


section
/-!
# Arrivals and their places

A matched arrival is given a FILLING place of its lane, marked inbound, or OVERFLOW; with that every move keeps the stack places coherent.
-/

namespace Sys2Proof.Machine

/-! ## The destination -/

/-- A destination is named for lane `l`: the place named is FILLING for the lane and has the one new mark. -/
structure Named (l : LaneId) (s t : State) (d : Destination) : Prop where
  sound : t.stacksSound
  inbound : ∀ q, (t.place q).inbound = true ↔ (s.place q).inbound = true ∨ d = .place q
  lane : ∀ q, (s.place q).inbound = true → (t.place q).lane = (s.place q).lane
  own : ∀ q, d = .place q → (t.place q).lane = some l

/-- No inbound mark stands on a place of the lane. -/
def State.unmarked (s : State) (l : LaneId) : Prop := ∀ p, (s.place p).inbound = true → (s.place p).lane ≠ some l

theorem Named.overflow {l : LaneId} {s t : State} (sound : s.stacksSound) (marks : Marks (fun _ => False) s t) : Named l s t .overflow where
  sound := marks.sound sound
  inbound := fun q => by rw [marks.inbound sound q]; simp
  lane := fun q marked => marks.lane sound q ((marks.inbound sound q).mpr ⟨marked, id⟩)
  own := fun q h => by cases h

theorem Marks.named {l : LaneId} {s t u : State} {d : Destination} (marks : Marks (fun _ => False) s t) (sound : s.stacksSound)
    (named : Named l t u d) : Named l s u d where
  sound := named.sound
  inbound := fun q => by rw [named.inbound q, marks.inbound sound q]; simp
  lane := fun q marked => by
    have between := (marks.inbound sound q).mpr ⟨marked, id⟩
    exact (named.lane q between).trans (marks.lane sound q between)
  own := named.own

theorem Marks.unmarked {l : LaneId} {s t : State} (marks : Marks (fun _ => False) s t) (sound : s.stacksSound) (none : s.unmarked l) :
    t.unmarked l := fun p marked => by
  rw [marks.lane sound p marked]
  exact none p ((marks.inbound sound p).mp marked).1

/-- A FILLING place of the lane is marked. -/
theorem Named.mark {l : LaneId} {s : State} (sound : s.stacksSound) {p : PlaceId} (filling : (s.place p).state = .filling)
    (lane : (s.place p).lane = some l) : Named l s (s.markInbound p) (.place p) := by
  obtain ⟨outfeed, queue, coherent, marked⟩ := sound
  have place (q : PlaceId) : (s.markInbound p).place q = if q = p then { s.place p with inbound := true } else s.place q :=
    State.modPlace_place s p q fun pl => { pl with inbound := true }
  have states (q : PlaceId) : ((s.markInbound p).place q).state = (s.place q).state := by
    rw [place]; split
    · next e => rw [e]
    · rfl
  have lanes (q : PlaceId) : ((s.markInbound p).place q).lane = (s.place q).lane := by
    rw [place]; split
    · next e => rw [e]
    · rfl
  refine ⟨⟨outfeed, ?_, ?_, fun q h => ?_⟩, fun q => ?_, fun q _ => lanes q, fun q h => ?_⟩
  · unfold State.queueHoldsFull at queue ⊢
    have discharge : (s.markInbound p).discharge = s.discharge := rfl
    simpa only [states, discharge] using queue
  · exact PlacesStep.placesCoherent_modPlace coherent (fun h => absurd (filling.symm.trans h) (by decide)) fun _ => ⟨filling, rfl⟩
  · rw [states]
    rw [place] at h
    split at h
    · next e => rw [e]; exact filling
    · exact marked q h
  · rw [place]
    split
    · next e => simp [e]
    · next e => simp [Ne.symm e]
  · injection h with same
    rw [lanes, ← same, lane]

/-- The record of a place opened for the lane (R100). -/
def State.newStack (s : State) (l : LaneId) (customer : Word) (article target : Nat) : Place :=
  { Place.reset with
    state := .filling, lane := some l, customer := customer, article := article, target := target, serial := s.stackSerial }

/-- A FREE place is opened for a lane with no FILLING place, and marked (R100). -/
theorem Named.opened {l : LaneId} {s : State} (sound : s.stacksSound) {p : PlaceId} (free : (s.place p).state = .free)
    (none : ∀ q, (s.place q).state = .filling → (s.place q).lane ≠ some l) (customer : Word) (article target : Nat) :
    Named l s ((s.openPlace p l customer article target).markInbound p) (.place p) := by
  obtain ⟨outfeed, ⟨nodup, queued, discharging, blocked⟩, ⟨freeReset, oneFilling, owned⟩, marked⟩ := sound
  have own : ((s.openPlace p l customer article target).markInbound p).place p =
      { s.newStack l customer article target with inbound := true } := by
    have first : (s.openPlace p l customer article target).place p = s.newStack l customer article target :=
      State.modPlace_place_same s p fun _ => s.newStack l customer article target
    have second := State.modPlace_place_same (s.openPlace p l customer article target) p fun pl => { pl with inbound := true }
    rw [first] at second
    exact second
  have other (q : PlaceId) (h : q ≠ p) : ((s.openPlace p l customer article target).markInbound p).place q = s.place q :=
    (State.modPlace_place_other (s.openPlace p l customer article target) (fun pl => { pl with inbound := true }) h).trans
      (State.modPlace_place_other s (fun _ => s.newStack l customer article target) h)
  have discharge : ((s.openPlace p l customer article target).markInbound p).discharge = s.discharge := rfl
  have notMarked : (s.place p).inbound ≠ true := fun h => absurd ((marked p h).symm.trans free) (by decide)
  generalize (s.openPlace p l customer article target).markInbound p = t at own other discharge
  have states (q : PlaceId) (st : PlaceState) (h : st ≠ .filling ∧ st ≠ .free) : (t.place q).state = st ↔ (s.place q).state = st := by
    by_cases e : q = p
    · rw [e, own, free]
      exact ⟨fun k => absurd k.symm h.1, fun k => absurd k.symm h.2⟩
    · rw [other q e]
  refine ⟨⟨by rw [State.outfeedCoherent, discharge]; exact outfeed, ?_, ⟨fun q h => ?_, fun q k hq hk lanes => ?_, fun q h => ?_⟩, fun q h => ?_⟩,
    fun q => ?_, fun q h => ?_, fun q h => ?_⟩
  · unfold State.queueHoldsFull
    rw [discharge]
    refine ⟨nodup, fun q => ?_, fun q => ?_, fun q => ?_⟩
    · rw [states q .full (by decide)]
      exact queued q
    · rw [states q .discharging (by decide)]
      exact discharging q
    · rw [states q .blocked (by decide)]
      exact blocked q
  · by_cases e : q = p
    · rw [e, own] at h
      cases h
    · rw [other q e] at h ⊢
      exact freeReset q h
  · by_cases e : q = p <;> by_cases e' : k = p
    · exact e.trans e'.symm
    · rw [e, own, other k e'] at lanes
      rw [other k e'] at hk
      exact absurd lanes.symm (none k hk)
    · rw [e', own, other q e] at lanes
      rw [other q e] at hq
      exact absurd lanes (none q hq)
    · rw [other q e] at hq lanes
      rw [other k e'] at hk lanes
      exact oneFilling q k hq hk lanes
  · by_cases e : q = p
    · rw [e, own]
      rfl
    · rw [other q e] at h ⊢
      exact owned q h
  · by_cases e : q = p
    · rw [e, own]
      rfl
    · rw [other q e] at h ⊢
      exact marked q h
  · by_cases e : q = p
    · rw [e, own]
      simp
    · rw [other q e]
      simp [Ne.symm e]
  · by_cases e : q = p
    · exact absurd (e ▸ h) notMarked
    · rw [other q e]
  · injection h with same
    rw [← same, own]
    rfl

/-- A place closed short with no mark is no longer FILLING (R103). -/
theorem State.shortClose_not_filling {s : State} {p : PlaceId} (filling : (s.place p).state = .filling) (unmarked : (s.place p).inbound = false) :
    ((s.shortClose p).place p).state ≠ .filling := by
  intro still
  rcases Nat.eq_zero_or_pos (s.place p).count with empty | counted
  · rw [State.shortClose_of_empty filling unmarked empty] at still
    have before := ((Quiet.unstarve (s.modPlace p fun _ => Place.reset) p).places.filling p still).1
    rw [State.modPlace_place_same] at before
    cases before
  · rw [State.shortClose_of_counted filling unmarked counted, State.makeFull_eq] at still
    have before := (((Quiet.tellStackClosed (s.joinQueue p true) p).trans (Quiet.tryDischarge _)).places.filling p still).1
    have joined : (s.joinQueue p true).place p = { s.place p with state := .full, short := true, closePending := false } :=
      State.modPlace_place_same s p fun pl => { pl with state := .full, short := true, closePending := false }
    rw [joined] at before
    cases before

/-- After the lane's FILLING place of another identity is closed, a lane with none of the identity has none (R99, R100). -/
theorem State.closeOtherIdentity_none {s : State} {l : LaneId} (sound : s.stacksSound) (unmarked : s.unmarked l) {customer : Word}
    {article : Nat} (none : (s.closeOtherIdentity l customer article).fillingOf l customer article = none) (p : PlaceId)
    (filling : ((s.closeOtherIdentity l customer article).place p).state = .filling) :
    ((s.closeOtherIdentity l customer article).place p).lane ≠ some l := by
  intro lane
  obtain ⟨before, laneBefore⟩ := (Quiet.closeOtherIdentity s l customer article).places.filling p filling
  rw [laneBefore] at lane
  have listed (q : PlaceId) : q ∈ allPlaces := (show ∀ q : PlaceId, q ∈ allPlaces by decide) q
  cases found : s.fillingPlace l with
  | none =>
    have := List.find?_eq_none.mp found p (listed p)
    simp [before, lane] at this
  | some q =>
    obtain ⟨fillingQ, laneQ⟩ := of_decide_eq_true (List.find?_some (p := fun p => decide ((s.place p).state = .filling ∧ (s.place p).lane = some l))
      found)
    have same : p = q := sound.2.2.1.2.1 p q before fillingQ (lane.trans laneQ.symm)
    subst same
    by_cases identity : (s.place p).hasIdentity customer article = true
    · have kept : s.closeOtherIdentity l customer article = s := by
        unfold State.closeOtherIdentity
        rw [found]
        exact if_pos identity
      rw [kept] at none
      have := List.find?_eq_none.mp none p (listed p)
      simp [before, lane, identity] at this
    · have closed : s.closeOtherIdentity l customer article = s.shortClose p := by
        unfold State.closeOtherIdentity
        rw [found]
        exact if_neg identity
      have notMarked : (s.place p).inbound = false := by
        cases marked : (s.place p).inbound with
        | false => rfl
        | true => exact absurd lane (unmarked p marked)
      rw [closed] at filling
      exact State.shortClose_not_filling before notMarked filling

theorem Named.destinationFor {l : LaneId} {s : State} (sound : s.stacksSound) (unmarked : s.unmarked l) (r : PieceRecord) :
    Named l s (s.destinationFor l r).1 (s.destinationFor l r).2 := by
  have kept : Named l s s .overflow := overflow sound (Marks.ofSame rfl rfl)
  unfold State.destinationFor
  split
  · split
    · exact overflow sound (Quiet.raise s _ _).marks
    · split
      · exact kept
      · next t _ =>
        generalize s.entryCustomer t.entry = customer
        generalize s.entryArticle t.entry = article
        generalize s.heldTarget l t.entry = target
        have closed := (Quiet.closeOtherIdentity s l customer article).marks
        have none := fun h => State.closeOtherIdentity_none (customer := customer) (article := article) sound unmarked h
        generalize s.closeOtherIdentity l customer article = v at closed none
        have soundV := closed.sound sound
        refine closed.named sound ?_
        unfold State.placeFor
        split
        · next p found =>
          have test := List.find?_some found
          rw [Bool.and_eq_true] at test
          obtain ⟨filling, lane⟩ := of_decide_eq_true test.1
          exact mark soundV filling lane
        · next noneOf =>
          split
          · next p free =>
            have isFree : (v.place p).state = .free :=
              of_decide_eq_true (List.find?_some (p := fun p => decide ((v.place p).state = .free)) free)
            exact opened soundV isFree (none noneOf) _ _ _
          · have starved : Marks (fun _ => False) v (v.starve l) :=
              (Quiet.raise v .overflow (some l)).marks.after (Marks.ofSame rfl rfl)
            exact overflow soundV starved
  · exact kept

/-! ## A matched arrival -/

/-- A matched arrival brings its record to AT_EXIT, and the mark of the place it is given. -/
theorem arrive_inbound {l : LaneId} {s : State} (sound : s.stacksSound) (exits : s.exitsCoherent) (inbound : s.inboundCoherent)
    {r : PieceRecord} (p : Pos) (clear : (s.lane l).exit.level = .clear) (candidate : s.candidate l = some r) :
    ((s.modExit l ExitUnit.accept).matchArrival l r p).stacksSound ∧
    ((s.modExit l ExitUnit.accept).matchArrival l r p).inboundCoherent := by
  have absent := (exits l).2.2.2.1 clear
  have none := (exits l).none_atExit fun n h => by rw [absent] at h; cases h
  obtain ⟨listed, _, _⟩ := State.candidate_spec candidate
  have unmarked : s.unmarked l := fun q marked lane => by
    obtain ⟨_, m, laneM, x, hx, atExit, _⟩ := inbound.1 q marked
    rw [lane] at laneM
    injection laneM with same
    exact none x (same ▸ hx) atExit
  have prepared : Marks (fun _ => False) s ((s.modExit l ExitUnit.accept).markMatched l r.number) := Marks.ofSame rfl rfl
  have recordsBefore (m : LaneId) : (((s.modExit l ExitUnit.accept).markMatched l r.number).lane m).inFlight =
      if m = l then modNumber r.number (fun x => { x with phase := .atExit }) (s.lane l).inFlight else (s.lane m).inFlight := by
    unfold State.markMatched State.modRecord
    rw [Reroutes.modExit_inFlight, State.modLane_lane]
    split
    · exact congrArg (modNumber r.number _) (Reroutes.modExit_inFlight s l l _)
    · exact Reroutes.modExit_inFlight s l m _
  unfold State.matchArrival
  dsimp only
  generalize (s.modExit l ExitUnit.accept).markMatched l r.number = u at prepared recordsBefore
  have named := prepared.named sound (Named.destinationFor (prepared.sound sound) (prepared.unmarked sound unmarked) r)
  have asked := BooksAll.destinationFor u l r
  generalize u.destinationFor l r = d at named asked
  generalize p + posOf r.lengthOf + posOf ((s.modExit l ExitUnit.accept).exitWindow l) + 1 = target
  have places (q : PlaceId) : (d.1.setDestination l r.number d.2 target).place q = d.1.place q := rfl
  have soundAfter : (d.1.setDestination l r.number d.2 target).stacksSound := by
    have set : Marks (fun _ => False) d.1 (d.1.setDestination l r.number d.2 target) := Marks.ofSame rfl rfl
    exact set.sound named.sound
  have records (m : LaneId) : ((d.1.setDestination l r.number d.2 target).lane m).inFlight =
      if m = l then modNumber r.number (fun x => { x with phase := .atExit, destination := some d.2 }) (s.lane l).inFlight
      else (s.lane m).inFlight := by
    have before := recordsBefore m
    rw [← (asked.lanes m).kept.2.1] at before
    unfold State.setDestination State.modRecord
    rw [Reroutes.modExit_inFlight, State.modLane_lane]
    split
    · next e =>
      subst e
      rw [if_pos rfl] at before
      dsimp only
      rw [before]
      unfold modNumber
      rw [List.map_map]
      refine List.map_congr_left fun x _ => ?_
      by_cases h : x.number = r.number <;> simp [h]
    · next e =>
      rw [if_neg e] at before
      exact before
  refine ⟨soundAfter, fun q marked => ?_, fun m x hx atExit q goes => ?_⟩
  · rw [places] at marked ⊢
    refine ⟨soundAfter.2.2.2 q marked, ?_⟩
    rcases (named.inbound q).mp marked with before | named'
    · obtain ⟨_, m, laneM, x, hx, atExit, goes⟩ := inbound.1 q before
      refine ⟨m, (named.lane q before).trans laneM, x, ?_, atExit, goes⟩
      rw [records, if_neg fun e : m = l => none x (e ▸ hx) atExit]
      exact hx
    · have changed := modNumber_mem (n := r.number) (f := fun x => { x with phase := .atExit, destination := some d.2 }) listed
      rw [if_pos rfl] at changed
      refine ⟨l, named.own q named', { r with phase := .atExit, destination := some d.2 }, ?_, rfl, congrArg some named'⟩
      rw [records, if_pos rfl]
      exact changed
  · rw [places]
    have marked : (d.1.place q).inbound = true ∧ (d.1.place q).lane = some m := by
      rw [records] at hx
      split at hx
      · next e =>
        obtain ⟨y, hy, ⟨_, rfl⟩ | ⟨_, rfl⟩⟩ := mem_modNumber hx
        · injection goes with same
          exact ⟨(named.inbound q).mpr (Or.inr same), e ▸ named.own q same⟩
        · exact absurd atExit (none x hy)
      · obtain ⟨_, stands, lane⟩ := inbound.2 m x hx atExit q goes
        exact ⟨(named.inbound q).mpr (Or.inl stands), (named.lane q stands).trans lane⟩
    exact ⟨named.sound.2.2.2 q marked.1, marked.1, marked.2⟩

/-! ## Resets -/

theorem stacksSound_reset {s : State} (places : ∀ p, s.place p = Place.reset) {level : Level} (discharge : s.discharge = Discharge.reset level) :
    s.stacksSound := by
  have outfeed : s.outfeedCoherent := by
    rw [State.outfeedCoherent, discharge]
    exact Steady.reset_outfeed level
  have state (p : PlaceId) : (s.place p).state = .free := by rw [places p]; rfl
  refine ⟨outfeed, ?_, ⟨fun p _ => places p, fun p q h => ?_, fun p h => ?_⟩, fun p h => ?_⟩
  · unfold State.queueHoldsFull
    rw [discharge]
    refine ⟨List.nodup_nil, fun p => ?_, fun p => ?_, fun p => ?_⟩ <;> rw [state p] <;> simp [Discharge.reset]
  · rw [state p] at h
    cases h
  · rw [state p] at h
    cases h
  · rw [places p] at h
    cases h

theorem inboundCoherent_reset {s : State} (places : ∀ p, s.place p = Place.reset) (records : ∀ l, (s.lane l).inFlight = []) :
    s.inboundCoherent := by
  refine ⟨fun p h => ?_, fun l r hr => ?_⟩
  · rw [places p] at h
    cases h
  · rw [records l] at hr
    cases hr

theorem State.toReset_place (s : State) (p : PlaceId) : s.toReset.place p = Place.reset := by
  have replicated : (Vector.replicate 8 Place.reset)[p] = Place.reset := by simp
  exact replicated

/-! ## The moves -/

/-- Every move but an arrival and a reset clears the marks of the records that it takes from the exits. -/
theorem Reroutes.ofLaneMove {l : LaneId} {s t : State} (h : LaneMove l s t) (whole : s.poolWhole) (exits : s.exitsCoherent)
    (inbound : s.inboundCoherent) : Reroutes s t ∨ ∃ r p, t = (s.modExit l ExitUnit.accept).matchArrival l r p ∧
      (s.lane l).exit.level = .clear ∧ s.candidate l = some r := by
  cases h with
  | inert h => exact Or.inl (ofSame h.marks fun m => (h.lanes m).kept.2.1)
  | retire n o away => exact Or.inl (retire whole inbound n o (away whole exits))
  | loseToken q front rest =>
    have removed : Marks (fun _ => False) s (s.modLane l fun L => { L with tokens := front ++ rest }) := Marks.ofSame rfl rfl
    refine Or.inl (ofSame (removed.after (Marks.loseToken _ l q.token)) fun m => ?_)
    rw [((BooksAll.loseToken _ l q.token).lanes m).kept.2.1, State.modLane_lane]
    split
    · next e => rw [e]
    · rfl
  | purge f => exact Or.inl (purge inbound l f)
  | append n lead => exact Or.inl (append n lead)
  | record n f kept =>
    refine Or.inl (ofModLane s l _ fun p => bound_modNumber (fun r hr same p => ?_) p)
    obtain ⟨_, _, away, atExit⟩ := kept whole r hr same
    unfold PieceRecord.bound
    by_cases h : r.phase = .atExit
    · rw [(atExit h).1, (atExit h).2.1, h]
    · simp [h, away h]
  | double r =>
    unfold State.takeDouble
    split
    · have changed := ofModLane s l (fun L => { L with
        inFlight := modNumber r.number (fun x => { x with tokens := x.tokens ++ (s.headToken l).toList }) L.inFlight })
        fun p => bound_modNumber (by intro _ _ _ _; exact Iff.rfl) p
      obtain ⟨out, marks, routed⟩ := changed
      refine Or.inl ⟨out, marks.andThen (Marks.ofSame rfl rfl), fun m p => ?_⟩
      rw [← routed m p]
      unfold State.routed State.popToken
      rw [State.modLane_lane]
      split
      · next e => rw [e]; exact Iff.rfl
      · exact Iff.rfl
    · exact Or.inl (ofSame (Marks.ofSame rfl rfl) fun _ => rfl)
  | sched f => exact Or.inl (ofModLane s l _ fun _ => Iff.rfl)
  | windows f => exact Or.inl (ofModLane s l _ fun _ => Iff.rfl)
  | exitLevel f => exact Or.inl (ofModLane s l _ fun _ => Iff.rfl)
  | arrive r p covers clear passes candidate => exact Or.inr ⟨r, p, rfl, clear, candidate⟩
  | phantom p =>
    have accepted : Marks (fun _ => False) s ((s.modExit l ExitUnit.accept).addLaneCounter l phantomIndex 1) := Marks.ofSame rfl rfl
    have raised := Quiet.raise ((s.modExit l ExitUnit.accept).addLaneCounter l phantomIndex 1) .phantom (some l)
    refine Or.inl (ofSame (accepted.after (raised.marks.after (Marks.ofSame rfl rfl))) fun m => ?_)
    unfold State.phantomArrival
    rw [modExit_inFlight, (raised.booked.lanes m).kept.2.1]
    exact modExit_inFlight s l m _
  | depart => exact Or.inl (depart whole exits inbound l)
  | reroute r x found atExit same => exact Or.inl (reroute whole exits inbound found atExit same.1 same.2)

theorem Reroutes.coherent {s t : State} (h : Reroutes s t) (sound : s.stacksSound) (inbound : s.inboundCoherent) :
    t.stacksSound ∧ t.inboundCoherent := by
  obtain ⟨out, marks, routed⟩ := h
  exact ⟨marks.sound sound, inbound.of_marks sound marks routed⟩

/-- A token accepted changes no record. -/
theorem State.acceptToken_inFlight (s : State) (a : Announcement) (e : EntryId) (m : LaneId) :
    ((s.acceptToken a e).lane m).inFlight = (s.lane m).inFlight := by
  have assigned := (s.assign_books a.lane m e).kept.2.1
  unfold State.acceptToken
  generalize s.tokenFor a e = t
  generalize s.assign a.lane e = v at assigned
  rw [State.wakeSuspended_lane, ← assigned]
  unfold State.queueToken
  split
  · next h => rw [h, State.modLane_lane_same]
  · next h => rw [State.modLane_lane_other _ _ h]

theorem places_move {s t : State} (h : Move s t) (whole : s.poolWhole) (sound : s.stacksSound) (exits : s.exitsCoherent)
    (inbound : s.inboundCoherent) : t.stacksSound ∧ t.inboundCoherent := by
  cases h with
  | lane l h =>
    rcases Reroutes.ofLaneMove h whole exits inbound with reroutes | ⟨r, p, rfl, clear, candidate⟩
    · exact reroutes.coherent sound inbound
    · exact arrive_inbound sound exits inbound p clear candidate
  | inert h => exact (Reroutes.ofSame h.marks fun m => (h.lanes m).kept.2.1).coherent sound inbound
  | accept a e =>
    exact (Reroutes.ofSame (Marks.acceptToken s a e) (s.acceptToken_inFlight a e)).coherent sound inbound
  | adopt a =>
    have woken (t : State) : Marks (fun _ => False) t (t.wakeDry a.lane) := by
      unfold State.wakeDry
      split <;> exact Marks.ofSame rfl rfl
    refine (Reroutes.ofSame ((Marks.claim s a.lane).after ((woken _).after (Marks.acceptToken _ a _))) fun m => ?_).coherent sound inbound
    rw [State.acceptToken_inFlight, ((State.wakeDry_books _ _ m)).kept.2.1, (s.claim_books a.lane m).kept.2.1]
  | writeOff l t =>
    exact (Reroutes.ofBooks ((Marks.assign s l _).after (Marks.loseToken _ l t))
      fun m => (s.assign_books l m _).trans ((BooksAll.loseToken _ l t).lanes m)).coherent sound inbound
  | claim l => exact (Reroutes.ofBooks (Marks.claim s l) (s.claim_books l)).coherent sound inbound
  | turn l f turns =>
    exact (Reroutes.ofModLane s l f fun p => by rw [turns.kept.2.1]).coherent sound inbound
  | abort l => exact (Reroutes.ofBooks (Loose.abortLane s l).marks (Loose.abortLane s l).booked.lanes).coherent sound inbound
  | idle l =>
    have marks : Marks (fun _ => False) s (s.enterIdle l) := Marks.ofSame rfl rfl
    refine (Reroutes.ofSame marks fun m => ?_).coherent sound inbound
    unfold State.enterIdle State.holdEdges
    rw [State.modLane_lane]
    split
    · next e => rw [State.modLane_lane_same, e]
    · next e => rw [State.modLane_lane_other _ _ e]
  | clearFault l => exact (Reroutes.ofModLane s l _ fun p => Iff.rfl).coherent sound inbound
  | wrote p w => exact (Reroutes.ofSame (Marks.ofSame rfl rfl) fun _ => rfl).coherent sound inbound
  | warmReset =>
    exact ⟨stacksSound_reset (State.toReset_place _) rfl,
      inboundCoherent_reset (State.toReset_place _) fun l => by rw [State.warmReset_lane]; rfl⟩
  | powerOn =>
    exact ⟨stacksSound_reset (State.toReset_place s) rfl,
      inboundCoherent_reset (State.toReset_place s) fun l => by rw [State.powerOnReset_lane]; rfl⟩

/-- Settles O12: marks, arrivals and routes stand and fall with the records AT_EXIT, and closing, freeing and discharging keep the places
sound. -/
theorem stacksCoherentKept : Obligations.StacksCoherentKept := by
  refine kept_of_moves fun s t move ⟨⟨whole, outfeed, queue, coherent, exits, inbound⟩, faults, rests⟩ => ?_
  have sound : s.stacksSound := ⟨outfeed, queue, coherent, fun p marked => (inbound.1 p marked).1⟩
  obtain ⟨⟨outfeed', queue', coherent', _⟩, inbound'⟩ := places_move move whole sound exits inbound
  exact ⟨⟨poolWhole_move move whole, outfeed', queue', coherent', exitsCoherent_move move whole exits rests, inbound'⟩,
    faultsCoherent_move move faults, restCoherent_move move faults rests⟩

end Sys2Proof.Machine
end


section
/-!
# The resets (R10, R26, R109, R173, R191)

The state after reset has every condition that the steps keep; what POWER_ON leaves of each block; what the end of a reset begins.
-/

namespace Sys2Proof.Machine

/-! ## The state after reset -/

section AtReset

theorem State.reset_lane (l : LaneId) : State.reset.lane l = Lane.reset .clear 0 .clear := by
  fin_cases l <;> rfl

theorem State.reset_place (p : PlaceId) : State.reset.place p = Place.reset := by
  fin_cases p <;> rfl

/-- Page 4 is all zero at power-on, so no entry has a status. -/
theorem State.reset_entryStatus (e : EntryId) : State.reset.entryStatus e = none := by
  have word : State.reset.entryWord e 0 = 0#16 := by
    show powerOnWord (4096 + (12 * e.val + 0)) = 0#16
    rw [powerOnWord, if_neg (by omega), if_neg (by omega)]
  rw [State.entryStatus, word]
  decide

theorem State.reset_faultsCoherent : State.reset.faultsCoherent := by
  intro l
  rw [State.reset_lane]
  exact ⟨⟨by decide, by decide⟩, fun faulted => by cases faulted⟩

theorem State.reset_outputsDriven : State.reset.outputsDriven := by
  intro l
  rw [State.reset_lane]
  have released : ∀ f : StationId, ¬ (FoldLane.reset.folds[f] = true) := by decide
  exact ⟨fun f asserted => absurd asserted (released f), fun asserted => (by cases asserted), fun w listed => (by cases listed)⟩

theorem State.reset_exitsCoherent : State.reset.exitsCoherent := by
  intro l
  rw [State.reset_lane]
  exact ⟨fun n matched => (by cases matched), fun r listed => (by cases listed), fun _ => rfl, fun _ => rfl, fun _ => rfl⟩

theorem State.reset_stacksCoherent : State.reset.stacksCoherent := by
  obtain ⟨outfeed, queue, places, _⟩ := stacksSound_reset State.reset_place (rfl : State.reset.discharge = Discharge.reset .clear)
  have inbound : State.reset.inboundCoherent :=
    inboundCoherent_reset State.reset_place fun l => by rw [State.reset_lane]; rfl
  have whole : State.reset.poolWhole := by
    have numbers : State.reset.allNumbers = freeAtPowerOn := by
      have none (l : LaneId) : (State.reset.lane l).numbers = [] := by rw [State.reset_lane]; rfl
      simp only [State.allNumbers, none, allLanes]
      rfl
    rw [State.poolWhole, numbers]
  exact ⟨whole, outfeed, queue, places, State.reset_exitsCoherent, inbound⟩

theorem State.reset_lotRingBalances : State.reset.lotRingBalances := by
  have empty (l : LaneId) : (State.reset.lane l).openList = [] := by rw [State.reset_lane]; rfl
  have noEntries (l : LaneId) : (State.reset.lane l).openEntries = [] := by rw [Lane.openEntries, empty]; rfl
  refine ⟨by simp [noEntries, allLanes], fun e claimed => ?_, fun l e listed => ?_, fun l e out => ?_, fun l it listed => ?_⟩
  · rw [State.reset_entryStatus] at claimed
    cases claimed
  · rw [noEntries] at listed
    cases listed
  · rw [State.reset_lane] at out
    exact absurd rfl out
  · rw [empty] at listed
    cases listed

end AtReset

/-- Settles O3: each condition on the fields of the state after reset. -/
theorem resetIsCoherent : Obligations.ResetIsCoherent := by
  refine ⟨?lines, State.reset_mem_wf, ?ring, ?lanes, State.reset_faultsCoherent, ?rest, State.reset_outputsDriven, ?motion,
    State.reset_stacksCoherent, State.reset_lotRingBalances⟩
  case lines =>
    refine ⟨fun l => ?_, rfl, rfl, rfl, rfl⟩
    rw [State.reset_lane]
    exact ⟨rfl, rfl⟩
  case ring => exact ⟨by decide, by decide, by decide, by decide⟩
  case lanes =>
    intro l
    rw [State.reset_lane]
    exact ⟨by decide, by decide, by decide⟩
  case rest =>
    intro l _
    rw [State.reset_lane]
    exact ⟨rfl, rfl⟩
  case motion => exact ⟨rfl, by decide, by decide⟩

/-! ## What a reset leaves of the blocks -/

/-- Every block but table memory, the free list and the stack serial counter stands at its reset values, with a reset held and the input
pins of `s` (R11, R27, R46, R85, R109, R110, R122, R144, R162, R175, R191). -/
structure BlocksReset (s t : State) : Prop where
  track : t.track = Track.reset
  lanes : ∀ l, t.lane l = (s.lane l).toReset
  places : ∀ p, t.place p = Place.reset
  discharge : t.discharge = Discharge.reset s.discharge.rawLevel
  ring : t.ring = Ring.reset s.ring.address s.ring.straps s.ring.readyIn
  tables : t.tables = Tables.reset
  held : t.resetHeld = true
  freeCount : t.freeCount = s.freeCount
  pending : t.pending = s.pending

namespace BlocksReset

variable {s t : State}

theorem ofToReset (s : State) : BlocksReset s s.toReset where
  track := rfl
  lanes := s.toReset_lane
  places := s.toReset_place
  discharge := rfl
  ring := rfl
  tables := rfl
  held := rfl
  freeCount := rfl
  pending := rfl

/-- The lines of the reset values stand at their rules' values, so that their settling changes nothing. -/
theorem settle (h : BlocksReset s t) : BlocksReset s t.settle where
  track := h.track
  lanes l := by rw [State.settle_lane, h.lanes l]; rfl
  places := h.places
  discharge := by rw [State.settle_discharge, h.discharge]; rfl
  ring := by
    have low : t.readyOutRule = false := by rw [State.readyOutRule, h.held]; rfl
    rw [State.settle_ring, low, h.ring]
    rfl
  tables := by
    have working (l : LaneId) : decide ((t.lane l).mode = .faulted) = false := by rw [h.lanes l]; rfl
    have low : t.alertRule = false := by
      rw [State.alertRule, h.tables, h.discharge, State.anyFaulted]
      simp [working, Tables.reset, Discharge.reset, WarningSet.isEmpty, WarningSet.empty]
    rw [State.settle_tables, low, h.tables]
    rfl
  held := h.held
  freeCount := h.freeCount
  pending := h.pending

end BlocksReset

/-- Settles O15: the reset values, which settling leaves as they are. -/
theorem powerOnValues : Obligations.PowerOnValues := by
  intro s
  have reset : BlocksReset s s.powerOnReset := { BlocksReset.ofToReset s with }
  have settled := reset.settle
  exact ⟨_, rfl, settled.track, settled.lanes, settled.places, rfl, rfl, rfl, settled.discharge, settled.ring, settled.tables,
    settled.held, settled.freeCount, settled.pending⟩

/-! ## What a warm reset writes off (R63, R46, R140) -/

/-- Table memory and the free list alone change, and of table memory the status words and the lost counts of entries alone. -/
structure WrittenOff (s t : State) : Prop where
  same : t = { s with mem := t.mem, free := t.free }
  read : ∀ a, (∀ e : EntryId, a ≠ pageBase 4 + (12 * e.val + 0) ∧ a ≠ pageBase 4 + (12 * e.val + 10)) → t.mem.read a = s.mem.read a

namespace WrittenOff

variable {s t u : State}

theorem refl (s : State) : WrittenOff s s := ⟨rfl, fun _ _ => rfl⟩

theorem trans (h : WrittenOff s t) (k : WrittenOff t u) : WrittenOff s u where
  same := by
    have first := h.same
    have second := k.same
    rw [first] at second
    exact second
  read a apart := (k.read a apart).trans (h.read a apart)

theorem foldl {α : Type} {f : State → α → State} (h : ∀ s a, WrittenOff s (f s a)) (xs : List α) (s : State) :
    WrittenOff s (xs.foldl f s) := by
  induction xs generalizing s with
  | nil => exact refl s
  | cons x xs ih => exact (h s x).trans (ih _)

theorem loseTokens (s : State) (ts : List Token) : WrittenOff s (s.loseTokens ts) :=
  foldl (f := fun (s : State) (t : Token) => s.bumpEntry t.entry Retirement.lost.entryIndex)
    (fun _ t => ⟨rfl, fun _ apart => Mem.read_write_other _ _ (apart t.entry).2⟩) ts s

theorem loseRecords (s : State) (l : LaneId) : WrittenOff s (s.loseRecords l) :=
  foldl (f := fun (s : State) (r : PieceRecord) => { s.loseTokens r.tokens with free := s.free ++ [r.number] })
    (fun s r => (loseTokens s r.tokens).trans ⟨rfl, fun _ _ => rfl⟩) _ s

theorem abortAtReset (s : State) (l : LaneId) : WrittenOff s (s.abortAtReset l) :=
  foldl (f := fun (s : State) (it : OpenItem) => s.writeBackEntry it.entry .aborted)
    (fun _ it => ⟨rfl, fun _ apart => Mem.read_write_other _ _ (apart it.entry).1⟩) _ s

theorem losses (s : State) : WrittenOff s (allLanes.foldl State.loseQueue (allLanes.foldl State.loseRecords s)) := by
  have queue (t : State) (l : LaneId) : WrittenOff t (t.loseQueue l) := loseTokens t _
  exact (foldl loseRecords allLanes s).trans (foldl queue allLanes _)

theorem writeOff (s : State) : WrittenOff s s.writeOff := by
  unfold State.writeOff
  exact (losses s).trans (foldl abortAtReset allLanes _)

theorem lanes (h : WrittenOff s t) : t.lanes = s.lanes := (congrArg State.lanes h.same).trans rfl

theorem stackSerial (h : WrittenOff s t) : t.stackSerial = s.stackSerial := (congrArg State.stackSerial h.same).trans rfl

end WrittenOff

/-- An entry written back ABORTED (R140). -/
def State.writtenBackAborted (s : State) (e : EntryId) : Prop := s.entryStatus e = some .aborted ∧ s.entryValid e = false

namespace State

variable {s : State}

theorem writtenBackAborted_writeBack (wf : s.memWf) (e f : EntryId) (h : f = e ∨ s.writtenBackAborted f) :
    (s.writeBackEntry e .aborted).writtenBackAborted f := by
  by_cases same : f = e
  · subst same
    exact ⟨entryStatus_writeBackEntry_same wf f .aborted, entryValid_writeBackEntry_same wf f .aborted⟩
  · have word : (s.writeBackEntry e .aborted).entryWord f 0 = s.entryWord f 0 :=
      entryWord_writeBackEntry_other .aborted (by decide) (Or.inl same)
    unfold writtenBackAborted entryStatus entryValid
    rw [word]
    exact h.resolve_left same

/-- The items of a list written back in order are all ABORTED in the end, with those that were so before. -/
theorem writtenBackAborted_items (items : List OpenItem) (wf : s.memWf) (f : EntryId)
    (h : (∃ it ∈ items, it.entry = f) ∨ s.writtenBackAborted f) :
    (items.foldl (fun s it => s.writeBackEntry it.entry .aborted) s).memWf ∧
      (items.foldl (fun s it => s.writeBackEntry it.entry .aborted) s).writtenBackAborted f := by
  induction items generalizing s with
  | nil =>
    obtain ⟨it, listed, _⟩ | done := h
    · cases listed
    · exact ⟨wf, done⟩
  | cons x xs ih =>
    refine ih (writeBackEntry_memWf wf x.entry .aborted) ?_
    obtain ⟨it, listed, rfl⟩ | done := h
    · rcases List.mem_cons.mp listed with rfl | later
      · exact Or.inr (writtenBackAborted_writeBack wf it.entry it.entry (Or.inl rfl))
      · exact Or.inl ⟨it, later, rfl⟩
    · exact Or.inr (writtenBackAborted_writeBack wf x.entry f (Or.inr done))

theorem writtenBackAborted_lanes (ls : List LaneId) (wf : s.memWf) (f : EntryId)
    (h : (∃ l ∈ ls, ∃ it ∈ (s.lane l).openList, it.entry = f) ∨ s.writtenBackAborted f) :
    (ls.foldl abortAtReset s).writtenBackAborted f := by
  induction ls generalizing s with
  | nil =>
    obtain ⟨l, listed, _⟩ | done := h
    · cases listed
    · exact done
  | cons x xs ih =>
    have kept : (s.abortAtReset x).memWf := (Steady.abortAtReset s x).wf wf
    have lanes (l : LaneId) : (s.abortAtReset x).lane l = s.lane l := congrArg (fun v : Vector Lane 4 => v[l]) (abortAtReset_lanes s x)
    refine ih kept ?_
    obtain ⟨l, listed, it, item, named⟩ | done := h
    · rcases List.mem_cons.mp listed with rfl | later
      · exact Or.inr (writtenBackAborted_items _ wf f (Or.inl ⟨it, item, named⟩)).2
      · exact Or.inl ⟨l, later, it, by rw [lanes l]; exact item, named⟩
    · exact Or.inr (writtenBackAborted_items _ wf f (Or.inr done)).2

/-- Every entry on an open-entry list is written back by a warm reset (R140). -/
theorem writtenBackAborted_warmReset (wf : s.memWf) {l : LaneId} {it : OpenItem} (listed : it ∈ (s.lane l).openList) :
    s.warmReset.writtenBackAborted it.entry := by
  have word (t : State) : t.clearCounterPage.toReset.entryWord it.entry 0 = t.entryWord it.entry 0 := by
    refine (Mem.read_clearPage t.mem 7 _).trans (if_neg ?_)
    unfold pageBase
    omega
  have queue (t : State) (l : LaneId) : Steady t (t.loseQueue l) := Steady.loseTokens t _
  have kept := (Steady.foldl queue allLanes _).wf ((Steady.foldl Steady.loseRecords allLanes s).wf wf)
  have aborts (u : State) (wf : u.memWf) (lanes : u.lanes = s.lanes) : (allLanes.foldl abortAtReset u).writtenBackAborted it.entry := by
    refine writtenBackAborted_lanes allLanes wf it.entry (Or.inl ⟨l, mem_allLanes l, it, ?_, rfl⟩)
    exact congrArg (fun v : Vector Lane 4 => v[l].openList) lanes ▸ listed
  have wrote : s.writeOff.writtenBackAborted it.entry := by
    unfold writeOff
    exact aborts _ kept (WrittenOff.losses s).lanes
  unfold writtenBackAborted entryStatus entryValid at wrote ⊢
  unfold warmReset
  rw [word]
  exact wrote

end State

theorem BlocksReset.warmReset (s : State) : BlocksReset s s.warmReset := by
  have reset (t : State) (off : WrittenOff s t) : BlocksReset s t.clearCounterPage.toReset := by
    have same : t.clearCounterPage = { s with mem := t.clearCounterPage.mem, free := t.free } := by
      have cleared : t.clearCounterPage = { t with mem := t.clearCounterPage.mem } := rfl
      rw [cleared, off.same]
    have blocks := BlocksReset.ofToReset t.clearCounterPage
    rw [same] at blocks ⊢
    exact { blocks with }
  unfold State.warmReset
  exact reset _ (WrittenOff.writeOff s)

theorem State.warmReset_mem (s : State) : s.warmReset.mem = s.writeOff.mem.clearPage 7 := by
  have reset (t : State) : t.clearCounterPage.toReset.mem = t.mem.clearPage 7 := rfl
  unfold State.warmReset
  exact reset _

theorem State.warmReset_stackSerial (s : State) : s.warmReset.stackSerial = s.stackSerial := by
  have reset (t : State) : t.clearCounterPage.toReset.stackSerial = t.stackSerial := rfl
  unfold State.warmReset
  rw [reset, (WrittenOff.writeOff s).stackSerial]

theorem exec_warmReset (s : State) : exec .warmReset s = .next s.warmReset.settle := rfl

/-- Settles O16: what is written off, the cleared page of counters, and the reset values; then the entries written back. -/
theorem warmResetValues : Obligations.WarmResetValues := by
  refine ⟨fun s => ?values, fun s wf => ?aborted⟩
  case aborted =>
    refine ⟨s.warmReset.settle, exec_warmReset s, fun l it listed => ?_⟩
    have settled (t : State) (e : EntryId) (done : t.writtenBackAborted e) : t.settle.writtenBackAborted e := done
    exact settled _ _ (State.writtenBackAborted_warmReset wf listed)
  case values =>
    have settled := (BlocksReset.warmReset s).settle
    have off := WrittenOff.writeOff s
    have cleared (a : Nat) : s.warmReset.mem.read a = if pageBase 7 ≤ a ∧ a < pageBase 8 then powerOnWord a else s.writeOff.mem.read a := by
      rw [State.warmReset_mem]
      exact Mem.read_clearPage s.writeOff.mem 7 a
    have outside {a : Nat} (below : a < 7168) : s.warmReset.mem.read a = s.writeOff.mem.read a :=
      (cleared a).trans (if_neg (by unfold pageBase; omega))
    have word (t : State) (page offset : Nat) : t.settle.word page offset = t.mem.read (pageBase page + offset) := rfl
    have entry (t : State) (e : EntryId) (k : Nat) : t.settle.entryWord e k = t.mem.read (pageBase 4 + (12 * e.val + k)) := rfl
    have serial := (State.settle_stackSerial s.warmReset).trans (State.warmReset_stackSerial s)
    have free := (State.settle_free s.warmReset).trans (State.warmReset_free s)
    refine ⟨s.warmReset.settle, exec_warmReset s, settled.track, settled.lanes, settled.places,
      serial, settled.discharge, settled.ring, settled.tables, settled.held, settled.freeCount, settled.pending,
      free, ?counters, ?pages, ?entries, ?spare⟩
    case counters =>
      intro offset inPage
      rw [word]
      refine ((cleared (pageBase 7 + offset)).trans (if_pos (by unfold pageBase; omega))).trans ?_
      rw [powerOnWord, if_neg (by unfold pageBase; omega), if_neg (by unfold pageBase; omega)]
      rfl
    case pages =>
      intro page listed offset inPage
      have range : page ≤ 3 ∨ page = 5 := by fin_cases listed <;> simp
      rw [word]
      refine (outside (a := pageBase page + offset) (by unfold pageBase; omega)).trans (off.read _ fun e => ?_)
      unfold pageBase
      omega
    case entries =>
      intro e k inEntry notStatus notLost
      rw [entry]
      refine (outside (a := pageBase 4 + (12 * e.val + k)) (by unfold pageBase; omega)).trans (off.read _ fun f => ?_)
      unfold pageBase
      omega
    case spare =>
      intro offset low high
      rw [word]
      refine (outside (a := pageBase 4 + offset) (by unfold pageBase; omega)).trans (off.read _ fun f => ?_)
      unfold pageBase
      omega

/-! ## The end of a reset -/

/-- Settles O17: the straps read, and each eye compared with its accepted level. -/
theorem resetEndReadsStraps : Obligations.ResetEndReadsStraps := by
  intro s straps held room
  have ready : (s.endReset straps).readyOutRule = true := by
    have count : (s.endReset straps).ring.forwardCount = s.ring.forwardCount := rfl
    rw [State.readyOutRule, count]
    exact decide_eq_true room
  have lane (l : LaneId) : (s.endReset straps).lane l = (s.lane l).eyesAtResetEnd s.newChange := State.mapLanes_lane s _ l
  refine ⟨_, exec_of_due (c := .resetEnd straps) held, ?ring, rfl, rfl, rfl, rfl, rfl, rfl, rfl, fun l => ?eyes⟩
  case ring =>
    show ({ (s.endReset straps).ring with readyOut := (s.endReset straps).readyOutRule } : Ring) = _
    rw [ready]
    rfl
  case eyes =>
    have settled : (s.after (.resetEnd straps)).settle.lane l = ((s.lane l).eyesAtResetEnd s.newChange).settle := by
      rw [State.settle_lane]
      exact congrArg Lane.settle (lane l)
    rw [settled]
    refine ⟨?_, ?_, rfl⟩
    · show (if _ then _ else _ : EntrySensor).pendingChange = _
      split <;> rfl
    · show (if _ then _ else _ : ExitUnit).pendingChange = _
      split <;> rfl

end Sys2Proof.Machine
end


section
/-!
# Motion and the eyes' pins (R3 to R8, R12, R13, R16, R19, R87)

A sample's close and a change of the motion mode, by the track they leave; the eyes' filters, case by case of the raw level, the accepted
level and the pending change.
-/

namespace Sys2Proof.Machine

/-! ## The close of a sample (R3 to R5) -/

theorem countUp_eq_min (n : Nat) : countUp n = min (n + 1) 15 := by
  unfold countUp
  split <;> omega

theorem Track.countSample_eq (t : Track) :
    t.countSample =
      { t with
        pulseSeen := false
        movingCount := if t.pulseSeen then min (t.movingCount + 1) 15 else 0
        stillCount := if t.pulseSeen then 0 else min (t.stillCount + 1) 15 } := by
  unfold Track.countSample
  rw [countUp_eq_min, countUp_eq_min]
  split <;> rfl

/-- The computed state changes when the count of its opposite has reached its limit, and both counts then start again (R4, R5). -/
theorem Track.examine_eq (t : Track) (lock unlock : Nat) :
    t.examine lock unlock =
      { t with
        movingCount :=
          if (t.computed = .stopped ∧ lock ≤ t.movingCount) ∨ (t.computed = .running ∧ unlock ≤ t.stillCount) then 0 else t.movingCount
        stillCount :=
          if (t.computed = .stopped ∧ lock ≤ t.movingCount) ∨ (t.computed = .running ∧ unlock ≤ t.stillCount) then 0 else t.stillCount
        computed :=
          if t.computed = .stopped ∧ lock ≤ t.movingCount then .running
          else if t.computed = .running ∧ unlock ≤ t.stillCount then .stopped else t.computed } := by
  obtain ⟨position, pulseSeen, moving, still, computed, mode, presented⟩ := t
  cases computed with
  | stopped => by_cases reached : lock ≤ moving <;> simp [Track.examine, reached]
  | running => by_cases reached : unlock ≤ still <;> simp [Track.examine, reached]

/-- Settles O19: the counts, the computed state, and the presented state with its stop notice. -/
theorem sampleCloseUpdatesMotion : Obligations.SampleCloseUpdatesMotion := by
  intro s held moving still starts stops computed track
  have due : s.due .motionSampleClose = true := by
    show (!s.resetHeld) = true
    rw [held]
    rfl
  have closed : (s.track.countSample.examine s.motionLock s.motionUnlock).present = track := by
    rw [Track.examine_eq, Track.countSample_eq]
    rfl
  rw [exec_of_due due]
  show (.next (s.presentTrack (s.track.countSample.examine s.motionLock s.motionUnlock)).settle : Result) = _
  unfold State.presentTrack
  rw [closed]
  split <;> rfl

/-! ## The motion mode (R8) -/

theorem motionModeOf_code (m : MotionMode) : motionModeOf (byteOf m.code) = some m := by cases m <;> decide

theorem motionModeOf_of_above {b : Byte} (above : 2 < b.toNat) : motionModeOf b = none := by
  unfold motionModeOf
  rw [if_neg, if_neg, if_neg] <;> rintro rfl <;> revert above <;> decide

/-- Settles O20: the mode set, by the track it leaves; a value that names no mode. -/
theorem setMotionModeActs : Obligations.SetMotionModeActs := by
  intro s t h l b lines ready body
  have code : Request.ofCode (codeByte t.body) = some .setMotionMode := by
    rw [body]; exact Request.ofCode_code .setMotionMode
  have length : t.body.length = Request.bodyLength t.body .setMotionMode := by rw [body]; rfl
  have params : param (t.body.drop 3) 0 = b := by rw [body]; rfl
  refine ⟨fun m named => ?mode, fun above => ?above⟩
  case mode =>
    have act : setMotionModeAct (t.body.drop 3) s.dequeued = (s.dequeued.setMotionMode m, answer .ok []) := by
      rw [setMotionModeAct, params, named, motionModeOf_code]
    have row : exec .setMotionMode s = request .setMotionMode setMotionModeAct s := rfl
    rw [row, request_act setMotionModeAct ready code length, act]
    rfl
  case above =>
    refine request_answers (act := setMotionModeAct) lines ready code length ?_
    rw [setMotionModeAct, params, motionModeOf_of_above above]

/-! ## A lane changed twice -/

theorem State.modLane_modLane (s : State) (l : LaneId) (f g : Lane → Lane) :
    (s.modLane l f).modLane l g = s.modLane l fun L => g (f L) := by
  have lane := State.modLane_lane_same s l f
  unfold State.modLane at lane ⊢
  rw [lane]
  simp

theorem State.modEntry_modEntry (s : State) (l : LaneId) (f g : EntrySensor → EntrySensor) :
    (s.modEntry l f).modEntry l g = s.modEntry l fun e => g (f e) :=
  State.modLane_modLane s l _ _

theorem State.modEntry_congr (s : State) (l : LaneId) {f g : EntrySensor → EntrySensor} (same : f (s.lane l).entry = g (s.lane l).entry) :
    s.modEntry l f = s.modEntry l g :=
  State.modLane_congr (by rw [same])

theorem State.modExit_modExit (s : State) (l : LaneId) (f g : ExitUnit → ExitUnit) :
    (s.modExit l f).modExit l g = s.modExit l fun x => g (f x) :=
  State.modLane_modLane s l _ _

theorem State.modExit_congr (s : State) (l : LaneId) {f g : ExitUnit → ExitUnit} (same : f (s.lane l).exit = g (s.lane l).exit) :
    s.modExit l f = s.modExit l g :=
  State.modLane_congr (by rw [same])

theorem State.modEntry_entry (s : State) (l : LaneId) (f : EntrySensor → EntrySensor) :
    ((s.modEntry l f).lane l).entry = f (s.lane l).entry :=
  congrArg Lane.entry (State.modLane_lane_same s l _)

theorem State.modExit_exit (s : State) (l : LaneId) (f : ExitUnit → ExitUnit) :
    ((s.modExit l f).lane l).exit = f (s.lane l).exit :=
  congrArg Lane.exit (State.modLane_lane_same s l _)

/-! ## The pins of the entry eye (R12, R13, R16, R18) -/

section EntryPins

variable {s : State} {l : LaneId} {level : Level}

theorem exec_entryEyeChange (changed : (s.lane l).entry.rawLevel ≠ level) :
    exec (.entryEyeChange l level) s = .next (s.entryEyeChange l level).settle :=
  exec_of_due (c := .entryEyeChange l level) (decide_eq_true changed)

/-- While a reset is held the pin alone is kept (R27). -/
theorem State.entryEyeChange_held (held : s.resetHeld = true) :
    s.entryEyeChange l level = s.modEntry l fun e => { e with rawLevel := level } :=
  if_pos held

/-- A level that differs from the accepted one begins a change when none is pending. -/
theorem State.entryEyeChange_begins (free : s.resetHeld = false) (differs : level ≠ (s.lane l).entry.level)
    (idle : (s.lane l).entry.pendingChange = none) :
    s.entryEyeChange l level = s.modEntry l fun e => EntrySensor.begin { e with rawLevel := level } s.newChange := by
  have entry : ((s.setEntryRaw l level).lane l).entry = { (s.lane l).entry with rawLevel := level } := State.modEntry_entry s l _
  rw [State.entryEyeChange, if_neg (by simp [free]), State.entryRawChanged, entry, if_pos differs, if_pos (by simp [idle])]
  exact State.modEntry_modEntry s l _ _

/-- A return to the accepted level discards the pending change; a blocked check that waited on it then reports EYE_BLOCKED. -/
theorem State.entryEyeChange_returns (free : s.resetHeld = false) (same : level = (s.lane l).entry.level)
    (pending : (s.lane l).entry.pendingChange.isSome = true) :
    s.entryEyeChange l level =
      if (s.lane l).entry.blockedWaits then
        (s.modEntry l fun e => EntrySensor.discard { e with rawLevel := level }).reportFault l .eyeBlocked
      else s.modEntry l fun e => EntrySensor.discard { e with rawLevel := level } := by
  have entry : ((s.setEntryRaw l level).lane l).entry = { (s.lane l).entry with rawLevel := level } := State.modEntry_entry s l _
  have discarded : (s.setEntryRaw l level).modEntry l EntrySensor.discard =
      s.modEntry l fun e => EntrySensor.discard { e with rawLevel := level } := State.modEntry_modEntry s l _ _
  rw [State.entryEyeChange, if_neg (by simp [free]), State.entryRawChanged, entry, if_neg (not_not.mpr same), if_pos pending, discarded]

end EntryPins

theorem max_eq_ite (m n : Nat) : max m n = if m < n then n else m := by
  split <;> omega

/-- Settles O21: a change begun, discarded, discarded under a waiting check, and only kept at the pin; then the beams. -/
theorem entryPinsFiltered : Obligations.EntryPinsFiltered := by
  refine ⟨?eye, fun s l beams lines changed => ?beams⟩
  case eye =>
    intro s l level lines changed e put
    refine ⟨?begins, ?discards, ?reports, ?held⟩
    case begins =>
      intro free differs idle
      rw [exec_entryEyeChange changed, State.entryEyeChange_begins free differs idle, State.settle_modEntry lines l _ rfl rfl]
      rfl
    case discards =>
      intro free same pending unwaited
      rw [exec_entryEyeChange changed, State.entryEyeChange_returns free same pending, if_neg (by simpa using unwaited),
        State.settle_modEntry lines l _ rfl rfl]
      refine congrArg _ (State.modEntry_congr s l ?_)
      rw [same]
      exact congrArg (fun b : Bool => ({ e with
        rawLevel := e.level, pendingChange := none, widthMax := if e.level = .clear then 0 else e.widthMax,
        blockedWaits := b } : EntrySensor)) unwaited.symm
    case reports =>
      intro free same pending waits
      rw [exec_entryEyeChange changed, State.entryEyeChange_returns free same pending, if_pos waits]
      refine congrArg (fun u : State => (.next (u.reportFault l .eyeBlocked).settle : Result)) (State.modEntry_congr s l ?_)
      rw [same]
      rfl
    case held =>
      intro held
      rw [exec_entryEyeChange changed, State.entryEyeChange_held held, State.settle_modEntry lines l _ rfl rfl]
      rfl
  case beams =>
    rw [exec_of_due (c := .widthBeamChange l beams) (decide_eq_true changed)]
    refine congrArg _ ((State.settle_modEntry lines l _ rfl rfl).trans (State.modEntry_congr s l ?_))
    rw [max_eq_ite]
    by_cases gathers : (s.lane l).entry.level = .covered ∨ (s.lane l).entry.pendingChange.isSome = true <;>
      by_cases more : (s.lane l).entry.widthMax < beamCount beams <;>
      simp [EntrySensor.beamsChanged, EntrySensor.gathers, gathers, more]

/-! ## Edges of a lane that does not pass them on (R14, R19) -/

theorem dueChange_of_reached {now : Pos} {raw level : Level} {c : PendingChange} (differs : raw ≠ level)
    (reach : reached now c.confirm = true) : dueChange now raw level (some c) = some c :=
  if_pos ⟨differs, reach⟩

section Confirm

variable {s : State} {l : LaneId} {c : PendingChange}

theorem exec_entryEyeConfirm (pending : (s.lane l).entry.pendingChange = some c) (differs : (s.lane l).entry.rawLevel ≠ (s.lane l).entry.level)
    (reach : reached s.track.position c.confirm = true) : exec (.entryEyeConfirm l) s = .next (s.confirmEntry l c).settle := by
  have due : s.dueEntryChange l = some c := by
    rw [State.dueEntryChange, pending]
    exact dueChange_of_reached differs reach
  have confirmed : s.entryEyeConfirm l = s.confirmEntry l c := by rw [State.entryEyeConfirm, due]
  rw [← confirmed]
  exact exec_of_due (c := .entryEyeConfirm l) (congrArg Option.isSome due)

theorem exec_exitEyeConfirm (pending : (s.lane l).exit.pendingChange = some c) (differs : (s.lane l).exit.rawLevel ≠ (s.lane l).exit.level)
    (reach : reached s.track.position c.confirm = true) : exec (.exitEyeConfirm l) s = .next (s.confirmExit l c).settle := by
  have due : s.dueExitChange l = some c := by
    rw [State.dueExitChange, pending]
    exact dueChange_of_reached differs reach
  have confirmed : s.exitEyeConfirm l = s.confirmExit l c := by rw [State.exitEyeConfirm, due]
  rw [← confirmed]
  exact exec_of_due (c := .exitEyeConfirm l) (congrArg Option.isSome due)

/-- A lane in IDLE or FAULTED passes no edge on. -/
theorem LaneMode.not_passes {m : LaneMode} (rests : m = .idle ∨ m = .faulted) : m.passes = false := by
  rcases rests with rfl | rfl <;> rfl

end Confirm

/-- Settles O22: the accepted level moves, and neither edge is passed on. -/
theorem entryEdgesHeldBack : Obligations.EntryEdgesHeldBack := by
  intro s l c lines pending differs reach rests
  have held (f : EntrySensor → EntrySensor) : ¬ ((s.modEntry l f).lane l).mode.passes = true := by
    rw [LaneMoves.State.modEntry_mode, LaneMode.not_passes rests]
    exact Bool.false_ne_true
  rw [exec_entryEyeConfirm pending differs reach, State.confirmEntry]
  cases raw : (s.lane l).entry.rawLevel with
  | covered =>
    dsimp only
    rw [State.entryLeading, if_neg (held _), State.settle_modEntry lines l _ rfl rfl]
    exact congrArg _ (State.modEntry_congr s l (by simp [EntrySensor.accept, raw]))
  | clear =>
    dsimp only
    rw [State.entryTrailing, if_neg (held _), State.settle_modEntry lines l _ rfl rfl]
    exact congrArg _ (State.modEntry_congr s l (by simp [EntrySensor.accept, EntrySensor.clearWidth, raw]))

/-! ## The pins of the exit eye (R87, R91, R93) -/

section ExitPins

variable {s : State} {l : LaneId} {level : Level}

theorem exec_exitEyeChange (changed : (s.lane l).exit.rawLevel ≠ level) :
    exec (.exitEyeChange l level) s = .next (s.exitEyeChange l level).settle :=
  exec_of_due (c := .exitEyeChange l level) (decide_eq_true changed)

/-- While a reset is held the pin alone is kept (R109). -/
theorem State.exitEyeChange_held (held : s.resetHeld = true) :
    s.exitEyeChange l level = s.modExit l fun x => { x with rawLevel := level } :=
  if_pos held

theorem State.exitEyeChange_begins (free : s.resetHeld = false) (differs : level ≠ (s.lane l).exit.level)
    (idle : (s.lane l).exit.pendingChange = none) :
    s.exitEyeChange l level = s.modExit l fun x => ExitUnit.begin { x with rawLevel := level } s.newChange := by
  have exit : ((s.setExitRaw l level).lane l).exit = { (s.lane l).exit with rawLevel := level } := State.modExit_exit s l _
  rw [State.exitEyeChange, if_neg (by simp [free]), State.exitRawChanged, exit, if_pos differs, if_pos (by simp [idle])]
  exact State.modExit_modExit s l _ _

/-- A return to the accepted level discards the pending change; a check that waited on it then reports JAM. -/
theorem State.exitEyeChange_returns (free : s.resetHeld = false) (same : level = (s.lane l).exit.level)
    (pending : (s.lane l).exit.pendingChange.isSome = true) :
    s.exitEyeChange l level =
      if (s.lane l).exit.blockedWaits || (s.lane l).exit.missingWaits then
        (s.modExit l fun x => ExitUnit.discard { x with rawLevel := level }).reportFault l .jam
      else s.modExit l fun x => ExitUnit.discard { x with rawLevel := level } := by
  have exit : ((s.setExitRaw l level).lane l).exit = { (s.lane l).exit with rawLevel := level } := State.modExit_exit s l _
  have discarded : (s.setExitRaw l level).modExit l ExitUnit.discard =
      s.modExit l fun x => ExitUnit.discard { x with rawLevel := level } := State.modExit_modExit s l _ _
  rw [State.exitEyeChange, if_neg (by simp [free]), State.exitRawChanged, exit, if_neg (not_not.mpr same), if_pos pending, discarded]

end ExitPins

/-- Settles O33: a change begun, discarded, discarded under a waiting check, and only kept at the pin. -/
theorem exitEyeChangeFilters : Obligations.ExitEyeChangeFilters := by
  intro s l level lines changed x put
  refine ⟨?begins, ?discards, ?reports, ?held⟩
  case begins =>
    intro free differs idle
    rw [exec_exitEyeChange changed, State.exitEyeChange_begins free differs idle, State.settle_modExit lines]
    rfl
  case discards =>
    intro free same pending blocked missing
    rw [exec_exitEyeChange changed, State.exitEyeChange_returns free same pending, if_neg (by simpa using ⟨blocked, missing⟩),
      State.settle_modExit lines]
    refine congrArg _ (State.modExit_congr s l ?_)
    exact congrArg (fun b : Bool × Bool => ({ x with
      rawLevel := level, pendingChange := none, blockedWaits := b.1, missingWaits := b.2 } : ExitUnit))
      (Prod.ext blocked.symm missing.symm : ((false, false) : Bool × Bool) = (x.blockedWaits, x.missingWaits))
  case reports =>
    intro free same pending waits
    rw [exec_exitEyeChange changed, State.exitEyeChange_returns free same pending, if_pos (by simpa using waits)]
    rfl
  case held =>
    intro held
    rw [exec_exitEyeChange changed, State.exitEyeChange_held held, State.settle_modExit lines]
    rfl

end Sys2Proof.Machine
end


section
/-!
# Reports, the outfeed and the Ring Port (R112 to R118, R163 to R172, R180)

What the production of a report and of a warning leave alone; a discharge's start, its eye and its timeout; what is bounced, what the
arbiter chooses, and what leaves the port.
-/

namespace Sys2Proof.Machine

/-! ## Warnings (R180) -/

theorem WarningSet.latch_has (ws : WarningSet) (w v : Warning) : (ws.latch w).has v = (ws.has v || decide (v = w)) := by
  cases w <;> cases v <;> simp [WarningSet.latch, WarningSet.has]

theorem WarningSet.latch_of_has {ws : WarningSet} {w : Warning} (held : ws.has w = true) : ws.latch w = ws := by
  obtain ⟨⟩ := ws
  cases w <;> simp_all [WarningSet.latch, WarningSet.has]

/-- Reports at the tail of the report queue and warnings added to the latched set are all that changes. -/
def Reports (s t : State) : Prop :=
  ∃ more ws, (∀ w, s.tables.warnings.has w = true → ws.has w = true) ∧
    t = { s with
      ring := { s.ring with reportQueue := s.ring.reportQueue ++ more }
      tables := { s.tables with warnings := ws } }

namespace Reports

variable {s t u : State}

theorem refl (s : State) : Reports s s := ⟨[], s.tables.warnings, fun _ => id, by simp⟩

theorem trans (h : Reports s t) (k : Reports t u) : Reports s u := by
  obtain ⟨more, ws, keeps, rfl⟩ := h
  obtain ⟨rest, vs, keepsRest, rfl⟩ := k
  exact ⟨more ++ rest, vs, fun w held => keepsRest w (keeps w held), by simp⟩

theorem pushReport (s : State) (r : Report) : Reports s (s.pushReport r) := ⟨[s.reportTelegram r], s.tables.warnings, fun _ => id, rfl⟩

theorem latchWarning (s : State) (w : Warning) : Reports s (s.latchWarning w) := by
  refine ⟨[], s.tables.warnings.latch w, fun v held => ?_, by simp [State.latchWarning]⟩
  rw [WarningSet.latch_has, held]
  rfl

theorem raiseReportDropped (s : State) : Reports s s.raiseReportDropped := by
  unfold State.raiseReportDropped
  split
  · exact refl s
  · split
    · exact (latchWarning s _).trans (pushReport _ _)
    · exact latchWarning s _

theorem produce (s : State) (r : Report) : Reports s (s.produce r) := by
  unfold State.produce
  split
  · exact pushReport s r
  · exact raiseReportDropped s

theorem raise (s : State) (w : Warning) (l : Option LaneId) : Reports s (s.raise w l) := by
  unfold State.raise
  split
  · exact refl s
  · exact (latchWarning s w).trans (produce _ _)

/-- A warning raised is in the set from then on. -/
theorem raised (s : State) (w : Warning) (l : Option LaneId) : (s.raise w l).tables.warnings.has w = true := by
  unfold State.raise
  split
  · assumption
  · have latched : (s.latchWarning w).tables.warnings.has w = true := by
      show (s.tables.warnings.latch w).has w = true
      rw [WarningSet.latch_has, decide_eq_true rfl, Bool.or_true]
    obtain ⟨more, ws, keeps, eq⟩ := produce (s.latchWarning w) (.warning w l)
    rw [eq]
    exact keeps w latched

theorem warnings (h : Reports s t) {w : Warning} (held : s.tables.warnings.has w = true) : t.tables.warnings.has w = true := by
  obtain ⟨more, ws, keeps, rfl⟩ := h
  exact keeps w held

theorem lanes (h : Reports s t) : t.lanes = s.lanes := by
  obtain ⟨more, ws, _, rfl⟩ := h
  rfl

theorem places (h : Reports s t) : t.places = s.places := by
  obtain ⟨more, ws, _, rfl⟩ := h
  rfl

theorem discharge (h : Reports s t) : t.discharge = s.discharge := by
  obtain ⟨more, ws, _, rfl⟩ := h
  rfl

theorem mem (h : Reports s t) : t.mem = s.mem := by
  obtain ⟨more, ws, _, rfl⟩ := h
  rfl

theorem lane (h : Reports s t) (l : LaneId) : t.lane l = s.lane l := congrArg (fun v : Vector Lane 4 => v[l]) h.lanes

theorem place (h : Reports s t) (p : PlaceId) : t.place p = s.place p := congrArg (fun v : Vector Place 8 => v[p]) h.places

end Reports

theorem State.produce_of_room {s : State} (room : s.ring.reportQueue.length < 16) (r : Report) : s.produce r = s.pushReport r :=
  if_pos (decide_eq_true room)

theorem State.produce_of_full {s : State} (full : 16 ≤ s.ring.reportQueue.length) (r : Report) :
    s.produce r = { s with tables := { s.tables with warnings := s.tables.warnings.latch .reportDropped } } := by
  have noRoom : ¬ s.reportRoom = true := by
    unfold State.reportRoom
    rw [decide_eq_true_iff]
    exact Nat.not_lt.mpr full
  rw [State.produce, if_neg noRoom, State.raiseReportDropped]
  split
  · next held => rw [WarningSet.latch_of_has held]
  · rfl

/-- Settles O48: a warning that the set holds, one that it does not with room for its report, and one without; and what it holds then. -/
theorem warningsLatchOnce : Obligations.WarningsLatchOnce := by
  intro s w lane report
  refine ⟨fun held => if_pos held, fun new room => ?_, fun new full => ?_, s.tables.warnings.latch_has w⟩
  · rw [State.raise, if_neg (by simp [new]), State.produce_of_room (s := s.latchWarning w) room]
    rfl
  · rw [State.raise, if_neg (by simp [new]), State.produce_of_full (s := s.latchWarning w) full]
    rfl

/-! ## The start of a discharge (R112, R113) -/

theorem State.canDischarge_of {s : State} {p : PlaceId} {rest : List PlaceId} (idle : s.discharge.outfeed = .idle)
    (queue : s.discharge.queue = p :: rest) (room : s.ring.reportQueue.length < 16) : s.canDischarge = true := by
  have slot : s.reportRoom = true := decide_eq_true room
  simp [State.canDischarge, idle, queue, slot]

theorem State.startDischarge_of_queue {s : State} {p : PlaceId} {rest : List PlaceId} (queue : s.discharge.queue = p :: rest) :
    s.startDischarge = (s.beginPush p rest).pushReport (.stack p (s.place p)) := by
  rw [State.startDischarge, queue]

/-- Settles O37: the steps of R113, after which PUSH and OUTFEED_RUN alone are left to settle. -/
theorem dischargeStartPushesHead : Obligations.DischargeStartPushesHead := by
  intro s p rest lines idle queue room
  have due : s.due .dischargeStart = true := State.canDischarge_of idle queue room
  have started : s.after .dischargeStart = (s.beginPush p rest).pushReport (.stack p (s.place p)) :=
    State.startDischarge_of_queue queue
  rw [exec_of_due due, started]
  refine congrArg _ ((?_ : _ = State.settle _).trans (State.settle_of_linesFollow ?lines))
  · rfl
  case lines =>
    obtain ⟨lanes, push, run, ready, alert⟩ := lines
    refine ⟨lanes, rfl, rfl, ready, alert.trans ?_⟩
    unfold State.alertRule
    rw [idle]
    rfl

/-! ## The outfeed eye (R116, R117) -/

section OutfeedEye

variable {s : State}

theorem exec_outfeedEyeConfirm (pending : s.discharge.changePending = true) (differs : s.discharge.rawLevel ≠ s.discharge.level) :
    exec .outfeedEyeConfirm s =
      .next (({ s with discharge := s.discharge.accept } : State).outfeedConfirmed s.discharge.rawLevel).settle := by
  have due : s.due .outfeedEyeConfirm = true := by
    show (s.discharge.changePending && decide _) = true
    rw [pending, decide_eq_true differs]
    rfl
  exact exec_of_due due

/-- No line shows or follows the eye of the outfeed. -/
theorem State.settle_eye (lines : s.linesFollow) (level raw : Level) (pending covered : Bool) :
    ({ s with discharge := { s.discharge with level := level, rawLevel := raw, changePending := pending, seenCovered := covered } } :
      State).settle =
      { s with discharge := { s.discharge with level := level, rawLevel := raw, changePending := pending, seenCovered := covered } } :=
  State.settle_congr lines (fun _ => Lane.sameLines_refl _) ⟨rfl, rfl, rfl, rfl⟩ ⟨rfl, rfl, rfl⟩ ⟨rfl, rfl⟩

end OutfeedEye

/-- Settles O38: the change kept and filtered at the pin; then the confirmed change by the outfeed state and the level. -/
theorem outfeedEyeActs : Obligations.OutfeedEyeActs := by
  refine ⟨fun s level lines changed => ?change, ?confirm⟩
  case change =>
    rw [exec_of_due (c := .outfeedEyeChange level) (decide_eq_true changed)]
    have outcome : s.after (.outfeedEyeChange level) =
        { s with discharge := { s.discharge with
          rawLevel := level
          changePending := if s.resetHeld then s.discharge.changePending else decide (level ≠ s.discharge.level) } } := by
      show s.outfeedEyeChange level = _
      unfold State.outfeedEyeChange Discharge.rawChanged
      split <;> rfl
    rw [outcome]
    exact congrArg _ (State.settle_eye lines s.discharge.level level _ s.discharge.seenCovered)
  case confirm =>
    intro s lines pending differs accepted
    rw [exec_outfeedEyeConfirm pending differs]
    refine ⟨fun idle => ?quiet, fun moving covered => ?covered, fun p moving clear seen current => ?completes⟩
    case quiet =>
      have outcome : ({ s with discharge := s.discharge.accept } : State).outfeedConfirmed s.discharge.rawLevel =
          { s with discharge := accepted } := by
        unfold State.outfeedConfirmed
        obtain notMoving | ⟨clear, unseen⟩ := idle
        · exact if_neg notMoving
        · have notSeen : ¬ s.discharge.accept.seenCovered = true := by
            show ¬ s.discharge.seenCovered = true
            simp [unseen]
          rw [clear]
          simp only [if_neg notSeen, ite_self]
          rfl
      rw [outcome]
      exact congrArg _ (State.settle_eye lines s.discharge.rawLevel s.discharge.rawLevel false s.discharge.seenCovered)
    case covered =>
      have outcome : ({ s with discharge := s.discharge.accept } : State).outfeedConfirmed s.discharge.rawLevel =
          { s with discharge := { accepted with seenCovered := true } } := (congrArg _ covered).trans (if_pos moving)
      rw [outcome]
      exact congrArg _ (State.settle_eye lines s.discharge.rawLevel s.discharge.rawLevel false true)
    case completes =>
      have outcome : ({ s with discharge := s.discharge.accept } : State).outfeedConfirmed s.discharge.rawLevel =
          ({ s with discharge := s.discharge.accept } : State).completeDischarge := by
        unfold State.outfeedConfirmed
        rw [clear]
        exact (if_pos moving).trans (if_pos seen)
      have freed := State.freeCurrent_of_current (s := { s with discharge := s.discharge.accept }) current
      rw [outcome, State.completeDischarge, freed]
      rfl

/-! ## The outfeed timeout (R118) -/

/-- Settles O39: the place BLOCKED and the outfeed STALLED, which the FAULT report leaves so. -/
theorem outfeedTimeoutStalls : Obligations.OutfeedTimeoutStalls := by
  intro s p moving timer current
  have due : s.due .outfeedTimeout = true := by
    show (decide (s.discharge.outfeed = .moving) && s.discharge.timer.isSome && s.discharge.current.isSome) = true
    rw [decide_eq_true moving, timer, current]
    rfl
  have outcome : s.after .outfeedTimeout = s.timeOutPlace p := by
    show s.outfeedTimeout = _
    rw [State.outfeedTimeout, current]
  have taken : exec .outfeedTimeout s = .next (s.timeOutPlace p).settle := by rw [exec_of_due due, outcome]
  refine ⟨taken, _, taken, ?place, ?push, ?run, ?alert, ?queue⟩
  all_goals
    have reports := Reports.produce { s.modPlace p fun pl => { pl with state := .blocked } with
      discharge := { s.discharge with outfeed := .stalled, timer := none, seenCovered := false } } (.outfeedTimeout p)
    have discharge : (s.timeOutPlace p).discharge = { s.discharge with outfeed := .stalled, timer := none, seenCovered := false } :=
      reports.discharge
  case place => exact (reports.place p).trans (State.modPlace_place_same s p fun pl => { pl with state := .blocked })
  case push => rw [State.settle_discharge, discharge]; rfl
  case run => rw [State.settle_discharge, discharge]; rfl
  case alert =>
    rw [State.settle_tables, State.alertRule, discharge]
    exact Bool.or_true _
  case queue => rw [State.settle_discharge, discharge]

/-! ## The arbiter (R171) -/

/-- No line shows or follows what is sent. -/
theorem exec_sendStart {s : State} (lines : s.linesFollow) (ready : Bool) {src : Option SendSource} {run : Nat}
    (chosen : s.ring.sendStart ready = { s.ring with readyIn := ready, sending := src, run := run }) :
    exec (.sendStart ready) s = .next { s with ring := { s.ring with readyIn := ready, sending := src, run := run } } := by
  have outcome : s.after (.sendStart ready) = { s with ring := { s.ring with readyIn := ready, sending := src, run := run } } := by
    show { s with ring := s.ring.sendStart ready } = _
    rw [chosen]
  rw [exec_of_due (c := .sendStart ready) rfl, outcome]
  exact congrArg _ (State.settle_congr lines (fun _ => Lane.sameLines_refl _) ⟨rfl, rfl, rfl, rfl⟩ ⟨rfl, rfl, rfl⟩ ⟨rfl, rfl⟩)

theorem Ring.ownWaits_iff (r : Ring) : r.ownWaits = true ↔ r.response.isSome = true ∨ r.reportQueue ≠ [] := by
  simp [Ring.ownWaits]

/-- The arbiter with RING_RDY_IN asserted and no send in hand. -/
theorem Ring.sendStart_free {r : Ring} (free : r.sending = none) : r.sendStart true = { r with readyIn := true }.choose := by
  simp [Ring.sendStart, free]

/-- Settles O43: the rows of R171 by the forward queue, what waits, and the forwarding run. -/
theorem arbiterChooses : Obligations.ArbiterChooses := by
  intro s lines r own waits
  have waitsIff : ({ s.ring with readyIn := true } : Ring).ownWaits = true ↔ waits := Ring.ownWaits_iff _
  refine ⟨fun free queue idle => ?forwards, fun free queue own below => ?runs, fun free queue own limit => ?yields,
    fun free queue own => ?sends, fun free queue idle => ?rests, fun busy => ?busy, ?low⟩
  case forwards =>
    refine exec_sendStart lines true ?_
    rw [Ring.sendStart_free free, Ring.choose, if_neg (by simpa using queue), if_neg (by rw [waitsIff]; exact idle)]
  case runs =>
    refine exec_sendStart lines true ?_
    rw [Ring.sendStart_free free, Ring.choose, if_neg (by simpa using queue), if_pos (waitsIff.mpr own), if_pos below]
  case yields =>
    refine exec_sendStart lines true ?_
    rw [Ring.sendStart_free free, Ring.choose, if_neg (by simpa using queue), if_pos (waitsIff.mpr own),
      if_neg (by show ¬ s.ring.run < 3; omega)]
    rfl
  case sends =>
    refine exec_sendStart lines true ?_
    rw [Ring.sendStart_free free, Ring.choose, if_pos (by simpa using queue), if_pos (waitsIff.mpr own)]
    rfl
  case rests =>
    refine exec_sendStart (src := s.ring.sending) (run := s.ring.run) lines true ?_
    rw [Ring.sendStart_free free, Ring.choose, if_pos (by simpa using queue), if_neg (by rw [waitsIff]; exact idle)]
  case busy =>
    refine exec_sendStart (src := s.ring.sending) (run := s.ring.run) lines true ?_
    rw [Ring.sendStart, if_neg (by simp [Option.isSome_iff_ne_none.mp busy])]
  case low =>
    refine exec_sendStart (src := s.ring.sending) (run := s.ring.run) lines false ?_
    rw [Ring.sendStart, if_neg (by simp)]

/-! ## A telegram that has left (R172) -/

theorem exec_telegramSent {s : State} {src : SendSource} (sending : s.ring.sending = some src) :
    exec .telegramSent s =
      .next (if s.ring.sentOrders src then (s.leavePort src).warmReset.settle else (s.leavePort src).settle) := by
  have due : s.due .telegramSent = true := by
    show s.ring.sending.isSome = true
    rw [sending]
    rfl
  have outcome : s.after .telegramSent = if s.ring.sentOrders src then (s.leavePort src).warmReset else s.leavePort src := by
    show s.telegramSent = _
    rw [State.telegramSent, sending]
  rw [exec_of_due due, outcome, apply_ite State.settle]

/-- Settles O44: what leaves by its source, and what the one that left orders. -/
theorem sentTelegramLeaves : Obligations.SentTelegramLeaves := by
  intro s
  refine ⟨?forwarded, ?response, ?report⟩
  case forwarded =>
    intro f rest sending queue left
    have popped : s.leavePort .forwarded = left := by
      show s.popForward = _
      rw [State.popForward, queue]
      rfl
    have orders : s.ring.sentOrders .forwarded = f.ordersReset := by rw [Ring.sentOrders, queue]; rfl
    rw [exec_telegramSent sending, popped, orders]
  case response =>
    intro r sending response left
    have orders : s.ring.sentOrders .response = r.ordersReset := by rw [Ring.sentOrders, response]; rfl
    rw [exec_telegramSent sending, orders]
    rfl
  case report =>
    intro t rest sending queue left
    have popped : s.popReport = left := by
      rw [State.popReport, queue]
      rfl
    have taken : exec .telegramSent s = .next s.freeReportSlot.settle := exec_telegramSent sending
    refine ⟨fun unordered => ?_, fun ordered => ?_⟩
    · rw [taken, State.freeReportSlot_examined unordered, popped]
    · rw [taken, State.freeReportSlot_ordered ordered, popped]

/-! ## A telegram that is bounced (R167) -/

section Bounce

variable {s : State} {t : Telegram}

/-- A telegram that has a slot and passes the checks is classified. -/
theorem exec_telegramReceived (slot : s.ring.receive = .withSlot) (passes : passesChecks t = true) :
    exec (.telegramReceived t) s = .next ((s.setReceive .none).classify t).settle := by
  have due : s.due (.telegramReceived t) = true := by
    show decide (s.ring.receive ≠ .none) = true
    rw [slot]
    rfl
  have outcome : s.after (.telegramReceived t) = (s.setReceive .none).classify t := by
    show s.endReceive t = _
    rw [State.endReceive, slot, passes]
    rfl
  rw [exec_of_due due, outcome]

/-- A telegram of another station for this one is handled. -/
theorem State.classify_own (address : s.ring.isRepeater = false) (source : t.src.toNat ≤ 31) (foreign : t.src ≠ addressByte s.ring.address)
    (dest : t.dest = addressByte s.ring.address) : s.classify t = s.handleTelegram t := by
  rw [State.classify, if_neg (by simp [address]), if_neg (by omega), if_neg foreign, if_pos dest]

theorem State.handleTelegram_piece (whole : isBounced t = false) (kind : t.kind = 0x01#8) : s.handleTelegram t = s.takePiece t := by
  rw [State.handleTelegram, if_neg (by simp [whole])]
  exact if_pos kind

theorem State.handleTelegram_request (whole : isBounced t = false) (kind : t.kind = 0x02#8) : s.handleTelegram t = s.queueRequest t := by
  have notPiece : ¬ t.kind = Kind.piece.code := by rw [kind]; decide
  rw [State.handleTelegram, if_neg (by simp [whole]), if_neg notPiece]
  exact if_pos kind

end Bounce

theorem withCrc_crc (t : Telegram) : (withCrc t).crc = crcOf (checkedBytes (withCrc t)) := by
  have same : checkedBytes (withCrc t) = checkedBytes t := rfl
  rw [same, withCrc]

/-- Settles O29: both full queues lead to the bounce of R167. -/
theorem fullQueuesBounceTelegrams : Obligations.FullQueuesBounceTelegrams := by
  intro s t slot passes address source foreign dest whole full
  have handled : (s.setReceive .none).classify t = (s.setReceive .none).handleTelegram t :=
    State.classify_own address source foreign dest
  have bounced : (s.setReceive .none).handleTelegram t = (s.setReceive .none).bounce t := by
    obtain ⟨a, kind, body, tokens⟩ | ⟨kind, requests⟩ := full
    · have queue : (s.setReceive .none).tokensFull a.lane = true := decide_eq_true tokens
      rw [State.handleTelegram_piece whole kind, State.takePiece, body]
      exact if_pos queue
    · rw [State.handleTelegram_request whole kind]
      exact if_neg (Nat.not_lt.mpr requests)
  have bounce (u : State) : (u.setReceive .none).bounce t =
      { u.setWord 7 129 (u.word 7 129 + 1) with
        ring := { u.ring with receive := .none, forwardQueue := u.ring.forwardQueue ++ [⟨bouncedTelegram t, false⟩] } } := rfl
  refine ⟨bouncedTelegram t, rfl, rfl, rfl, rfl, rfl, withCrc_crc _, ?_⟩
  rw [exec_telegramReceived slot passes, handled, bounced, bounce]

end Sys2Proof.Machine
end


section
/-!
# The station requests (R177, R179, R182, R183, R185, R187, R189, R190)

The requests that answer and change little, the layout of a response, the status words bit by bit, the write rights page by page, and the
counters that CLEAR COUNTERS sets to 0.
-/

namespace Sys2Proof.Machine

/-! ## Requests that answer and change little -/

/-- Settles O45: IDENTIFY, BEGIN MODIFY and STATION RESET by their acts. -/
theorem plainRequestsAnswer : Obligations.PlainRequestsAnswer := by
  refine ⟨fun s t h l lines ready body => ?identify, fun s t h l lines ready body => ?beginModify,
    fun s t h l lines ready body => ?stationReset⟩
  case identify =>
    exact request_answers (act := identifyAct) lines ready (by rw [body]; exact Request.ofCode_code .identify) (by rw [body]; rfl) rfl
  case beginModify =>
    exact request_setsTables (act := beginModifyAct) lines ready (by rw [body]; exact Request.ofCode_code .beginModify)
      (by rw [body]; rfl) ⟨rfl, rfl⟩ rfl
  case stationReset =>
    exact request_answers (act := stationResetAct) lines ready (by rw [body]; exact Request.ofCode_code .stationReset)
      (by rw [body]; rfl) rfl

/-- Settles O46: the response as it is made. -/
theorem responseLayout : Obligations.ResponseLayout := by
  intro s t c h l ps a body
  refine ⟨_, rfl, rfl, rfl, rfl, rfl, ?_, withCrc_crc _, rfl⟩
  show responseBody t.body a = _
  rw [body]
  rfl

/-- Settles O55: the length check, then the code that names no request. -/
theorem requestsTurnedAway : Obligations.RequestsTurnedAway := by
  refine ⟨fun r s t lines ready code length => ?badLength, fun s t lines ready code => ?unknown, Request.ofCode_code⟩
  case badLength =>
    rw [exec_row]
    exact request_badLength r.act lines ready code length
  case unknown =>
    have due : s.due .unknownRequest = true := by
      show s.unknownDue = true
      rw [State.unknownDue, ready]
      exact congrArg Option.isNone code
    have outcome : s.after .unknownRequest = s.dequeued.respond t (unknownAnswer t.body) := by
      show s.answerUnknown = _
      rw [State.answerUnknown, ready]
      rfl
    rw [exec_of_due due, outcome, State.settle_of_linesFollow (State.linesFollow_answered lines t _)]
    rfl

/-! ## The status words (R183, R195) -/

theorem laneWord_bits : ∀ (m f : Fin 8) (a b c : Bool),
    let w := wordOf (m.val + 16 * f.val + flagBit a 8 + flagBit b 9 + flagBit c 10)
    (w.extractLsb' 0 3).toNat = m.val ∧ (w.extractLsb' 4 3).toNat = f.val ∧ w.getLsbD 8 = a ∧ w.getLsbD 9 = b ∧ w.getLsbD 10 = c ∧
      w &&& 0xF888#16 = 0 := by decide

theorem trackWord_bits : ∀ (a b : Bool) (m : Fin 4),
    let w := wordOf (flagBit a 0 + flagBit b 1 + 16 * m.val)
    w.getLsbD 0 = a ∧ w.getLsbD 1 = b ∧ (w.extractLsb' 4 2).toNat = m.val ∧ w &&& 0xFFCC#16 = 0 := by decide

theorem outfeedWord_bits : ∀ (o : Fin 4) (a : Bool),
    let w := wordOf (o.val + flagBit a 8)
    (w.extractLsb' 0 2).toNat = o.val ∧ w.getLsbD 8 = a ∧ w &&& 0xFEFC#16 = 0 := by decide

theorem warningWord_bits : ∀ a b c d e f g h i : Bool,
    let w := wordOf (flagBit a 0 + flagBit b 1 + flagBit c 2 + flagBit d 3 + flagBit e 4 + flagBit f 5 + flagBit g 6 + flagBit h 7 + flagBit i 8)
    w.getLsbD 0 = a ∧ w.getLsbD 1 = b ∧ w.getLsbD 2 = c ∧ w.getLsbD 3 = d ∧ w.getLsbD 4 = e ∧ w.getLsbD 5 = f ∧ w.getLsbD 6 = g ∧
      w.getLsbD 7 = h ∧ w.getLsbD 8 = i ∧ w &&& 0xFE00#16 = 0 := by decide

theorem LaneMode.code_lt (m : LaneMode) : m.code < 8 := by cases m <;> decide

theorem faultCodeValue_lt (f : Option LaneFault) : faultCodeValue f < 8 := by
  cases f with
  | none => decide
  | some f => cases f <;> decide

theorem MotionMode.code_lt (m : MotionMode) : m.code < 4 := by cases m <;> decide

theorem Outfeed.code_lt (o : Outfeed) : o.code < 4 := by cases o <;> decide

/-- Settles O47: the warnings emptied, with ALERT by the rest of its rule; and the bits of each status word. -/
theorem readStatusClearsWarnings : Obligations.ReadStatusClearsWarnings := by
  refine ⟨fun s t h l lines ready body => ?answers, fun L => ?lane, fun t => ?track, fun d => ?outfeed, fun ws => ?warnings⟩
  case answers =>
    have code : Request.ofCode (codeByte t.body) = some .readStatus := by rw [body]; exact Request.ofCode_code .readStatus
    have row : exec .readStatus s = request .readStatus readStatusAct s := rfl
    rw [row, request_act readStatusAct ready code (by rw [body]; rfl)]
    refine congrArg _ ((?_ : _ = State.settle _).trans (State.settle_of_linesFollow ?lines))
    · rfl
    case lines =>
      obtain ⟨lanes, push, run, out, alert⟩ := lines
      exact ⟨lanes, push, run, out, rfl⟩
  case lane => exact laneWord_bits ⟨_, L.mode.code_lt⟩ ⟨_, faultCodeValue_lt L.faultCode⟩ _ _ _
  case track => exact trackWord_bits _ _ ⟨_, t.mode.code_lt⟩
  case outfeed => exact outfeedWord_bits ⟨_, d.outfeed.code_lt⟩ _
  case warnings =>
    obtain ⟨b0, b1, b2, b3, b4, b5, b6, b7, b8, rest⟩ :=
      warningWord_bits ws.stray ws.phantom ws.tokenLost ws.unplannedToken ws.overflow ws.badEntry ws.secondFault ws.badTelegram
        ws.reportDropped
    refine ⟨fun w => ?_, rest⟩
    cases w
    · exact b0
    · exact b1
    · exact b2
    · exact b3
    · exact b4
    · exact b5
    · exact b6
    · exact b7
    · exact b8

/-! ## The write rights (R179, R141) -/

section WriteRights

variable {s : State} {p : Pointer} {w : Word}

theorem State.writable_row (page : p.page = 1) : s.writable p w = s.rowWritable p.offset.val := by
  rw [State.writable, if_neg (by rw [page]; decide), if_pos page]

theorem State.writable_ring (page : p.page = 4) : s.writable p w = s.ringWritable p.offset.val w := by
  rw [State.writable, if_neg (by rw [page]; decide), if_neg (by rw [page]; decide), if_pos page]

theorem State.rowWritable_iff (offset : Nat) :
    s.rowWritable offset = true ↔
      ∀ l : LaneId, 32 * l.val ≤ offset → offset ≤ 32 * l.val + 16 → (s.lane l).mode = .idle ∨ (s.lane l).mode = .suspended := by
  unfold State.rowWritable
  split
  · next inRows =>
    rw [Bool.or_eq_true, decide_eq_true_iff, decide_eq_true_iff]
    constructor
    · intro right l low high
      have own : l = ⟨offset / 32, inRows⟩ := Fin.ext (by show l.val = offset / 32; omega)
      rw [own]
      exact right.resolve_left (by omega)
    · intro right
      by_cases spare : 16 < offset % 32
      · exact Or.inl spare
      · exact Or.inr (right ⟨offset / 32, inRows⟩ (by show 32 * (offset / 32) ≤ offset; omega) (by show offset ≤ 32 * (offset / 32) + 16; omega))
  · next beyond =>
    refine ⟨fun _ l low high => ?_, fun _ => rfl⟩
    have := l.isLt
    omega

theorem State.ringWritable_iff (offset : Nat) :
    s.ringWritable offset w = true ↔
      ∀ e : EntryId, 12 * e.val ≤ offset → offset ≤ 12 * e.val + 11 →
        isClaimed (s.entryStatus e) = false ∧ (offset = 12 * e.val → isClaimed (statusField w) = false) := by
  unfold State.ringWritable
  split
  · next inRing =>
    rw [Bool.and_eq_true, Bool.not_eq_true', Bool.not_eq_true', Bool.and_eq_false_imp, decide_eq_true_iff]
    constructor
    · rintro ⟨free, unclaimed⟩ e low high
      have own : e = ⟨offset / 12, inRing⟩ := Fin.ext (by show e.val = offset / 12; omega)
      subst own
      exact ⟨free, fun first => unclaimed (by rw [first]; exact Nat.mul_mod_right 12 _)⟩
    · intro right
      obtain ⟨free, unclaimed⟩ := right ⟨offset / 12, inRing⟩ (by show 12 * (offset / 12) ≤ offset; omega)
        (by show offset ≤ 12 * (offset / 12) + 11; omega)
      exact ⟨free, fun first => unclaimed (by show offset = 12 * (offset / 12); omega)⟩
  · next beyond =>
    refine ⟨fun _ e low high => ?_, fun _ => rfl⟩
    have := e.isLt
    omega

end WriteRights

/-- Settles O51: the pages in order. -/
theorem writeRightsByPage : Obligations.WriteRightsByPage := by
  intro s p w
  refine ⟨fun page => ?_, fun page => ?_, fun page => ?_, fun page => ?_, fun page => ?_⟩
  · rw [State.writable, if_pos page]
    exact s.allIdle_iff
  · rw [State.writable_row page]
    exact State.rowWritable_iff _
  · unfold State.writable
    obtain page | page | page := page <;> rw [page] <;> rfl
  · rw [State.writable_ring page]
    exact State.ringWritable_iff _
  · unfold State.writable
    obtain page | page := page <;> rw [page] <;> rfl

/-! ## CLEAR COUNTERS (R189) -/

/-- Words of page 7 set to 0, and every other word kept. -/
structure CountersCleared (s t : State) (cleared : Nat → Prop) : Prop where
  same : t = { s with mem := t.mem }
  wf : s.memWf → t.memWf
  zero : s.memWf → ∀ o, cleared o → t.mem.read (7168 + o) = 0
  kept : ∀ a, (∀ o, cleared o → a ≠ 7168 + o) → t.mem.read a = s.mem.read a

namespace CountersCleared

variable {s t u : State} {p q : Nat → Prop}

theorem trans (h : CountersCleared s t p) (k : CountersCleared t u q) : CountersCleared s u fun o => p o ∨ q o where
  same := by
    have second := k.same
    rw [h.same] at second
    exact second
  wf wf := k.wf (h.wf wf)
  zero wf o cleared := by
    by_cases later : q o
    · exact k.zero (h.wf wf) o later
    · refine (k.kept _ fun o' cleared' => ?_).trans (h.zero wf o (cleared.resolve_right later))
      rintro equal
      have same : o = o' := by omega
      exact later (same ▸ cleared')
  kept a apart := (k.kept a fun o cleared => apart o (Or.inr cleared)).trans (h.kept a fun o cleared => apart o (Or.inl cleared))

theorem congr (h : CountersCleared s t p) (same : ∀ o, p o ↔ q o) : CountersCleared s t q where
  same := h.same
  wf := h.wf
  zero wf o cleared := h.zero wf o ((same o).mpr cleared)
  kept a apart := h.kept a fun o cleared => apart o ((same o).mp cleared)

theorem none (s : State) : CountersCleared s s fun _ => False := ⟨rfl, id, fun _ _ => False.elim, fun _ _ => rfl⟩

theorem one (s : State) {o : Nat} (inPage : o < 1024) : CountersCleared s (s.setWord 7 o 0#16) (· = o) where
  same := rfl
  wf wf := State.setWord_wf wf (by decide) inPage _
  zero wf o' is := by
    subst is
    exact State.word_setWord_same s wf 7 o' 0#16
  kept a apart := Mem.read_write_other _ _ (apart o rfl)

theorem zeroCounters {os : List Nat} (inPage : ∀ o ∈ os, o < 1024) (s : State) : CountersCleared s (s.zeroCounters os) (· ∈ os) := by
  unfold State.zeroCounters
  induction os generalizing s with
  | nil => exact (none s).congr fun o => by simp
  | cons o os ih =>
    exact ((one s (inPage o List.mem_cons_self)).trans (ih (fun o listed => inPage o (List.mem_cons_of_mem _ listed)) _)).congr fun o' => by simp

/-- The 17 words of a lane. -/
theorem lane (s : State) (l : LaneId) :
    CountersCleared s (s.clearLaneCounters l) fun o => 32 * l.val ≤ o ∧ o ≤ 32 * l.val + 16 := by
  refine (zeroCounters (fun o listed => ?_) s).congr fun o => ?_
  · obtain ⟨k, word, rfl⟩ := List.mem_map.mp listed
    have bound : k ≤ 16 := by fin_cases word <;> decide
    unfold laneCounterOffset
    omega
  · rw [List.mem_map]
    constructor
    · rintro ⟨k, word, rfl⟩
      have bound : k ≤ 16 := by fin_cases word <;> decide
      unfold laneCounterOffset
      omega
    · rintro ⟨low, high⟩
      have words : ∀ k : Fin 17, k.val ∈ laneCounterWords := by decide
      exact ⟨o - 32 * l.val, words ⟨o - 32 * l.val, by omega⟩, by unfold laneCounterOffset; omega⟩

theorem lanes (ls : List LaneId) (s : State) :
    CountersCleared s (ls.foldl (fun s l => s.clearLaneCounters l) s) fun o => ∃ l ∈ ls, 32 * l.val ≤ o ∧ o ≤ 32 * l.val + 16 := by
  induction ls generalizing s with
  | nil => exact (none s).congr fun o => by simp
  | cons l ls ih =>
    have rest := ih (s.clearLaneCounters l)
    rw [List.foldl_cons]
    refine ((lane s l).trans rest).congr fun o => ?_
    rw [List.exists_mem_cons_iff]

theorem station (s : State) : CountersCleared s s.clearStationCounters fun o => 128 ≤ o ∧ o ≤ 130 := by
  refine (zeroCounters (by decide) s).congr fun o => ?_
  have listed : o ∈ stationCounterOffsets ↔ o = 128 ∨ o = 129 ∨ o = 130 := by
    simp [stationCounterOffsets, stacksDischargedOffset, bouncedOffset, crcErrorOffset]
  rw [listed]
  omega

end CountersCleared

/-- The counters that a scope names: a lane's, the station's with 4, all with 5. -/
def inScope (scope o : Nat) : Prop :=
  (∃ l : LaneId, (scope = l.val ∨ scope = 5) ∧ 32 * l.val ≤ o ∧ o ≤ 32 * l.val + 16) ∨ (4 ≤ scope ∧ 128 ≤ o ∧ o ≤ 130)

theorem State.clearScope_of_range (s : State) {scope : Nat} (range : scope ≤ 5) :
    ∃ u, s.clearScope scope = some u ∧ CountersCleared s u (inScope scope) := by
  unfold State.clearScope inScope
  by_cases lane : scope < 4
  · refine ⟨_, dif_pos lane, (CountersCleared.lane s ⟨scope, lane⟩).congr fun o => ⟨fun inLane => Or.inl ⟨⟨scope, lane⟩, Or.inl rfl, inLane⟩, ?_⟩⟩
    rintro (⟨l, own | all, inLane⟩ | ⟨high, _⟩)
    · subst own
      exact inLane
    · omega
    · omega
  · by_cases four : scope = 4
    · subst four
      refine ⟨_, rfl, (CountersCleared.station s).congr fun o => ⟨fun inStation => Or.inr ⟨le_rfl, inStation⟩, ?_⟩⟩
      rintro (⟨l, own | all, inLane⟩ | ⟨_, inStation⟩)
      · have := l.isLt
        omega
      · omega
      · exact inStation
    · have five : scope = 5 := by omega
      subst five
      refine ⟨_, rfl, ((CountersCleared.lanes allLanes s).trans (CountersCleared.station _)).congr fun o => ?_⟩
      constructor
      · rintro (⟨l, _, inLane⟩ | inStation)
        · exact Or.inl ⟨l, Or.inr rfl, inLane⟩
        · exact Or.inr ⟨by omega, inStation⟩
      · rintro (⟨l, _, inLane⟩ | ⟨_, inStation⟩)
        · exact Or.inl ⟨l, mem_allLanes l, inLane⟩
        · exact Or.inr inStation

theorem State.clearScope_of_above (s : State) {scope : Nat} (above : 5 < scope) : s.clearScope scope = none := by
  rw [State.clearScope, dif_neg (by omega), if_neg (by omega), if_neg (by omega)]

/-- Settles O54: the words a scope names are 0, and every other word is kept. -/
theorem clearCountersByScope : Obligations.ClearCountersByScope := by
  intro s t h l scope lines wf ready body
  have code : Request.ofCode (codeByte t.body) = some .clearCounters := by rw [body]; exact Request.ofCode_code .clearCounters
  have length : t.body.length = Request.bodyLength t.body .clearCounters := by rw [body]; rfl
  have params : param (t.body.drop 3) 0 = scope := by rw [body]; rfl
  have row : exec .clearCounters s = request .clearCounters clearCountersAct s := rfl
  refine ⟨fun range => ?clears, fun above => ?above⟩
  case clears =>
    obtain ⟨u, found, cleared⟩ := s.dequeued.clearScope_of_range range
    have act : clearCountersAct (t.body.drop 3) s.dequeued = (u, answer .ok []) := by rw [clearCountersAct, params, found]
    have wf' : s.dequeued.memWf := wf
    refine ⟨u.mem, ?_, fun n k inLane => ?_, fun k listed => ?_, fun a apart apartStation => ?_⟩
    · rw [row, request_act clearCountersAct ready code length, act]
      dsimp only
      rw [cleared.same]
      exact congrArg _ (State.settle_congr lines (fun _ => Lane.sameLines_refl _) ⟨rfl, rfl, rfl, rfl⟩ ⟨rfl, rfl, rfl⟩ ⟨rfl, rfl⟩)
    · rw [Nat.add_assoc]
      split
      · next named => exact cleared.zero wf' _ (Or.inl ⟨n, named, by omega, by omega⟩)
      · next other =>
        refine cleared.kept _ fun o inScope same => ?_
        obtain ⟨m, named, low, high⟩ | ⟨_, low, high⟩ := inScope
        · have own : m = n := Fin.ext (by omega)
          exact other (own ▸ named)
        · have := n.isLt
          omega
    · have range : 128 ≤ k ∧ k ≤ 130 := by fin_cases listed <;> decide
      split
      · next named => exact cleared.zero wf' _ (Or.inr ⟨named, range⟩)
      · next other =>
        refine cleared.kept _ fun o inScope same => ?_
        obtain ⟨m, _, low, high⟩ | ⟨named, _⟩ := inScope
        · have := m.isLt
          omega
        · exact other named
    · refine cleared.kept a fun o inScope same => ?_
      obtain ⟨m, _, low, high⟩ | ⟨_, low, high⟩ := inScope
      · exact apart m (o - 32 * m.val) (by omega) (by omega)
      · have listed : o ∈ [128, 129, 130] := by
          have : o = 128 ∨ o = 129 ∨ o = 130 := by omega
          simpa using this
        exact apartStation o listed same
  case above =>
    rw [row]
    refine request_answers lines ready code length ?_
    rw [clearCountersAct, params, State.clearScope_of_above _ above]

end Sys2Proof.Machine
end


section
/-!
# LANE SUSPEND and CLEAR FAULT (R150, R154, R160)

The lines after a request that changed lanes alone; a request carried out for one lane or for every enabled lane; then the two requests.
-/

namespace Sys2Proof.Machine

/-! ## The lines after a request on the lanes -/

theorem State.alertRule_of_faulted {s t : State} (warnings : t.tables.warnings = s.tables.warnings)
    (faulted : ∀ l, (t.lane l).mode = .faulted ↔ (s.lane l).mode = .faulted) (outfeed : t.discharge.outfeed = s.discharge.outfeed) :
    t.alertRule = s.alertRule := by
  have any : t.anyFaulted = s.anyFaulted := by
    unfold State.anyFaulted
    congr 1
    funext l
    exact decide_eq_decide.mpr (faulted l)
  unfold State.alertRule
  rw [any, warnings, outfeed]

theorem Lane.settle_of_linesFollow {s : State} (lines : s.linesFollow) (l : LaneId) : (s.lane l).settle = s.lane l := by
  have settled := State.settle_lane s l
  rw [State.settle_of_linesFollow lines] at settled
  exact settled.symm

/-- Settling depends on the lanes as they settle. -/
theorem State.settle_congr_lanes {s : State} {U V : Vector Lane 4} (settled : ∀ l : LaneId, (U[l]).settle = (V[l]).settle) :
    ({ s with lanes := U } : State).settle = ({ s with lanes := V } : State).settle := by
  have lanes : (({ s with lanes := U } : State).mapLanes Lane.settle).lanes = (({ s with lanes := V } : State).mapLanes Lane.settle).lanes := by
    refine State.lane_ext fun l => ?_
    rw [State.mapLanes_lane, State.mapLanes_lane]
    exact settled l
  have whole (W : Vector Lane 4) : ({ s with lanes := W } : State).mapLanes Lane.settle =
      { s with lanes := (({ s with lanes := W } : State).mapLanes Lane.settle).lanes } := rfl
  have same : ({ s with lanes := U } : State).mapLanes Lane.settle = ({ s with lanes := V } : State).mapLanes Lane.settle := by
    rw [whole U, whole V, lanes]
  unfold State.settle
  rw [same]

/-- Where a request changes lanes alone and faults none, the lines of the lanes are all that is left to settle. -/
theorem State.settle_lanes_answered {s : State} {U V : Vector Lane 4} (lines : s.linesFollow) (t : Telegram) (a : Answer)
    (faulted : ∀ l : LaneId, (V[l]).mode = .faulted ↔ (s.lane l).mode = .faulted) (settled : ∀ l : LaneId, (U[l]).settle = V[l]) :
    (({ s.dequeued with lanes := U } : State).respond t a).settle = ({ s.dequeued with lanes := V } : State).respond t a := by
  have same : (({ s.dequeued with lanes := U } : State).respond t a).settle = (({ s.dequeued with lanes := V } : State).respond t a).settle :=
    State.settle_congr_lanes (s := s.dequeued.respond t a) fun l => by rw [← settled l]; rfl
  rw [same]
  obtain ⟨_, push, run, ready, alert⟩ := lines
  refine State.settle_of_linesFollow ⟨fun l => ?_, push, run, ready, ?_⟩
  · show V[l].feedHold = V[l].feedHoldRule ∧ V[l].entry.feedSlow = V[l].entry.feedSlowRule
    rw [← settled l]
    exact ⟨rfl, rfl⟩
  · have rule : (({ s.dequeued with lanes := V } : State).respond t a).alertRule = s.alertRule := State.alertRule_of_faulted rfl faulted rfl
    exact alert.trans rule.symm

/-! ## One lane, or every enabled lane (R154) -/

theorem laneParam_byteOf (l : LaneId) : laneParam (byteOf l.val) = some l := by
  have value : (byteOf l.val).toNat = l.val := by
    rw [byteOf, BitVec.toNat_ofNat]
    omega
  simp [laneParam, value]

theorem laneParam_of_above {b : Byte} (above : 3 < b.toNat) : laneParam b = none := dif_neg (by omega)

theorem byteOf_lane_ne_four (l : LaneId) : byteOf l.val ≠ 0x04#8 := by fin_cases l <;> decide

/-- A request that acts on the lane it names, does not touch lanes enabled, and answers by the lane's state. -/
structure LaneAct.Own (act : LaneAct) (status : LaneMode → Status) : Prop where
  other : ∀ s l m, m ≠ l → (act s l).1.lane m = s.lane m
  enabled : ∀ s l, (act s l).1.lanesEnabled = s.lanesEnabled
  status : ∀ s l, (act s l).2 = status (s.lane l).mode

/-- The request carried out for the enabled lanes of a list. -/
def State.actEnabled (s : State) (act : LaneAct) (ls : List LaneId) : State :=
  ls.foldl (fun s l => if s.laneEnabled l then (act s l).1 else s) s

/-- The two words that the answer shows of each lane: its status and its state after the request. -/
def State.laneWords (s u : State) (status : LaneMode → Status) (l : LaneId) : List Word :=
  if s.laneEnabled l then [wordOf (status (s.lane l).mode).code.toNat, u.laneWord l]
  else [wordOf Status.badConfig.code.toNat, wordOf LaneMode.idle.code]

namespace LaneAct.Own

variable {act : LaneAct} {status : LaneMode → Status}

theorem laneEnabled (own : LaneAct.Own act status) (s : State) (l m : LaneId) : (act s l).1.laneEnabled m = s.laneEnabled m := by
  unfold State.laneEnabled
  rw [own.enabled]

/-- What the list's other lanes do, a lane does not see. -/
theorem actEnabled_lane_other (own : LaneAct.Own act status) {ls : List LaneId} {m : LaneId} (outside : m ∉ ls) (s : State) :
    (s.actEnabled act ls).lane m = s.lane m := by
  unfold State.actEnabled
  induction ls generalizing s with
  | nil => rfl
  | cons l ls ih =>
    rw [List.mem_cons, not_or] at outside
    rw [List.foldl_cons, ih outside.2]
    split
    · exact own.other s l m outside.1
    · rfl

theorem foldl_eachLane (own : LaneAct.Own act status) {ls : List LaneId} (once : ls.Nodup) (s : State) (ws : List Word) :
    ls.foldl (State.eachLane act) (s, ws) =
      (s.actEnabled act ls, ws ++ ls.flatMap (s.laneWords (s.actEnabled act ls) status)) := by
  induction ls generalizing s ws with
  | nil => simp [State.actEnabled]
  | cons l ls ih =>
    obtain ⟨fresh, once⟩ := List.nodup_cons.mp once
    rw [List.foldl_cons]
    by_cases enabled : s.laneEnabled l = true
    · have step : State.eachLane act (s, ws) l =
          ((act s l).1, ws ++ [wordOf (status (s.lane l).mode).code.toNat, (act s l).1.laneWord l]) := by
        rw [State.eachLane, if_pos enabled, ← own.status s l]
      have first : s.actEnabled act (l :: ls) = (act s l).1.actEnabled act ls := by
        unfold State.actEnabled
        rw [List.foldl_cons, if_pos enabled]
      have word : ((act s l).1.actEnabled act ls).laneWord l = (act s l).1.laneWord l := by
        unfold State.laneWord
        rw [own.actEnabled_lane_other fresh]
      have rest : ls.flatMap ((act s l).1.laneWords ((act s l).1.actEnabled act ls) status) =
          ls.flatMap (s.laneWords ((act s l).1.actEnabled act ls) status) := by
        refine List.flatMap_congr fun m listed => ?_
        have apart : m ≠ l := fun equal => fresh (equal ▸ listed)
        unfold State.laneWords
        rw [own.laneEnabled, own.other s l m apart]
      rw [step, ih once, first, rest, List.flatMap_cons, State.laneWords, if_pos enabled, word, List.append_assoc]
    · have step : State.eachLane act (s, ws) l = (s, ws ++ [wordOf Status.badConfig.code.toNat, wordOf LaneMode.idle.code]) := by
        rw [State.eachLane, if_neg enabled]
      have first : s.actEnabled act (l :: ls) = s.actEnabled act ls := by
        unfold State.actEnabled
        rw [List.foldl_cons, if_neg enabled]
      rw [step, ih once, first, List.flatMap_cons, State.laneWords, if_neg enabled, List.append_assoc]

/-- A lane of the list is acted on once, in a state in which it stands as before. -/
theorem actEnabled_lane (own : LaneAct.Own act status) {ls : List LaneId} (once : ls.Nodup) {m : LaneId} (listed : m ∈ ls) (s : State) :
    ∃ u, u.lane m = s.lane m ∧ (s.actEnabled act ls).lane m = if s.laneEnabled m then (act u m).1.lane m else s.lane m := by
  induction ls generalizing s with
  | nil => cases listed
  | cons l ls ih =>
    obtain ⟨fresh, once⟩ := List.nodup_cons.mp once
    have first : s.actEnabled act (l :: ls) = (if s.laneEnabled l then (act s l).1 else s).actEnabled act ls := rfl
    rw [first]
    rcases List.mem_cons.mp listed with rfl | later
    · refine ⟨s, rfl, ?_⟩
      rw [own.actEnabled_lane_other fresh]
      split <;> rfl
    · have apart : m ≠ l := fun equal => fresh (equal ▸ later)
      by_cases enabled : s.laneEnabled l = true
      · rw [if_pos enabled]
        obtain ⟨u, before, after⟩ := ih once later (act s l).1
        rw [own.other s l m apart] at before after
        rw [own.laneEnabled] at after
        exact ⟨u, before, after⟩
      · rw [if_neg enabled]
        exact ih once later s

theorem onAllLanes (own : LaneAct.Own act status) (s : State) :
    s.onAllLanes act = (s.actEnabled act allLanes, allLanes.flatMap (s.laneWords (s.actEnabled act allLanes) status)) :=
  own.foldl_eachLane (by decide) s []

end LaneAct.Own

section OnLaneValue

variable {s : State} {act : LaneAct}

theorem State.onLaneValue_lane (l : LaneId) : s.onLaneValue act (byteOf l.val) = (act s l).1.laneAnswer l (act s l).2 := by
  rw [State.onLaneValue, laneParam_byteOf]

theorem State.onLaneValue_all : s.onLaneValue act 0x04#8 = ((s.onAllLanes act).1, answer .ok (s.onAllLanes act).2) := by
  rw [State.onLaneValue, laneParam_of_above (by decide)]
  rfl

theorem State.onLaneValue_above {b : Byte} (above : 4 < b.toNat) : s.onLaneValue act b = (s, answer .badParam []) := by
  have notAll : ¬ b = 0x04#8 := by
    rintro rfl
    exact absurd above (by decide)
  rw [State.onLaneValue, laneParam_of_above (by omega)]
  exact if_neg notAll

end OnLaneValue

/-! ## LANE SUSPEND (R150) -/

/-- The states in which LANE SUSPEND changes a lane. -/
def LaneMode.suspends (m : LaneMode) : Prop := m = .running ∨ m = .dry ∨ m = .wait

/-- The status of a LANE SUSPEND by the state of the lane. -/
def suspendStatus (m : LaneMode) : Status := if m = .idle ∨ m = .faulted then .wrongState else .ok

section Suspend

variable {s : State} {l : LaneId}

theorem State.suspendLane_of_suspends (works : (s.lane l).mode.suspends) : (s.suspendLane l).1 = s.modLane l Lane.suspend := by
  unfold State.suspendLane
  obtain mode | mode | mode := works <;> rw [mode]

theorem State.suspendLane_of_not_suspends (rests : ¬ (s.lane l).mode.suspends) : (s.suspendLane l).1 = s := by
  unfold State.suspendLane
  cases mode : (s.lane l).mode with
  | running => exact absurd (Or.inl mode) rests
  | dry => exact absurd (Or.inr (Or.inl mode)) rests
  | wait => exact absurd (Or.inr (Or.inr mode)) rests
  | suspending => rfl
  | suspended => rfl
  | idle => rfl
  | faulted => rfl

theorem State.suspendLane_status (s : State) (l : LaneId) : (s.suspendLane l).2 = suspendStatus (s.lane l).mode := by
  unfold State.suspendLane
  cases (s.lane l).mode <;> rfl

/-- LANE SUSPEND changes lanes alone. -/
theorem State.suspendLane_same (s : State) (l : LaneId) : (s.suspendLane l).1 = { s with lanes := (s.suspendLane l).1.lanes } := by
  by_cases works : (s.lane l).mode.suspends
  · rw [State.suspendLane_of_suspends works]
    rfl
  · rw [State.suspendLane_of_not_suspends works]

theorem suspendLane_own : LaneAct.Own State.suspendLane suspendStatus where
  other s l m apart := by
    by_cases works : (s.lane l).mode.suspends
    · rw [State.suspendLane_of_suspends works, State.modLane_lane_other s _ apart]
    · rw [State.suspendLane_of_not_suspends works]
  enabled s l := by
    rw [State.suspendLane_same]
    rfl
  status := State.suspendLane_status

theorem State.suspendLane_lane_of_suspends (works : (s.lane l).mode.suspends) : (s.suspendLane l).1.lane l = (s.lane l).suspend := by
  rw [State.suspendLane_of_suspends works, State.modLane_lane_same]

/-- LANE SUSPEND for a lane value changes lanes alone. -/
theorem State.suspendValue_same (s : State) (b : Byte) :
    (s.onLaneValue State.suspendLane b).1 = { s with lanes := (s.onLaneValue State.suspendLane b).1.lanes } := by
  have all (ls : List LaneId) (s : State) : s.actEnabled State.suspendLane ls = { s with lanes := (s.actEnabled State.suspendLane ls).lanes } := by
    unfold State.actEnabled
    induction ls generalizing s with
    | nil => rfl
    | cons l ls ih =>
      rw [List.foldl_cons, ih]
      split
      · rw [State.suspendLane_same]
      · rfl
  unfold State.onLaneValue
  split
  · exact State.suspendLane_same s _
  · split
    · rw [suspendLane_own.onAllLanes]
      exact all allLanes s
    · rfl

theorem namedBy_of_laneParam {b : Byte} {k : LaneId} (names : laneParam b = some k) : s.namedBy b l ↔ l = k := by
  have byte : b = byteOf k.val := by
    unfold laneParam at names
    split at names
    · cases names
      simp [byteOf]
    · cases names
  subst byte
  constructor
  · rintro (same | ⟨all, _⟩)
    · have : laneParam (byteOf k.val) = laneParam (byteOf l.val) := by rw [same]
      rw [laneParam_byteOf, laneParam_byteOf] at this
      exact (Option.some.inj this).symm
    · exact absurd all (byteOf_lane_ne_four k)
  · rintro rfl
    exact Or.inl rfl

theorem namedBy_of_no_lane {b : Byte} (names : laneParam b = none) : s.namedBy b l ↔ b = 0x04#8 ∧ s.laneEnabled l = true := by
  constructor
  · rintro (same | all)
    · rw [same, laneParam_byteOf] at names
      cases names
    · exact all
  · exact Or.inr

/-- LANE SUSPEND for a lane value suspends the lanes it names that work, and leaves every other as it was. -/
theorem State.suspendValue_lane (s : State) (b : Byte) (l : LaneId) :
    (s.namedBy b l ∧ (s.lane l).mode.suspends → (s.onLaneValue State.suspendLane b).1.lane l = (s.lane l).suspend) ∧
      (¬ (s.namedBy b l ∧ (s.lane l).mode.suspends) → (s.onLaneValue State.suspendLane b).1.lane l = s.lane l) := by
  unfold State.onLaneValue
  cases names : laneParam b with
  | some k =>
    rw [namedBy_of_laneParam names]
    show (_ → (s.suspendLane k).1.lane l = _) ∧ (_ → (s.suspendLane k).1.lane l = _)
    refine ⟨?_, fun other => ?_⟩
    · rintro ⟨rfl, works⟩
      exact State.suspendLane_lane_of_suspends works
    · by_cases same : l = k
      · subst same
        rw [State.suspendLane_of_not_suspends fun works => other ⟨rfl, works⟩]
      · exact suspendLane_own.other s k l same
  | none =>
    rw [namedBy_of_no_lane names]
    dsimp only
    split
    · next four =>
      rw [suspendLane_own.onAllLanes]
      obtain ⟨u, before, after⟩ := suspendLane_own.actEnabled_lane (ls := allLanes) (by decide) (mem_allLanes l) s
      rw [after]
      refine ⟨fun asked => ?_, fun other => ?_⟩
      · rw [if_pos asked.1.2, State.suspendLane_lane_of_suspends (by rw [before]; exact asked.2), before]
      · split
        · next enabled => rw [State.suspendLane_of_not_suspends fun works => other ⟨⟨four, enabled⟩, by rw [← before]; exact works⟩, before]
        · rfl
    · next notFour => exact ⟨fun asked => absurd asked.1.1 notFour, fun _ => rfl⟩

theorem Lane.suspend_isEmpty (L : Lane) : L.isEmpty = true ↔ L.tokens = [] ∧ L.inFlight = [] := by
  simp [Lane.isEmpty]

/-- A suspended lane holds the feed, and its FEED_SLOW stays. -/
theorem Lane.settle_suspend {L : Lane} (slow : L.entry.feedSlow = L.entry.feedSlowRule) :
    L.suspend.settle =
      { L with
        mode := if L.tokens = [] ∧ L.inFlight = [] then .suspended else .suspending
        feedHold := true
        returnToWait := L.returnToWait || decide (L.mode = .wait) } := by
  have mode : L.suspend.mode = if L.tokens = [] ∧ L.inFlight = [] then .suspended else .suspending :=
    if_congr (Lane.suspend_isEmpty L) rfl rfl
  have hold : L.suspend.feedHoldRule = true := by
    have notRunning : L.suspend.mode ≠ .running := by
      rw [mode]
      split <;> decide
    rw [Lane.feedHoldRule, decide_eq_false notRunning]
    rfl
  have entry : { L.entry with feedSlow := L.entry.feedSlowRule } = L.entry := by rw [← slow]
  show ({ L.suspend with feedHold := L.suspend.feedHoldRule, entry := { L.entry with feedSlow := L.entry.feedSlowRule } } : Lane) = _
  rw [hold, entry, ← mode]
  rfl

theorem State.linesFollow_dequeued (lines : s.linesFollow) : s.dequeued.linesFollow :=
  State.linesFollow_congr lines (fun _ => Lane.sameLines_refl _) ⟨rfl, rfl, rfl, rfl⟩ ⟨rfl, rfl, rfl⟩ ⟨rfl, rfl⟩

theorem lanesSuspended {v : State} (lines : s.linesFollow) (b : Byte)
    (lanes : ∀ l, v.lane l = ((s.onLaneValue State.suspendLane b).1.lane l).settle) : LanesSuspended (s.namedBy b) s v := by
  intro l L asked
  obtain ⟨suspended, kept⟩ := s.suspendValue_lane b l
  refine ⟨fun yes => ?_, fun no => ?_⟩
  · rw [lanes l, suspended yes]
    exact Lane.settle_suspend (lines.1 l).2
  · rw [lanes l, kept no]
    exact Lane.settle_of_linesFollow lines l

end Suspend

theorem exec_laneSuspend (s : State) : exec .laneSuspend s = request .laneSuspend laneSuspendAct s := rfl

/-- The status that the answer of all lanes shows for LANE SUSPEND. -/
theorem suspendStatus_word (m : LaneMode) :
    wordOf (suspendStatus m).code.toNat = if m = .idle ∨ m = .faulted then 4#16 else 0#16 := by
  cases m <;> decide

/-- The response depends on the state by the station address alone. -/
theorem response_congr {u v : State} {t : Telegram} {a b : Answer} (address : u.ring.address = v.ring.address) (same : a = b) :
    (u.respond t a).settle.ring.response = (v.respond t b).ring.response := by
  have telegram (u : State) (a : Answer) : (u.respond t a).ring.response =
      some ⟨withCrc ⟨Kind.response.code, t.src, addressByte u.ring.address, 0x00#8, responseBody t.body a, 0#16⟩, a.ordersReset⟩ := rfl
  rw [State.settle_ring]
  show (u.respond t a).ring.response = _
  rw [telegram, telegram, address, same]

/-- Settles O57: a single lane by its state, all lanes, and a value that names none. -/
theorem laneSuspendActs : Obligations.LaneSuspendActs := by
  intro s t h b value lines ready body rest works after
  have code : Request.ofCode (codeByte t.body) = some .laneSuspend := by rw [body]; exact Request.ofCode_code .laneSuspend
  have length : t.body.length = Request.bodyLength t.body .laneSuspend := by rw [body]; rfl
  have act : laneSuspendAct (t.body.drop 3) s.dequeued = s.dequeued.onLaneValue State.suspendLane value := by rw [body]; rfl
  rw [exec_laneSuspend]
  refine ⟨?one, ?all, ?above⟩
  case one =>
    rintro l rfl
    have done := act.trans (State.onLaneValue_lane l)
    refine ⟨fun working => ?_, fun suspends => ?_, fun refuses => ?_⟩
    · have state : (s.dequeued.suspendLane l).1 = s.dequeued.modLane l Lane.suspend := State.suspendLane_of_suspends working
      have status : (s.dequeued.suspendLane l).2 = .ok := by
        rw [State.suspendLane_status]
        obtain mode | mode | mode := working <;> exact (congrArg suspendStatus mode).trans rfl
      have mode : (s.lane l).suspend.mode = rest l := if_congr (Lane.suspend_isEmpty _) rfl rfl
      have word : (s.dequeued.modLane l Lane.suspend).laneWord l = wordOf (rest l).code := by
        rw [State.laneWord, State.modLane_lane_same]
        exact congrArg (fun m : LaneMode => wordOf m.code) mode
      rw [request_act laneSuspendAct ready code length, done, state, status, State.laneAnswer, word]
      have lane (f : Lane → Lane) (m : LaneId) : (s.dequeued.modLane l f).lanes[m] = if m = l then f (s.lane l) else s.lane m :=
        State.modLane_lane s.dequeued l m f
      refine congrArg _ (State.settle_lanes_answered (U := (s.dequeued.modLane l Lane.suspend).lanes)
        (V := (s.dequeued.modLane l fun _ => after l).lanes) lines t _ (fun m => ?_) fun m => ?_)
      · rw [lane]
        split
        · next same =>
          subst same
          have notFaulted : rest m ≠ .faulted := by
            show (if _ then _ else _) ≠ _
            split <;> decide
          refine ⟨fun faulted => absurd faulted notFaulted, fun faulted => ?_⟩
          obtain mode | mode | mode := working <;> rw [faulted] at mode <;> cases mode
        · rfl
      · rw [lane, lane]
        split
        · exact Lane.settle_suspend (lines.1 l).2
        · exact Lane.settle_of_linesFollow lines m
    · have answers : laneSuspendAct (t.body.drop 3) s.dequeued = (s.dequeued, answer .ok [wordOf (s.lane l).mode.code]) := by
        have state : s.dequeued.suspendLane l = (s.dequeued, .ok) := by
          unfold State.suspendLane
          obtain mode | mode := suspends <;> rw [show (s.dequeued.lane l).mode = _ from mode]
        rw [done, state]
        rfl
      exact request_answers lines ready code length answers
    · have answers : laneSuspendAct (t.body.drop 3) s.dequeued = (s.dequeued, answer .wrongState [wordOf (s.lane l).mode.code]) := by
        have state : s.dequeued.suspendLane l = (s.dequeued, .wrongState) := by
          unfold State.suspendLane
          obtain mode | mode := refuses <;> rw [show (s.dequeued.lane l).mode = _ from mode]
        rw [done, state]
        rfl
      exact request_answers lines ready code length answers
  case all =>
    rintro rfl
    have done := act.trans State.onLaneValue_all
    have same := s.dequeued.suspendValue_same 0x04#8
    have suspended (v : State) (lanes : ∀ l, v.lane l = ((s.dequeued.onLaneValue State.suspendLane 0x04#8).1.lane l).settle) :=
      lanesSuspended (s := s.dequeued) (v := v) (State.linesFollow_dequeued lines) 0x04#8 lanes
    rw [request_act laneSuspendAct ready code length, done]
    rw [State.onLaneValue_all] at same suspended
    dsimp only at same suspended ⊢
    have named (l : LaneId) : s.namedBy 0x04#8 l ↔ s.laneEnabled l = true := by
      rw [namedBy_of_no_lane (by decide)]
      exact and_iff_right rfl
    have lanes := suspended (((s.dequeued.onAllLanes State.suspendLane).1.respond t (answer .ok (s.dequeued.onAllLanes State.suspendLane).2)).settle)
      fun l => State.settle_lane _ l
    refine ⟨_, rfl, fun l => ⟨fun asked => ?_, fun other => ?_⟩, ?_, ?_, ?_, ?_, ?_⟩
    · exact (lanes l).1 ⟨(named l).mpr asked.1, asked.2⟩
    · refine (lanes l).2 fun asked => ?_
      obtain off | rests := other
      · rw [(named l).mp asked.1] at off
        cases off
      · exact rests asked.2
    · exact (congrArg State.mem same).trans rfl
    · exact (congrArg State.places same).trans rfl
    · exact (congrArg State.track same).trans rfl
    · have kept : (s.dequeued.onAllLanes State.suspendLane).1.discharge = s.discharge := (congrArg State.discharge same).trans rfl
      obtain ⟨_, push, run, _, _⟩ := lines
      rw [State.settle_discharge]
      show ({ (s.dequeued.onAllLanes State.suspendLane).1.discharge with
        push := (s.dequeued.onAllLanes State.suspendLane).1.discharge.pushRule
        run := (s.dequeued.onAllLanes State.suspendLane).1.discharge.runRule } : Discharge) = _
      rw [kept, ← push, ← run]
    · have address : (s.dequeued.onAllLanes State.suspendLane).1.ring.address = s.ring.address := (congrArg (fun u : State => u.ring.address) same).trans rfl
      refine response_congr address (congrArg (answer .ok) ?_)
      rw [suspendLane_own.onAllLanes]
      refine List.flatMap_congr fun l _ => ?_
      rw [State.settle_lane, ← suspendStatus_word]
      rfl
  case above =>
    intro above
    exact request_answers lines ready code length (act.trans (State.onLaneValue_above above))

/-! ## CLEAR FAULT (R160) -/

section OneLane

variable {s : State} {b : Byte} {f : LaneId → State × Answer}

theorem onLane_of_lane (l : LaneId) : onLane (byteOf l.val) s f = f l := by rw [onLane, laneParam_byteOf]

theorem onLane_of_above (above : 3 < b.toNat) : onLane b s f = (s, answer .badParam []) := by rw [onLane, laneParam_of_above above]

end OneLane

/-- Settles O60: a FAULTED lane, a lane in another state, and a value that names no lane. -/
theorem clearFaultSuspends : Obligations.ClearFaultSuspends := by
  intro s t h b value lines ready body
  have code : Request.ofCode (codeByte t.body) = some .clearFault := by rw [body]; exact Request.ofCode_code .clearFault
  have length : t.body.length = Request.bodyLength t.body .clearFault := by rw [body]; rfl
  have act : clearFaultAct (t.body.drop 3) s.dequeued = onLane value s.dequeued s.dequeued.laneClearFault := by rw [body]; rfl
  have row : exec .clearFault s = request .clearFault clearFaultAct s := rfl
  rw [row]
  refine ⟨?lane, fun above => request_answers lines ready code length (act.trans (onLane_of_above above))⟩
  case lane =>
    rintro l rfl
    have done := act.trans (onLane_of_lane l)
    refine ⟨fun faulted => ?_, fun working => ?_⟩
    · have cleared : s.dequeued.laneClearFault l = (s.dequeued.modLane l Lane.clearFault).laneAnswer l .ok := if_pos faulted
      have word : (s.dequeued.modLane l Lane.clearFault).laneWord l = 5#16 := by
        rw [State.laneWord, State.modLane_lane_same]
        rfl
      rw [request_act clearFaultAct ready code length, done, cleared, State.laneAnswer, word]
      rfl
    · exact request_answers lines ready code length (done.trans (if_neg working))

end Sys2Proof.Machine
end


section
/-!
# LANE START and LANE STOP (R148, R149, R155)

What a claim leaves alone; the steps of LANE START up to its claim, and its refusals; the aborts of LANE STOP item by item.
-/

namespace Sys2Proof.Machine

/-! ## What a claim leaves alone -/

theorem State.zeroEntryCounts_same (s : State) (e : EntryId) : s.zeroEntryCounts e = { s with mem := (s.zeroEntryCounts e).mem } := by
  unfold State.zeroEntryCounts
  generalize [6, 7, 8, 9, 10, 11] = ks
  induction ks generalizing s with
  | nil => rfl
  | cons k ks ih => exact (ih (s.setEntryWord e k 0#16)).trans rfl

theorem State.takeEntry_same (s : State) (l : LaneId) (e : EntryId) :
    s.takeEntry l e = { s with lanes := (s.takeEntry l e).lanes, mem := (s.takeEntry l e).mem } := by
  have writes (u : State) (f : Lane → Lane) (same : u = { s with mem := u.mem }) :
      u.modLane l f = { s with lanes := (u.modLane l f).lanes, mem := (u.modLane l f).mem } := by
    have own : u.modLane l f = { u with lanes := (u.modLane l f).lanes } := rfl
    rw [own, same]
  exact writes _ _ (State.zeroEntryCounts_same _ e)

/-- What a claim at the cursor of a lane leaves alone: it may add an item to the lane's list, write its entry, and raise BAD_ENTRY. -/
structure ClaimStep (l : LaneId) (s t : State) : Prop where
  other : ∀ m, m ≠ l → t.lane m = s.lane m
  own : t.lane l = { s.lane l with openList := (t.lane l).openList }
  same : t = { s with
    lanes := t.lanes, mem := t.mem
    ring := { s.ring with reportQueue := t.ring.reportQueue }
    tables := { s.tables with warnings := t.tables.warnings } }
  plan : PlanKept s t

section Claim

variable {s : State} {l : LaneId}

theorem State.claim_reports (cannot : s.canClaim l = false) : Reports s (s.claim l) := by
  rw [State.claim, if_neg (by simp [cannot])]
  split
  · exact Reports.raise s _ _
  · exact Reports.refl s

theorem ClaimStep.claim (l : LaneId) (s : State) : ClaimStep l s (s.claim l) := by
  have plan := (Inside.claim l s).beside.plan
  by_cases can : s.canClaim l = true
  · have taken := State.claim_of_can can
    refine ⟨fun m apart => ?_, ?_, ?_, plan⟩
    · rw [taken, State.takeEntry_lane_other s _ apart]
    · rw [taken, State.takeEntry_lane_same]
    · rw [taken, State.takeEntry_same]
  · have reports := State.claim_reports (Bool.eq_false_iff.mpr can)
    refine ⟨fun m _ => reports.lane m, by rw [reports.lane l], ?_, plan⟩
    obtain ⟨more, ws, _, eq⟩ := reports
    rw [eq]

end Claim

/-- Operations for a lane leave the station address. -/
theorem Inside.address {l : LaneId} {s t : State} (h : Inside l s t) : t.ring.address = s.ring.address := by
  obtain ⟨reports, ring⟩ := h.ring
  rw [ring]

/-! ## LANE START (R148, R149) -/

section Start

variable {s : State} {t : Telegram} {h b : Byte} {l : LaneId} {e : EntryId}

theorem entryParam_byteOf (e : EntryId) : entryParam (byteOf e.val) = some e := by
  have value : (byteOf e.val).toNat = e.val := by
    rw [byteOf, BitVec.toNat_ofNat]
    omega
  simp [entryParam, value]

theorem entryParam_of_above {b : Byte} (above : 63 < b.toNat) : entryParam b = none := dif_neg (by omega)

theorem exec_laneStart (s : State) : exec .laneStart s = request .laneStart laneStartAct s := rfl

theorem State.laneStart_of_fit (idle : (s.lane l).mode = .idle) (config : s.configFit l = true) (places : s.placesFit l = true) :
    s.laneStart l e = (s.startLane l e).laneAnswer l .ok := by
  rw [State.laneStart, if_neg (not_not.mpr idle), if_neg (by simp [config]), if_neg (by simp [places])]

/-- The lane made ready, with the list that the claim leaves it, RUNNING when the claim claims and else DRY. -/
theorem State.startLane_lane (s : State) (l : LaneId) (e : EntryId) :
    (s.startLane l e).lane l =
      { (s.prepareLane l e).lane l with
        openList := (((s.prepareLane l e).claim l).lane l).openList
        mode := if (s.prepareLane l e).canClaim l then .running else .dry } := by
  unfold State.startLane State.startClaim State.setMode
  rw [State.modLane_lane_same, (ClaimStep.claim l (s.prepareLane l e)).own]

theorem State.prepareLane_lane (s : State) (l : LaneId) (e : EntryId) :
    (s.prepareLane l e).lane l =
      { s.lane l with
        entry := { (s.lane l).entry with spacing := .normal, shortCount := 0, goodCount := 0, lastTrailing := none }
        held := s.placeList l
        starved := false
        waitPending := false
        ringStart := e
        cursor := e } :=
  State.modLane_lane_same s l _

theorem State.canClaim_prepareLane (s : State) (l : LaneId) (e : EntryId) :
    (s.prepareLane l e).canClaim l = (s.claimable e && decide ((s.lane l).openList.length < Config.openListCap)) := by
  rw [State.canClaim, State.prepareLane_lane]
  rfl

end Start

/-- Settles O56: the steps of R149 with and without a claim; then the refusals in their order. -/
theorem laneStartActs : Obligations.LaneStartActs := by
  refine ⟨?starts, ?refused⟩
  case starts =>
    intro s t h b l e wf ready body idle config places
    have code : Request.ofCode (codeByte t.body) = some .laneStart := by rw [body]; exact Request.ofCode_code .laneStart
    have length : t.body.length = Request.bodyLength t.body .laneStart := by rw [body]; rfl
    have act : laneStartAct (t.body.drop 3) s.dequeued = (s.dequeued.startLane l e).laneAnswer l .ok := by
      have params : param (t.body.drop 3) 0 = byteOf l.val ∧ param (t.body.drop 3) 1 = byteOf e.val := by rw [body]; exact ⟨rfl, rfl⟩
      rw [laneStartAct, params.1, params.2, laneParam_byteOf, entryParam_byteOf]
      exact State.laneStart_of_fit idle config places
    have can := State.canClaim_prepareLane s.dequeued l e
    have step := ClaimStep.claim l (s.dequeued.prepareLane l e)
    have started := State.startLane_lane s.dequeued l e
    rw [State.prepareLane_lane] at started
    have lane (w : Answer) : (((s.dequeued.startLane l e).respond t w).settle.lane l) = ((s.dequeued.startLane l e).lane l).settle :=
      State.settle_lane _ l
    have stay : (s.dequeued.startLane l e).places = s.places := (congrArg State.places step.same).trans rfl
    have address : (s.dequeued.startLane l e).ring.address = s.ring.address := (congrArg (fun u : State => u.ring.address) step.same).trans rfl
    refine ⟨_, (exec_laneStart s).trans (request_act laneStartAct ready code length), ?_⟩
    have answers : (s.dequeued.startLane l e).laneAnswer l .ok = (s.dequeued.startLane l e, answer .ok [(s.dequeued.startLane l e).laneWord l]) := rfl
    rw [act, answers]
    dsimp only
    generalize answered : answer .ok [(s.dequeued.startLane l e).laneWord l] = w
    refine ⟨?_, ?_, ?_, ?_, ?_, ?_, stay, fun claimable room => ?_, fun unclaimable => ?_⟩
    · rw [lane, started]; rfl
    · rw [lane, started]; rfl
    · rw [lane, started]; rfl
    · rw [lane, started]; rfl
    · rw [lane, started]; rfl
    · rw [lane, started]; rfl
    · have claims : (s.dequeued.prepareLane l e).canClaim l = true := by
        rw [can]
        exact Bool.and_eq_true _ _ ▸ ⟨claimable, decide_eq_true room⟩
      have taken : (s.dequeued.prepareLane l e).claim l = (s.dequeued.prepareLane l e).takeEntry l e := by
        rw [State.claim_of_can claims, State.prepareLane_lane]
      have list : (((s.dequeued.prepareLane l e).claim l).lane l).openList = (s.lane l).openList ++ [⟨e, s.resolvedTarget e⟩] := by
        rw [taken, State.takeEntry_lane_same, State.prepareLane_lane]
        rfl
      have running : (s.dequeued.startLane l e).laneWord l = 1#16 := by
        rw [State.laneWord, started, if_pos claims]
        rfl
      have wf' : (s.dequeued.prepareLane l e).memWf := wf
      have word (k : Nat) : ((s.dequeued.startLane l e).respond t w).settle.entryWord e k =
          ((s.dequeued.prepareLane l e).takeEntry l e).entryWord e k := by
        rw [← taken]
        rfl
      refine ⟨?_, ?_, ?_, ?_, fun k low high => ?_, ?_, ?_⟩
      · rw [lane, started, if_pos claims]; rfl
      · rw [lane, started, if_pos claims]; rfl
      · unfold State.entryStatus
        rw [word]
        exact (State.entryStatus_takeEntry wf' l e e).trans (if_pos rfl)
      · rw [word, State.entryWord_takeEntry wf' l e e (by decide), if_pos rfl]
        rfl
      · rw [word, State.entryWord_takeEntry wf' l e e (by omega), if_pos rfl, if_neg (by omega), if_neg (by omega), if_pos low]
      · rw [lane, started, list]; rfl
      · exact response_congr address (by rw [← answered, running])
    · have claimsNot : (s.dequeued.prepareLane l e).canClaim l = false := by
        rw [can]
        exact Bool.and_eq_false_iff.mpr (Or.inl unclaimable)
      have reports := State.claim_reports claimsNot
      have list : (((s.dequeued.prepareLane l e).claim l).lane l).openList = (s.lane l).openList := by
        rw [reports.lane l, State.prepareLane_lane]
        rfl
      have dry : (s.dequeued.startLane l e).laneWord l = 2#16 := by
        rw [State.laneWord, started, if_neg (by simp [claimsNot])]
        rfl
      refine ⟨?_, ?_, ?_, reports.mem, ?_⟩
      · rw [lane, started, if_neg (by simp [claimsNot])]; rfl
      · rw [lane, started, if_neg (by simp [claimsNot])]; rfl
      · rw [lane, started, list]; rfl
      · exact response_congr address (by rw [← answered, dry])
  case refused =>
    intro s t h b lane start lines ready body
    have code : Request.ofCode (codeByte t.body) = some .laneStart := by rw [body]; exact Request.ofCode_code .laneStart
    have length : t.body.length = Request.bodyLength t.body .laneStart := by rw [body]; rfl
    have params : param (t.body.drop 3) 0 = lane ∧ param (t.body.drop 3) 1 = start := by rw [body]; exact ⟨rfl, rfl⟩
    rw [exec_laneStart]
    refine ⟨fun above => ?_, ?_⟩
    · refine request_answers lines ready code length ?_
      rw [laneStartAct, params.1, params.2]
      obtain above | above := above
      · rw [laneParam_of_above above]
      · rw [entryParam_of_above above]
        cases laneParam lane <;> rfl
    · rintro l rfl range
      have act : laneStartAct (t.body.drop 3) s.dequeued = s.dequeued.laneStart l ⟨start.toNat, by omega⟩ := by
        have entry : entryParam start = some ⟨start.toNat, by omega⟩ := dif_pos (by omega)
        rw [laneStartAct, params.1, params.2, laneParam_byteOf, entry]
      refine ⟨fun busy => ?_, fun idle config => ?_, fun idle config places => ?_⟩
      · exact request_answers lines ready code length (act.trans (if_pos busy))
      · have word : s.dequeued.laneWord l = 0#16 := congrArg (fun m : LaneMode => wordOf m.code) idle
        have atRest : ¬ (s.dequeued.lane l).mode ≠ .idle := not_not.mpr idle
        refine request_answers lines ready code length (act.trans ((if_neg atRest).trans ((if_pos config).trans ?_)))
        rw [State.laneAnswer, word]
      · have word : s.dequeued.laneWord l = 0#16 := congrArg (fun m : LaneMode => wordOf m.code) idle
        have fit : ¬ s.dequeued.configFit l = false := by
          rw [Bool.not_eq_false]
          exact config
        have atRest : ¬ (s.dequeued.lane l).mode ≠ .idle := not_not.mpr idle
        refine request_answers lines ready code length (act.trans ((if_neg atRest).trans ((if_neg fit).trans ((if_pos places).trans ?_))))
        rw [State.laneAnswer, word]

/-! ## LANE STOP (R155, R139) -/

theorem Quiet.entryWord {s t : State} (h : Quiet s t) (f : EntryId) {k : Nat} (inEntry : k < 11) : t.entryWord f k = s.entryWord f k :=
  h.read _ fun e => by
    unfold pageBase
    omega

theorem Quiet.writtenBackAborted {s t : State} (h : Quiet s t) {f : EntryId} (done : s.writtenBackAborted f) : t.writtenBackAborted f := by
  unfold State.writtenBackAborted State.entryStatus State.entryValid at done ⊢
  rwa [h.entryWord f (by decide)]

theorem Quiet.openList {s t : State} (h : Quiet s t) (l : LaneId) : (t.lane l).openList = (s.lane l).openList := by rw [h.lanes l]

/-- An item aborted: its report and its lot steps change neither the list nor a status. -/
theorem State.closeItem_quiet (s : State) (l : LaneId) (it : OpenItem) (st : EntryStatus) :
    Quiet (s.writeBackEntry it.entry st) (s.closeItem l it st) :=
  (Quiet.notifyEntry _ l it st).trans (Quiet.addToLot _ l it.entry)

/-- Every item of the list is aborted and gone from it (R139). -/
theorem State.abortItems (items : List OpenItem) {s : State} {l : LaneId} (wf : s.memWf) (list : (s.lane l).openList = items) :
    ((items.foldl (fun s it => s.abortHead l it) s).lane l).openList = [] ∧ (items.foldl (fun s it => s.abortHead l it) s).memWf ∧
      ∀ f, ((∃ it ∈ items, it.entry = f) ∨ s.writtenBackAborted f) →
        (items.foldl (fun s it => s.abortHead l it) s).writtenBackAborted f := by
  induction items generalizing s with
  | nil =>
    refine ⟨list, wf, fun f done => done.resolve_left ?_⟩
    rintro ⟨it, listed, _⟩
    cases listed
  | cons it items ih =>
    have quiet := s.closeItem_quiet l it .aborted
    have wrote : (s.writeBackEntry it.entry .aborted).memWf := writeBackEntry_memWf wf it.entry .aborted
    have rest : ((s.abortHead l it).lane l).openList = items := by
      unfold State.abortHead State.dropHead
      rw [State.modLane_lane_same]
      show ((s.closeItem l it .aborted).lane l).openList.tail = items
      rw [quiet.openList l]
      show (s.lane l).openList.tail = items
      rw [list]
      rfl
    have aborted (f : EntryId) (done : f = it.entry ∨ s.writtenBackAborted f) : (s.abortHead l it).writtenBackAborted f :=
      quiet.writtenBackAborted (writtenBackAborted_writeBack wf it.entry f done)
    obtain ⟨empty, kept, all⟩ := ih (s := s.abortHead l it) (quiet.wf wrote) rest
    refine ⟨empty, kept, fun f done => all f ?_⟩
    obtain ⟨x, listed, rfl⟩ | before := done
    · rcases List.mem_cons.mp listed with rfl | later
      · exact Or.inr (aborted x.entry (Or.inl rfl))
      · exact Or.inl ⟨x, later, rfl⟩
    · exact Or.inr (aborted f (Or.inr before))

/-- The Lot Sequencer's part of LANE STOP: the list emptied, its entries ABORTED, the lot closed, wait-pending no (R139). -/
theorem State.abortLane_leaves {s : State} {l : LaneId} (wf : s.memWf) :
    ((s.abortLane l).lane l).openList = [] ∧ ((s.abortLane l).lane l).lot.inProgress = false ∧
      ((s.abortLane l).lane l).waitPending = false ∧
      ∀ it ∈ (s.lane l).openList, (s.abortLane l).writtenBackAborted it.entry := by
  obtain ⟨empty, _, aborted⟩ := State.abortItems (s.lane l).openList wf rfl
  unfold State.abortLane
  dsimp only
  generalize (s.lane l).openList.foldl (fun s it => s.abortHead l it) s = u at empty aborted ⊢
  have pending (v : State) : (v.setWaitPending l false).lane l = { v.lane l with waitPending := false } := State.modLane_lane_same v l _
  rw [pending]
  split
  · have quiet := Quiet.reportLot u l fun a => { a with stopped := true }
    refine ⟨(quiet.openList l).trans empty, ?_, rfl, fun it listed => quiet.writtenBackAborted (aborted it.entry (Or.inl ⟨it, listed, rfl⟩))⟩
    unfold State.reportLot State.modLot
    rw [State.modLane_lane_same]
  · next closed => exact ⟨empty, Bool.eq_false_iff.mpr closed, rfl, fun it listed => aborted it.entry (Or.inl ⟨it, listed, rfl⟩)⟩

/-- A lane without a record routed to its FILLING place has none after it is closed short (R106). -/
theorem State.closeFilling_leaves_none {s : State} {l : LaneId} (places : s.placesCoherent) (inbound : s.inboundCoherent)
    (empty : (s.lane l).inFlight = []) {p : PlaceId} (filling : ((s.closeFilling l).place p).state = .filling) :
    ((s.closeFilling l).place p).lane ≠ some l := by
  intro own
  obtain ⟨before, lane⟩ := (Quiet.closeFilling s l).places.filling p filling
  rw [own] at lane
  have listed : p ∈ allPlaces := by fin_cases p <;> decide
  have found : s.fillingPlace l = some p := by
    cases search : s.fillingPlace l with
    | none =>
      have := List.find?_eq_none.mp search p listed
      simp [before, ← lane] at this
    | some q =>
      obtain ⟨fillingQ, laneQ⟩ := of_decide_eq_true (List.find?_some (p := fun p => decide ((s.place p).state = .filling ∧ (s.place p).lane = some l)) search)
      rw [places.2.1 q p fillingQ before (laneQ.trans lane)]
  have unmarked : (s.place p).inbound = false := by
    cases marked : (s.place p).inbound with
    | false => rfl
    | true =>
      obtain ⟨_, m, laneM, r, flying, _⟩ := inbound.1 p marked
      have same : m = l := Option.some.inj (laneM.symm.trans lane.symm)
      rw [same, empty] at flying
      cases flying
  have closed : s.closeFilling l = s.shortClose p := by rw [State.closeFilling, found]
  rw [closed] at filling
  exact State.shortClose_not_filling before unmarked filling

/-- The lane IDLE, with its lines (R155, R19, R88). -/
theorem State.enterIdle_leaves (u : State) (l : LaneId) (t : Telegram) (w : Answer) :
    let v := ((u.enterIdle l).respond t w).settle
    (v.lane l).mode = .idle ∧ (v.lane l).openList = (u.lane l).openList ∧ (v.lane l).lot = (u.lane l).lot ∧
      (v.lane l).waitPending = (u.lane l).waitPending ∧ (v.lane l).returnToWait = false ∧ (v.lane l).feedHold = true ∧
      (v.lane l).entry.openPiece = none ∧ (v.lane l).entry.blockedTarget = none ∧ (v.lane l).exit.arrival = .absent ∧
      (v.lane l).exit.blockedTarget = none ∧ (v.lane l).exit.route = .overflow := by
  intro v
  have own : (u.enterIdle l).lane l =
      { u.lane l with
        mode := .idle
        returnToWait := false
        entry := { (u.lane l).entry with openPiece := none, blockedTarget := none }
        exit := { (u.lane l).exit with arrival := .absent, blockedTarget := none, route := .overflow } } := by
    unfold State.enterIdle State.holdEdges
    rw [State.modLane_lane_same, State.modLane_lane_same]
  have lane : v.lane l = ((u.enterIdle l).lane l).settle := State.settle_lane _ l
  rw [lane, own]
  exact ⟨rfl, rfl, rfl, rfl, rfl, rfl, rfl, rfl, rfl, rfl, rfl⟩

theorem exec_laneStop (s : State) : exec .laneStop s = request .laneStop laneStopAct s := rfl

/-- Settles O59: a SUSPENDED lane by the steps of R155, a lane in another state, and a value that names no lane. -/
theorem laneStopAborts : Obligations.LaneStopAborts := by
  refine ⟨?lane, ?above⟩
  case above =>
    intro s t h b value lines ready body above
    have code : Request.ofCode (codeByte t.body) = some .laneStop := by rw [body]; exact Request.ofCode_code .laneStop
    have act : laneStopAct (t.body.drop 3) s.dequeued = onLane value s.dequeued s.dequeued.laneStop := by rw [body]; rfl
    exact request_answers (act := laneStopAct) lines ready code (by rw [body]; rfl) (act.trans (onLane_of_above above))
  case lane =>
    intro s t h b l lines wf ready body
    have code : Request.ofCode (codeByte t.body) = some .laneStop := by rw [body]; exact Request.ofCode_code .laneStop
    have length : t.body.length = Request.bodyLength t.body .laneStop := by rw [body]; rfl
    have act : laneStopAct (t.body.drop 3) s.dequeued = s.dequeued.laneStop l := by
      have params : laneStopAct (t.body.drop 3) s.dequeued = onLane (byteOf l.val) s.dequeued s.dequeued.laneStop := by rw [body]; rfl
      rw [params, onLane_of_lane]
    rw [exec_laneStop]
    refine ⟨fun suspended => ?stops, fun other => request_answers lines ready code length (act.trans (if_neg other))⟩
    case stops =>
      have stopped : s.dequeued.laneStop l = (s.dequeued.stopLane l).laneAnswer l .ok := if_pos suspended
      have closed := Quiet.closeFilling s.dequeued l
      have wf' : s.dequeued.memWf := wf
      obtain ⟨list, lot, pending, aborted⟩ := State.abortLane_leaves (l := l) (closed.wf wf')
      have loose := Loose.abortLane (s.dequeued.closeFilling l) l
      have inside : Inside l s.dequeued (s.dequeued.stopLane l) :=
        (Inside.closeFilling l l _).trans ((Inside.abortLane l _).trans ((Inside.ofLane l _ _).trans (Inside.holdEdges l _)))
      have kept (u : State) (w : Answer) (e : EntryId) (done : u.writtenBackAborted e) :
          ((u.enterIdle l).respond t w).settle.writtenBackAborted e := done
      have answered : (s.dequeued.stopLane l).laneAnswer l .ok = (s.dequeued.stopLane l, answer .ok [(s.dequeued.stopLane l).laneWord l]) := rfl
      have word : (s.dequeued.stopLane l).laneWord l = 0#16 := by
        unfold State.stopLane State.enterIdle State.holdEdges State.laneWord
        rw [State.modLane_lane_same, State.modLane_lane_same]
        rfl
      rw [request_act laneStopAct ready code length, act, stopped, answered]
      dsimp only
      rw [word]
      have none (places : s.placesCoherent) (inbound : s.inboundCoherent) (rest : s.restCoherent) (p : PlaceId)
          (filling : (((s.dequeued.closeFilling l).abortLane l).place p).state = .filling) :
          (((s.dequeued.closeFilling l).abortLane l).place p).lane ≠ some l := by
        have empty : (s.lane l).inFlight = [] := (rest l (Or.inr suspended)).2
        obtain ⟨before, laneSame⟩ := loose.places.filling p filling
        have notBefore : ((s.dequeued.closeFilling l).place p).lane ≠ some l :=
          State.closeFilling_leaves_none (s := s.dequeued) places inbound empty before
        exact fun some => notBefore (laneSame.symm.trans some)
      have unfolded : s.dequeued.stopLane l = ((s.dequeued.closeFilling l).abortLane l).enterIdle l := rfl
      rw [unfolded] at inside ⊢
      generalize (s.dequeued.closeFilling l).abortLane l = u at *
      obtain ⟨idle, openList, lotSame, waits, returns, hold, piece, target, arrival, exitTarget, route⟩ :=
        u.enterIdle_leaves l t (answer .ok [0#16])
      refine ⟨_, rfl, idle, openList.trans list, (congrArg Lot.inProgress lotSame).trans lot, waits.trans pending, returns, hold, piece, target,
        arrival, exitTarget, route, fun it listed => ?_, none, response_congr inside.address rfl⟩
      exact kept u _ it.entry (aborted it (by rw [closed.openList l]; exact listed))

end Sys2Proof.Machine
end


section
/-!
# LANE RESUME and LANE RELEASE (R151 to R154)

The return of a lane case by case; what the claims of several returns leave of each entry; the lanes named resumed in order; then the two
requests.
-/

namespace Sys2Proof.Machine

/-! ## The return of one lane (R151) -/

section Return

variable {s : State} {l : LaneId}

theorem State.returnLane_of_returnToWait (toWait : (s.lane l).returnToWait = true) :
    s.returnLane l = s.modLane l fun L => { L with mode := .wait, returnToWait := false } :=
  if_pos toWait

theorem State.returnLane_of_waitPending (notToWait : (s.lane l).returnToWait = false) (pending : (s.lane l).waitPending = true) :
    s.returnLane l = s.modLane l fun L => { L with mode := .wait, waitPending := false } := by
  rw [State.returnLane, if_neg (by simp [notToWait]), if_pos pending]

theorem State.returnLane_of_work (notToWait : (s.lane l).returnToWait = false) (notPending : (s.lane l).waitPending = false) :
    s.returnLane l = (s.reread l).setMode l (if s.hasWork l then .running else .dry) := by
  rw [State.returnLane, if_neg (by simp [notToWait]), if_neg (by simp [notPending])]

/-- With an ACTIVE entry the lane returns to RUNNING, and nothing else happens. -/
theorem State.returnLane_of_active (notToWait : (s.lane l).returnToWait = false) (notPending : (s.lane l).waitPending = false)
    (active : (s.activeEntry l).isSome = true) : s.returnLane l = s.setMode l .running := by
  rw [State.returnLane_of_work notToWait notPending, State.reread, if_pos active, State.hasWork, active]
  rfl

/-- With none it claims. -/
theorem State.returnLane_of_claim (notToWait : (s.lane l).returnToWait = false) (notPending : (s.lane l).waitPending = false)
    (inactive : s.activeEntry l = none) :
    s.returnLane l = (s.claim l).setMode l (if s.canClaim l then .running else .dry) := by
  rw [State.returnLane_of_work notToWait notPending, State.reread, if_neg (by simp [inactive]), State.hasWork, inactive]
  rfl

end Return

/-! ## The claims of several returns -/

/-- Of an entry that was not PENDING the status and the owner stay; a PENDING one may turn ACTIVE. -/
def ClaimsOn (s t : State) : Prop :=
  ∀ f, (t.entryWord f 0 = s.entryWord f 0 ∧ t.entryWord f 5 = s.entryWord f 5) ∨
    (s.entryStatus f = some .pending ∧ t.entryStatus f = some .active)

namespace ClaimsOn

variable {s t u : State}

theorem refl (s : State) : ClaimsOn s s := fun _ => Or.inl ⟨rfl, rfl⟩

theorem status (h : ClaimsOn s t) {f : EntryId} (fixed : s.entryStatus f ≠ some .pending) :
    t.entryStatus f = s.entryStatus f ∧ t.entryWord f 5 = s.entryWord f 5 := by
  obtain ⟨word, owner⟩ | ⟨pending, _⟩ := h f
  · exact ⟨State.entryStatus_of_word word, owner⟩
  · exact absurd pending fixed

theorem trans (h : ClaimsOn s t) (k : ClaimsOn t u) : ClaimsOn s u := by
  intro f
  obtain ⟨word, owner⟩ | ⟨pending, active⟩ := h f
  · obtain ⟨wordNext, ownerNext⟩ | ⟨pending, active⟩ := k f
    · exact Or.inl ⟨wordNext.trans word, ownerNext.trans owner⟩
    · exact Or.inr ⟨(State.entryStatus_of_word word).symm.trans pending, active⟩
  · have fixed : t.entryStatus f ≠ some .pending := by rw [active]; decide
    exact Or.inr ⟨pending, (k.status fixed).1.trans active⟩

/-- An entry that waits to be claimed has not been touched. -/
theorem untouched (h : ClaimsOn s t) {f : EntryId} (pending : t.entryStatus f = some .pending) : t.entryWord f 0 = s.entryWord f 0 := by
  obtain ⟨word, _⟩ | ⟨_, active⟩ := h f
  · exact word
  · rw [pending] at active
    cases active

theorem ofMem (same : t.mem = s.mem) : ClaimsOn s t := fun f => by
  have word (k : Nat) : t.entryWord f k = s.entryWord f k := congrArg (fun m : Mem => m.read (pageBase 4 + (12 * f.val + k))) same
  exact Or.inl ⟨word 0, word 5⟩

end ClaimsOn

/-- What the return of a lane leaves alone. -/
structure ReturnStep (l : LaneId) (s t : State) : Prop where
  other : ∀ m, m ≠ l → t.lane m = s.lane m
  same : t = { s with
    lanes := t.lanes, mem := t.mem
    ring := { s.ring with reportQueue := t.ring.reportQueue }
    tables := { s.tables with warnings := t.tables.warnings } }
  plan : PlanKept s t
  wf : s.memWf → t.memWf
  claims : s.memWf → ClaimsOn s t

section ReturnStep

variable {s t : State} {l : LaneId}

theorem State.entryStatus_of_canClaim (can : s.canClaim l = true) : s.entryStatus (s.lane l).cursor = some .pending := by
  obtain ⟨claimable, _⟩ := Bool.and_eq_true _ _ ▸ can
  obtain ⟨waits, _⟩ := Bool.and_eq_true _ _ ▸ claimable
  exact of_decide_eq_true (Bool.and_eq_true _ _ ▸ waits).2

theorem ClaimsOn.claim (wf : s.memWf) (l : LaneId) : ClaimsOn s (s.claim l) := by
  by_cases can : s.canClaim l = true
  · intro f
    rw [State.claim_of_can can]
    by_cases same : f = (s.lane l).cursor
    · rw [same]
      exact Or.inr ⟨State.entryStatus_of_canClaim can, (State.entryStatus_takeEntry wf l _ _).trans (if_pos rfl)⟩
    · exact Or.inl ⟨by rw [State.entryWord_takeEntry wf l _ f (by decide), if_neg same],
        by rw [State.entryWord_takeEntry wf l _ f (by decide), if_neg same]⟩
  · exact ClaimsOn.ofMem (State.claim_reports (Bool.eq_false_iff.mpr can)).mem

theorem ReturnStep.refl (l : LaneId) (s : State) : ReturnStep l s s := ⟨fun _ _ => rfl, rfl, PlanKept.refl s, id, fun _ => ClaimsOn.refl s⟩

theorem ReturnStep.modLane (h : ReturnStep l s t) (f : Lane → Lane) : ReturnStep l s (t.modLane l f) where
  other m apart := (State.modLane_lane_other t f apart).trans (h.other m apart)
  same := by
    have own : t.modLane l f = { t with lanes := (t.modLane l f).lanes } := rfl
    rw [own, h.same]
  plan := h.plan
  wf := h.wf
  claims := h.claims

theorem ReturnStep.claim (l : LaneId) (s : State) : ReturnStep l s (s.claim l) where
  other := (ClaimStep.claim l s).other
  same := (ClaimStep.claim l s).same
  plan := (ClaimStep.claim l s).plan
  wf := (Steady.claim s l).wf
  claims wf := ClaimsOn.claim wf l

theorem ReturnStep.returnLane (l : LaneId) (s : State) : ReturnStep l s (s.returnLane l) := by
  have reread : ReturnStep l s (s.reread l) := by
    unfold State.reread
    split
    · exact ReturnStep.refl l s
    · exact ReturnStep.claim l s
  unfold State.returnLane
  split
  · exact (ReturnStep.refl l s).modLane _
  · split
    · exact (ReturnStep.refl l s).modLane _
    · exact reread.modLane _

end ReturnStep

/-! ## What a claim reads -/

section Plan

variable {s u : State} {l : LaneId} {e : EntryId}

theorem PlanKept.word (plan : PlanKept s u) {page offset : Nat} (listed : page ∈ [0, 1, 2, 3, 5]) (inPage : offset < 1024) :
    u.word page offset = s.word page offset := plan _ (planned_page listed inPage)

theorem PlanKept.entryWord (plan : PlanKept s u) (e : EntryId) {k : Nat} (listed : k ∈ [1, 2, 3, 4]) : u.entryWord e k = s.entryWord e k :=
  plan _ (planned_entry e listed)

theorem PlanKept.articleWord (plan : PlanKept s u) {article k : Nat} (range : article ≤ 63) (field : k < 8) :
    u.articleWord article k = s.articleWord article k := by
  unfold State.articleWord
  rw [plan.word (by decide) (by omega)]

theorem PlanKept.articleValid (plan : PlanKept s u) {article : Nat} (range : article ≤ 63) : u.articleValid article = s.articleValid article := by
  unfold State.articleValid
  rw [plan.word (by decide) (by omega)]
  simp only [plan.articleWord range (show 1 < 8 by decide), plan.articleWord range (show 2 < 8 by decide),
    plan.articleWord range (show 3 < 8 by decide), plan.articleWord range (show 4 < 8 by decide),
    plan.articleWord range (show 5 < 8 by decide), plan.articleWord range (show 6 < 8 by decide)]

theorem PlanKept.entryArticle (plan : PlanKept s u) (e : EntryId) : u.entryArticle e = s.entryArticle e :=
  congrArg BitVec.toNat (plan.entryWord e (by decide))

theorem PlanKept.resolvedTarget (plan : PlanKept s u) (range : s.entryArticle e ≤ 63) : u.resolvedTarget e = s.resolvedTarget e := by
  unfold State.resolvedTarget
  rw [plan.entryWord e (k := 4) (by decide), plan.entryArticle, plan.articleWord range (by decide)]

/-- The tests of R123 on the article, the quota and the target read planned words alone. -/
theorem PlanKept.planValid (plan : PlanKept s u) (e : EntryId) : u.planValid e = s.planValid e := by
  have quota : u.entryQuota e = s.entryQuota e := congrArg BitVec.toNat (plan.entryWord e (k := 3) (by decide))
  unfold State.planValid
  rw [quota, plan.entryArticle]
  by_cases range : 1 ≤ s.entryArticle e ∧ s.entryArticle e ≤ 63
  · rw [plan.articleValid range.2, plan.resolvedTarget range.2]
  · simp only [decide_eq_false range, Bool.false_and]

theorem State.planValid_article (valid : s.planValid e = true) : s.entryArticle e ≤ 63 := by
  unfold State.planValid at valid
  simp only [Bool.and_eq_true, decide_eq_true_eq] at valid
  exact valid.1.1.1.2

theorem PlanKept.claimable (plan : PlanKept s u) (word : u.entryWord e 0 = s.entryWord e 0) : u.claimable e = s.claimable e := by
  unfold State.claimable State.entryWaits State.entryValid State.entryStatus
  rw [word, plan.planValid]

/-- A claim is the same in a state that keeps the plan, the status of the entry at the cursor, and the lane. -/
theorem PlanKept.canClaim (plan : PlanKept s u) (lane : u.lane l = s.lane l)
    (word : u.entryWord (s.lane l).cursor 0 = s.entryWord (s.lane l).cursor 0) : u.canClaim l = s.canClaim l := by
  unfold State.canClaim
  rw [lane, plan.claimable word]

/-- A lane whose items are claimed keeps its ACTIVE entry through the claims of other lanes. -/
theorem ClaimsOn.activeEntry (claims : ClaimsOn s u) (lane : u.lane l = s.lane l)
    (claimed : ∀ it ∈ (s.lane l).openList, s.entryStatus it.entry ≠ some .pending) : u.activeEntry l = s.activeEntry l := by
  unfold State.activeEntry
  rw [lane]
  cases last : (s.lane l).openList.getLast? with
  | none => rfl
  | some it =>
    dsimp only
    rw [(claims.status (claimed it (List.mem_of_getLast? last))).1]

end Plan

/-! ## LANE RESUME of one lane (R152) -/

/-- The states in which LANE RESUME returns a lane. -/
def LaneMode.resumes (m : LaneMode) : Prop := m = .suspending ∨ m = .suspended

/-- The status of a LANE RESUME by the state of the lane. -/
def resumeStatus (m : LaneMode) : Status := if m = .suspending ∨ m = .suspended then .ok else .wrongState

section Resume

variable {s u : State} {l : LaneId} {named : LaneId → Prop}

theorem State.resumeLane_of_resumes (rests : (s.lane l).mode.resumes) : (s.resumeLane l).1 = s.returnLane l := by
  unfold State.resumeLane
  obtain mode | mode := rests <;> rw [mode]

theorem State.resumeLane_of_not_resumes (works : ¬ (s.lane l).mode.resumes) : (s.resumeLane l).1 = s := by
  unfold State.resumeLane
  cases mode : (s.lane l).mode with
  | suspending => exact absurd (Or.inl mode) works
  | suspended => exact absurd (Or.inr mode) works
  | _ => rfl

theorem State.resumeLane_status (s : State) (l : LaneId) : (s.resumeLane l).2 = resumeStatus (s.lane l).mode := by
  unfold State.resumeLane
  cases (s.lane l).mode <;> rfl

theorem ReturnStep.resumeLane (l : LaneId) (s : State) : ReturnStep l s (s.resumeLane l).1 := by
  by_cases rests : (s.lane l).mode.resumes
  · rw [State.resumeLane_of_resumes rests]
    exact ReturnStep.returnLane l s
  · rw [State.resumeLane_of_not_resumes rests]
    exact ReturnStep.refl l s

theorem resumeLane_own : LaneAct.Own State.resumeLane resumeStatus where
  other s l := (ReturnStep.resumeLane l s).other
  enabled s l := (ReturnStep.resumeLane l s).plan.word (by decide) (by decide)
  status := State.resumeLane_status

/-! ## The lanes named, in order (R154) -/

/-- The state after the lanes `done` of those named have been resumed, before another is: what the ones to come find. -/
structure ResumedBefore (named : LaneId → Prop) (done : List LaneId) (s u : State) : Prop where
  lanes : ∀ m, m ∉ done → u.lane m = s.lane m
  plan : PlanKept s u
  wf : u.memWf
  claims : ClaimsOn s u
  claimed : ∀ f, s.entryStatus f = some .pending → u.entryStatus f ≠ some .pending →
    ∃ m ∈ done, s.seeksWork named m ∧ s.activeEntry m = none ∧ s.canClaim m = true ∧ (s.lane m).cursor = f
  tried : ∀ m ∈ done, s.seeksWork named m → s.activeEntry m = none → s.canClaim m = true →
    u.entryStatus (s.lane m).cursor ≠ some .pending

/-- Every item on a list is claimed, so that none of them is PENDING. -/
def State.itemsClaimed (s : State) : Prop := ∀ l, ∀ it ∈ (s.lane l).openList, s.entryStatus it.entry ≠ some .pending

theorem State.lotRingBalances.itemsClaimed (balances : s.lotRingBalances) : s.itemsClaimed := by
  intro l it listed pending
  have claimed := (balances.2.2.1 l it.entry (List.mem_map_of_mem listed)).1
  rw [pending] at claimed
  cases claimed

/-- A claim that claims is of the lane's cursor. -/
theorem State.claim_untouched (wf : s.memWf) {f : EntryId} (pending : s.entryStatus f = some .pending)
    (touched : (s.claim l).entryStatus f ≠ some .pending) : s.canClaim l = true ∧ (s.lane l).cursor = f := by
  by_cases can : s.canClaim l = true
  · refine ⟨can, by_contra fun apart => touched ?_⟩
    rw [State.claim_of_can can, State.entryStatus_takeEntry wf, if_neg (Ne.symm apart)]
    exact pending
  · have same := (State.claim_reports (Bool.eq_false_iff.mpr can)).mem
    refine absurd ?_ touched
    have word : (s.claim l).entryWord f 0 = s.entryWord f 0 := congrArg (fun m : Mem => m.read (pageBase 4 + (12 * f.val + 0))) same
    exact (State.entryStatus_of_word word).trans pending

namespace ResumedBefore

variable {done : List LaneId}

theorem start (wf : s.memWf) : ResumedBefore named [] s s where
  lanes _ _ := rfl
  plan := PlanKept.refl s
  wf := wf
  claims := ClaimsOn.refl s
  claimed f pending touched := absurd pending touched
  tried m listed := by cases listed

variable (before : ResumedBefore named done s u) (fresh : l ∉ done) (items : s.itemsClaimed)

include before fresh items

theorem activeEntry : u.activeEntry l = s.activeEntry l := before.claims.activeEntry (before.lanes l fresh) (items l)

omit items in
/-- A claim that still claims would have claimed before. -/
theorem canClaim_of (can : u.canClaim l = true) : s.canClaim l = true := by
  have pending := State.entryStatus_of_canClaim can
  rw [before.lanes l fresh] at pending
  rw [← before.plan.canClaim (before.lanes l fresh) (before.claims.untouched pending)]
  exact can

/-- The next lane named is resumed. -/
theorem next (isNamed : named l) : ResumedBefore named (done ++ [l]) s (u.resumeLane l).1 := by
  have step := ReturnStep.resumeLane l u
  have lane := before.lanes l fresh
  have claims := step.claims before.wf
  refine ⟨fun m apart => ?_, fun a planned => (step.plan a planned).trans (before.plan a planned), step.wf before.wf, before.claims.trans claims,
    fun f pending touched => ?_, fun m listed seeks inactive can => ?_⟩
  · rw [List.mem_append, not_or, List.mem_singleton] at apart
    rw [step.other m apart.2, before.lanes m apart.1]
  · by_cases earlier : u.entryStatus f = some .pending
    · -- this lane's return claimed it
      have rests : (u.lane l).mode.resumes := by_contra fun works => touched (by rw [State.resumeLane_of_not_resumes works]; exact earlier)
      rw [State.resumeLane_of_resumes rests] at touched
      have kept (f : Lane → Lane) (e : EntryId) : (u.modLane l f).entryStatus e = u.entryStatus e := rfl
      have notToWait : (u.lane l).returnToWait = false := Bool.eq_false_iff.mpr fun toWait =>
        touched (by rw [State.returnLane_of_returnToWait toWait, kept]; exact earlier)
      have notPending : (u.lane l).waitPending = false := Bool.eq_false_iff.mpr fun waits =>
        touched (by rw [State.returnLane_of_waitPending notToWait waits, kept]; exact earlier)
      have inactive : u.activeEntry l = none := by
        cases active : u.activeEntry l with
        | none => rfl
        | some e =>
          refine absurd ?_ touched
          rw [State.returnLane_of_active notToWait notPending (by rw [active]; rfl)]
          exact earlier
      rw [State.returnLane_of_claim notToWait notPending inactive] at touched
      obtain ⟨can, cursor⟩ := State.claim_untouched before.wf earlier touched
      refine ⟨l, List.mem_append_right _ (List.mem_singleton_self l), ⟨isNamed, ?_, ?_, ?_⟩, ?_, before.canClaim_of fresh can, ?_⟩
      · rw [← lane]; exact rests
      · rw [← lane]; exact notToWait
      · rw [← lane]; exact notPending
      · rw [← before.activeEntry fresh items]; exact inactive
      · rw [← lane]; exact cursor
    · obtain ⟨m, listed, seeks⟩ := before.claimed f pending earlier
      exact ⟨m, List.mem_append_left _ listed, seeks⟩
  · rcases List.mem_append.mp listed with earlier | last
    · have fixed := before.tried m earlier seeks inactive can
      rw [(claims.status fixed).1]
      exact fixed
    · rw [List.mem_singleton] at last
      subst last
      by_cases earlier : u.entryStatus (s.lane m).cursor = some .pending
      · obtain ⟨_, rests, notToWait, notPending⟩ := seeks
        rw [← lane] at rests notToWait notPending
        have canNow : u.canClaim m = true := by
          rw [before.plan.canClaim lane (before.claims.untouched earlier)]
          exact can
        have none : u.activeEntry m = none := (before.activeEntry fresh items).trans inactive
        rw [State.resumeLane_of_resumes rests, State.returnLane_of_claim notToWait notPending none, State.claim_of_can canNow]
        have taken : (u.takeEntry m (u.lane m).cursor).entryStatus (s.lane m).cursor = some .active := by
          rw [lane, State.entryStatus_takeEntry before.wf, if_pos rfl]
        show (u.takeEntry m (u.lane m).cursor).entryStatus (s.lane m).cursor ≠ _
        rw [taken]
        decide
      · rw [(claims.status earlier).1]
        exact earlier

end ResumedBefore

theorem Lane.settle_of_rules {L : Lane} (hold : L.feedHold = L.feedHoldRule) (slow : L.entry.feedSlow = L.entry.feedSlowRule) : L.settle = L := by
  unfold Lane.settle
  rw [← hold, ← slow]

/-- A lane that is not RUNNING holds the feed. -/
theorem Lane.feedHoldRule_of_not_running {L : Lane} (rests : L.mode ≠ .running) : L.feedHoldRule = true := by
  rw [Lane.feedHoldRule, decide_eq_false rests]
  rfl

/-- A lane resting in a state that holds the feed is settled when it comes to another such state. -/
theorem Lane.settle_rests {L M : Lane} (lines : L.feedHold = L.feedHoldRule ∧ L.entry.feedSlow = L.entry.feedSlowRule)
    (before : L.mode ≠ .running) (after : M.mode ≠ .running) (entry : M.entry = L.entry) (hold : M.feedHold = L.feedHold) : M.settle = M := by
  refine Lane.settle_of_rules ?_ ?_
  · rw [hold, lines.1, Lane.feedHoldRule_of_not_running before, Lane.feedHoldRule_of_not_running after]
  · rw [entry]
    exact lines.2

/-- A lane that comes to RUNNING holds the feed while it is starved. -/
theorem Lane.settle_runs {L M : Lane} (slow : L.entry.feedSlow = L.entry.feedSlowRule) (mode : M.mode = .running) (entry : M.entry = L.entry) :
    M.settle = { M with feedHold := M.starved } := by
  have hold : M.feedHoldRule = M.starved := by
    rw [Lane.feedHoldRule, decide_eq_true mode]
    simp
  have kept : { M.entry with feedSlow := M.entry.feedSlowRule } = M.entry := by rw [entry, ← slow]
  show ({ M with feedHold := M.feedHoldRule, entry := { M.entry with feedSlow := M.entry.feedSlowRule } } : Lane) = _
  rw [hold, kept]

theorem LaneMode.resumes.not_running {m : LaneMode} (rests : m.resumes) : m ≠ .running := by
  obtain rfl | rfl := rests <;> decide

theorem State.setMode_entryWord (s : State) (l : LaneId) (m : LaneMode) (e : EntryId) (k : Nat) :
    (s.setMode l m).entryWord e k = s.entryWord e k := rfl

theorem State.setMode_entryStatus (s : State) (l : LaneId) (m : LaneMode) (e : EntryId) : (s.setMode l m).entryStatus e = s.entryStatus e := rfl

/-- The lane resumed, its lines settled, by the cases of R151. -/
theorem ResumedBefore.resumed {done : List LaneId} (before : ResumedBefore named done s u) (fresh : l ∉ done)
    (earlier : ∀ m, named m → (m ∈ done ↔ m < l)) (items : s.itemsClaimed)
    (lines : (s.lane l).feedHold = (s.lane l).feedHoldRule ∧ (s.lane l).entry.feedSlow = (s.lane l).entry.feedSlowRule) :
    let L := s.lane l
    let M := ((u.resumeLane l).1.lane l).settle
    (¬ L.mode.resumes → M = L) ∧
    (L.mode.resumes → L.returnToWait = true → M = { L with mode := .wait, returnToWait := false }) ∧
    (L.mode.resumes → L.returnToWait = false → L.waitPending = true → M = { L with mode := .wait, waitPending := false }) ∧
    (s.seeksWork named l → (s.activeEntry l).isSome = true → M = { L with mode := .running, feedHold := L.starved }) ∧
    (s.seeksWork named l → s.claimsOnReturn named l →
      M = { L with
        mode := .running, feedHold := L.starved
        openList := L.openList ++ [⟨L.cursor, s.resolvedTarget L.cursor⟩] } ∧
      (u.resumeLane l).1.entryStatus L.cursor = some .active ∧ (u.resumeLane l).1.entryWord L.cursor 5 = wordOf l.val) ∧
    (s.seeksWork named l → s.activeEntry l = none → ¬ s.claimsOnReturn named l → M = { L with mode := .dry }) := by
  intro L M
  have lane : u.lane l = L := before.lanes l fresh
  have active := before.activeEntry fresh items
  refine ⟨fun works => ?works, fun rests toWait => ?toWait, fun rests notToWait pending => ?pending, fun seeks some => ?active,
    fun seeks claims => ?claims, fun seeks inactive claimsNot => ?dry⟩
  case works =>
    have kept : M = (u.lane l).settle := by
      show ((u.resumeLane l).1.lane l).settle = _
      rw [State.resumeLane_of_not_resumes (by rw [lane]; exact works)]
    rw [kept, lane]
    exact Lane.settle_of_rules lines.1 lines.2
  case toWait =>
    have came : (u.resumeLane l).1.lane l = { L with mode := .wait, returnToWait := false } := by
      rw [State.resumeLane_of_resumes (by rw [lane]; exact rests), State.returnLane_of_returnToWait (by rw [lane]; exact toWait),
        State.modLane_lane_same, lane]
    show ((u.resumeLane l).1.lane l).settle = _
    rw [came]
    exact Lane.settle_rests lines rests.not_running LaneMode.noConfusion rfl rfl
  case pending =>
    have came : (u.resumeLane l).1.lane l = { L with mode := .wait, waitPending := false } := by
      rw [State.resumeLane_of_resumes (by rw [lane]; exact rests),
        State.returnLane_of_waitPending (by rw [lane]; exact notToWait) (by rw [lane]; exact pending), State.modLane_lane_same, lane]
    show ((u.resumeLane l).1.lane l).settle = _
    rw [came]
    exact Lane.settle_rests lines rests.not_running LaneMode.noConfusion rfl rfl
  case active =>
    obtain ⟨_, rests, notToWait, notPending⟩ := seeks
    have came : (u.resumeLane l).1.lane l = { L with mode := .running } := by
      rw [State.resumeLane_of_resumes (by rw [lane]; exact rests),
        State.returnLane_of_active (by rw [lane]; exact notToWait) (by rw [lane]; exact notPending) (by rw [active]; exact some),
        State.setMode, State.modLane_lane_same, lane]
    show ((u.resumeLane l).1.lane l).settle = _
    rw [came]
    exact Lane.settle_runs lines.2 rfl rfl
  case claims =>
    obtain ⟨_, rests, notToWait, notPending⟩ := seeks
    obtain ⟨inactive, can, alone⟩ := claims
    have waiting : u.entryStatus L.cursor = some .pending := by
      by_contra touched
      obtain ⟨m, listed, seeksM, inactiveM, canM, cursorM⟩ := before.claimed L.cursor (State.entryStatus_of_canClaim can) touched
      exact alone m ((earlier m seeksM.1).mp listed) seeksM inactiveM canM cursorM
    have canNow : u.canClaim l = true := (before.plan.canClaim lane (before.claims.untouched waiting)).trans can
    have none : u.activeEntry l = none := active.trans inactive
    have came : (u.resumeLane l).1 = (u.takeEntry l L.cursor).setMode l .running := by
      rw [State.resumeLane_of_resumes (by rw [lane]; exact rests),
        State.returnLane_of_claim (by rw [lane]; exact notToWait) (by rw [lane]; exact notPending) none, State.claim_of_can canNow,
        if_pos canNow, lane]
    have target : u.resolvedTarget L.cursor = s.resolvedTarget L.cursor := by
      obtain ⟨claimable, _⟩ := Bool.and_eq_true _ _ ▸ can
      exact before.plan.resolvedTarget (State.planValid_article (Bool.and_eq_true _ _ ▸ claimable).2)
    have own : (u.resumeLane l).1.lane l =
        { L with mode := .running, openList := L.openList ++ [⟨L.cursor, s.resolvedTarget L.cursor⟩] } := by
      rw [came, State.setMode, State.modLane_lane_same, State.takeEntry_lane_same, lane, target]
    refine ⟨?_, ?_, ?_⟩
    · show ((u.resumeLane l).1.lane l).settle = _
      rw [own]
      exact Lane.settle_runs lines.2 rfl rfl
    · rw [came, State.setMode_entryStatus, State.entryStatus_takeEntry before.wf, if_pos rfl]
    · rw [came, State.setMode_entryWord, State.entryWord_takeEntry before.wf l _ _ (by decide), if_pos rfl]
      rfl
  case dry =>
    obtain ⟨_, rests, notToWait, notPending⟩ := seeks
    have cannot : u.canClaim l = false := by
      refine Bool.eq_false_iff.mpr fun canNow => claimsNot ⟨inactive, before.canClaim_of fresh canNow, fun m below seeksM inactiveM canM same => ?_⟩
      have waiting := State.entryStatus_of_canClaim canNow
      rw [lane] at waiting
      exact before.tried m ((earlier m seeksM.1).mpr below) seeksM inactiveM canM (by rw [same]; exact waiting)
    have none : u.activeEntry l = none := active.trans inactive
    have came : (u.resumeLane l).1.lane l = { L with mode := .dry } := by
      rw [State.resumeLane_of_resumes (by rw [lane]; exact rests),
        State.returnLane_of_claim (by rw [lane]; exact notToWait) (by rw [lane]; exact notPending) none, State.setMode, State.modLane_lane_same,
        (State.claim_reports cannot).lane l, lane, if_neg (by simp [cannot])]
    show ((u.resumeLane l).1.lane l).settle = _
    rw [came]
    exact Lane.settle_rests lines (LaneMode.resumes.not_running rests) LaneMode.noConfusion rfl rfl

/-- The lanes of a list resumed, in its order. -/
def State.resumeAll (s : State) (ls : List LaneId) : State := ls.foldl (fun s l => (s.resumeLane l).1) s

theorem ResumedBefore.all {ls done : List LaneId} (before : ResumedBefore named done s u) (names : ∀ m ∈ ls, named m) (once : (done ++ ls).Nodup)
    (items : s.itemsClaimed) : ResumedBefore named (done ++ ls) s (u.resumeAll ls) := by
  induction ls generalizing done u with
  | nil => rw [List.append_nil]; exact before
  | cons l ls ih =>
    have fresh : l ∉ done := fun listed => (List.nodup_append.mp once).2.2 l listed l List.mem_cons_self rfl
    have next := before.next fresh items (names l List.mem_cons_self)
    have shifted : done ++ l :: ls = done ++ [l] ++ ls := by simp
    rw [shifted] at once ⊢
    exact ih next (fun m listed => names m (List.mem_cons_of_mem _ listed)) once

/-- What the lanes that come later leave of a lane and of the claims made. -/
theorem State.resumeAll_later {ls : List LaneId} (wf : s.memWf) (outside : l ∉ ls) :
    (s.resumeAll ls).lane l = s.lane l ∧ ClaimsOn s (s.resumeAll ls) := by
  induction ls generalizing s with
  | nil => exact ⟨rfl, ClaimsOn.refl s⟩
  | cons m ls ih =>
    rw [List.mem_cons, not_or] at outside
    have step := ReturnStep.resumeLane m s
    obtain ⟨lane, claims⟩ := ih (s := (s.resumeLane m).1) (step.wf wf) outside.2
    exact ⟨lane.trans (step.other l outside.1), (step.claims wf).trans claims⟩

/-- The lanes of a list in rising order resumed, their lines settled: each by R151, the claims of the lanes before it made. -/
theorem lanesResumed_of_list {ls : List LaneId} {v : State} (rising : ls.Pairwise (· < ·)) (lines : s.linesFollow) (wf : s.memWf)
    (items : s.itemsClaimed) (lanes : ∀ l, v.lane l = ((s.resumeAll ls).lane l).settle)
    (words : ∀ e k, v.entryWord e k = (s.resumeAll ls).entryWord e k) : LanesResumed (· ∈ ls) s v := by
  intro l L asked
  have once : ls.Nodup := rising.imp fun below => ne_of_lt below
  by_cases listed : l ∈ ls
  · obtain ⟨front, back, rfl⟩ := List.append_of_mem listed
    obtain ⟨_, onceTail, apart⟩ := List.nodup_append.mp once
    have fresh : l ∉ front := fun early => apart l early l List.mem_cons_self rfl
    have later : l ∉ back := (List.nodup_cons.mp onceTail).1
    have onceFront : ([] ++ front).Nodup := (List.nodup_append.mp once).1
    have before := (ResumedBefore.start (named := (· ∈ front ++ l :: back)) wf).all
      (fun m early => List.mem_append_left _ early) onceFront items
    rw [List.nil_append] at before
    have order : ∀ m, m ∈ front ++ l :: back → (m ∈ front ↔ m < l) := by
      obtain ⟨_, risingTail, below⟩ := List.pairwise_append.mp rising
      intro m isListed
      refine ⟨fun early => below m early l List.mem_cons_self, fun low => ?_⟩
      rcases List.mem_append.mp isListed with early | rest
      · exact early
      · rcases List.mem_cons.mp rest with same | late
        · exact absurd low (same ▸ lt_irrefl m)
        · exact absurd low (not_lt_of_gt ((List.pairwise_cons.mp risingTail).1 m late))
    obtain ⟨works, toWait, pending, active, claims, dry⟩ := before.resumed fresh order items (lines.1 l)
    have after := State.resumeAll_later (l := l) ((ReturnStep.resumeLane l (s.resumeAll front)).wf before.wf) later
    have split : s.resumeAll (front ++ l :: back) = ((s.resumeAll front).resumeLane l).1.resumeAll back := by
      unfold State.resumeAll
      rw [List.foldl_append, List.foldl_cons]
    have lane : v.lane l = (((s.resumeAll front).resumeLane l).1.lane l).settle := by rw [lanes l, split, after.1]
    rw [lane]
    refine ⟨fun notAsked => works fun rests => notAsked ⟨listed, rests⟩, fun yes => toWait yes.2, fun yes => pending yes.2, active,
      fun seeks own => ?_, dry⟩
    obtain ⟨list, status, owner⟩ := claims seeks own
    have fixed : ((s.resumeAll front).resumeLane l).1.entryStatus L.cursor ≠ some .pending := by
      rw [status]
      decide
    obtain ⟨statusAfter, ownerAfter⟩ := after.2.status fixed
    refine ⟨list, ?_, ?_⟩
    · rw [State.entryStatus_of_word (words L.cursor 0), split, statusAfter, status]
    · rw [words, split, ownerAfter, owner]
  · have kept : v.lane l = L := by
      rw [lanes l, (State.resumeAll_later wf listed).1]
      exact Lane.settle_of_linesFollow lines l
    exact ⟨fun _ => kept, fun yes => absurd yes.1 listed, fun yes => absurd yes.1 listed, fun seeks => absurd seeks.1 listed,
      fun seeks => absurd seeks.1 listed, fun seeks => absurd seeks.1 listed⟩

end Resume

/-! ## The lanes that a lane value names -/

/-- The lanes that a lane value names, lane 0 first (R154). -/
def State.lanesNamed (s : State) (b : Byte) : List LaneId :=
  match laneParam b with
  | some l => [l]
  | none => if b = 0x04#8 then allLanes.filter s.laneEnabled else []

section Named

variable {s : State} {l : LaneId} {b : Byte}

theorem State.mem_lanesNamed : l ∈ s.lanesNamed b ↔ s.namedBy b l := by
  unfold State.lanesNamed
  cases names : laneParam b with
  | some k => rw [namedBy_of_laneParam names, List.mem_singleton]
  | none =>
    rw [namedBy_of_no_lane names]
    by_cases four : b = 0x04#8
    · simp [four, mem_allLanes]
    · simp [four]

theorem State.lanesNamed_rising (s : State) (b : Byte) : (s.lanesNamed b).Pairwise (· < ·) := by
  unfold State.lanesNamed
  split
  · exact List.pairwise_singleton _ _
  · split
    · exact List.Pairwise.filter _ (by decide)
    · exact List.Pairwise.nil

/-- Lanes enabled do not change under a request of this kind, so that the lanes can be picked beforehand. -/
theorem LaneAct.Own.actEnabled_filter {act : LaneAct} {status : LaneMode → Status} (own : LaneAct.Own act status) (ls : List LaneId) (s : State) :
    s.actEnabled act ls = (ls.filter s.laneEnabled).foldl (fun s l => (act s l).1) s := by
  unfold State.actEnabled
  induction ls generalizing s with
  | nil => rfl
  | cons l ls ih =>
    rw [List.foldl_cons, ih]
    by_cases enabled : s.laneEnabled l = true
    · have same : (act s l).1.laneEnabled = s.laneEnabled := funext fun m => own.laneEnabled s l m
      rw [if_pos enabled, List.filter_cons_of_pos enabled, List.foldl_cons, same]
    · rw [if_neg enabled, List.filter_cons_of_neg enabled]

theorem State.resumeValue_eq (s : State) (b : Byte) : (s.onLaneValue State.resumeLane b).1 = s.resumeAll (s.lanesNamed b) := by
  unfold State.onLaneValue State.lanesNamed
  cases laneParam b with
  | some l => rfl
  | none =>
    dsimp only
    split
    · rw [resumeLane_own.onAllLanes]
      exact resumeLane_own.actEnabled_filter allLanes s
    · rfl

/-- LANE RESUME for a lane value resumes the lanes it names, lane 0 first. -/
theorem lanesResumed {v : State} (lines : s.linesFollow) (wf : s.memWf) (items : s.itemsClaimed) (b : Byte)
    (lanes : ∀ l, v.lane l = ((s.onLaneValue State.resumeLane b).1.lane l).settle)
    (words : ∀ e k, v.entryWord e k = (s.onLaneValue State.resumeLane b).1.entryWord e k) : LanesResumed (s.namedBy b) s v := by
  have named : (· ∈ s.lanesNamed b) = s.namedBy b := funext fun l => propext State.mem_lanesNamed
  rw [State.resumeValue_eq] at lanes words
  rw [← named]
  exact lanesResumed_of_list (s.lanesNamed_rising b) lines wf items lanes words

/-- Places, outfeed and track stay, and so does the station address. -/
theorem ReturnStep.station {t : State} (h : ReturnStep l s t) :
    t.places = s.places ∧ t.track = s.track ∧ t.discharge = s.discharge ∧ t.ring.address = s.ring.address :=
  ⟨(congrArg State.places h.same).trans rfl, (congrArg State.track h.same).trans rfl, (congrArg State.discharge h.same).trans rfl,
    (congrArg (fun u : State => u.ring.address) h.same).trans rfl⟩

theorem State.resumeAll_station (ls : List LaneId) (s : State) :
    (s.resumeAll ls).places = s.places ∧ (s.resumeAll ls).track = s.track ∧ (s.resumeAll ls).discharge = s.discharge ∧
      (s.resumeAll ls).ring.address = s.ring.address := by
  induction ls generalizing s with
  | nil => exact ⟨rfl, rfl, rfl, rfl⟩
  | cons l ls ih =>
    obtain ⟨places, track, discharge, address⟩ := (ReturnStep.resumeLane l s).station
    obtain ⟨placesRest, trackRest, dischargeRest, addressRest⟩ := ih (s.resumeLane l).1
    exact ⟨placesRest.trans places, trackRest.trans track, dischargeRest.trans discharge, addressRest.trans address⟩

/-- A lane that is not resumed stays as it is. -/
theorem State.resumeAll_lane_kept (ls : List LaneId) (s : State) (other : l ∉ ls ∨ ¬ (s.lane l).mode.resumes) :
    (s.resumeAll ls).lane l = s.lane l := by
  induction ls generalizing s with
  | nil => rfl
  | cons m ls ih =>
    have kept : (s.resumeLane m).1.lane l = s.lane l := by
      by_cases same : l = m
      · subst same
        rw [State.resumeLane_of_not_resumes (other.resolve_left fun outside => outside List.mem_cons_self)]
      · exact (ReturnStep.resumeLane m s).other l same
    refine (ih (s.resumeLane m).1 ?_).trans kept
    rw [kept]
    exact other.imp_left fun outside listed => outside (List.mem_cons_of_mem _ listed)

end Named

/-! ## LANE RESUME and LANE RELEASE -/

section Requests

variable {s : State} {t : Telegram} {l : LaneId} {h b : Byte}

/-- The state in which the request returns the lane. -/
def returnAccepted (resume : Bool) (m : LaneMode) : Prop := if resume then m.resumes else m = .wait

/-- The row of LANE RESUME or of LANE RELEASE. -/
def returnRequest (resume : Bool) : Request := if resume then .laneResume else .laneRelease

theorem returnRequest_length (resume : Bool) {body : List Byte} {code value : Byte} (bytes : body = [code, h, b, value]) :
    body.length = (returnRequest resume).bodyLength body := by
  rw [bytes]
  cases resume <;> rfl

theorem returnRequest_code (resume : Bool) {value : Byte} :
    Request.ofCode (codeByte [if resume then 0x12#8 else 0x13#8, h, b, value]) = some (returnRequest resume) := by
  cases resume
  · exact Request.ofCode_code .laneRelease
  · exact Request.ofCode_code .laneResume

theorem returnRequest_act (resume : Bool) (s : State) (c h b : Byte) :
    (returnRequest resume).act ([c, h, b, byteOf l.val].drop 3) s =
      if resume then (s.resumeLane l).1.laneAnswer l (s.resumeLane l).2 else s.laneRelease l := by
  cases resume
  · exact onLane_of_lane l
  · exact State.onLaneValue_lane l

theorem returnRequest_accepted (resume : Bool) (c h b : Byte) (accepted : returnAccepted resume (s.lane l).mode) :
    (returnRequest resume).act ([c, h, b, byteOf l.val].drop 3) s = (s.returnLane l).laneAnswer l .ok := by
  rw [returnRequest_act]
  cases resume with
  | false => exact if_pos accepted
  | true =>
    have status : (s.resumeLane l).2 = .ok := by
      rw [State.resumeLane_status]
      exact if_pos accepted
    rw [if_pos rfl, status, State.resumeLane_of_resumes accepted]

theorem returnRequest_refused (resume : Bool) (c h b : Byte) (refused : ¬ returnAccepted resume (s.lane l).mode) :
    (returnRequest resume).act ([c, h, b, byteOf l.val].drop 3) s = (s, answer .wrongState [wordOf (s.lane l).mode.code]) := by
  rw [returnRequest_act]
  cases resume with
  | false => exact if_neg refused
  | true =>
    have status : (s.resumeLane l).2 = .wrongState := by
      rw [State.resumeLane_status]
      exact if_neg refused
    rw [if_pos rfl, status, State.resumeLane_of_not_resumes refused]
    rfl

theorem returnAccepted.not_running {resume : Bool} {m : LaneMode} (accepted : returnAccepted resume m) : m ≠ .running ∧ m ≠ .faulted := by
  cases resume
  · obtain rfl := accepted
    decide
  · obtain rfl | rfl := accepted <;> decide

end Requests

/-- Settles O58: the return of one lane by the cases of R151, of all lanes one after another, and the values that name no lane. -/
theorem laneReturns : Obligations.LaneReturns := by
  refine ⟨?one, ?all, ?release⟩
  case one =>
    intro s t h b l lines ready resume body command accepted
    have acceptedIff : returnAccepted resume (s.lane l).mode ↔ accepted := by cases resume <;> rfl
    have row : exec command s = request (returnRequest resume) (returnRequest resume).act s := by cases resume <;> rfl
    have code : Request.ofCode (codeByte t.body) = some (returnRequest resume) := by rw [body]; exact returnRequest_code resume
    have length := returnRequest_length resume body
    have carried (yes : accepted) : exec command s =
        .next (((s.dequeued.returnLane l).respond t (answer .ok [(s.dequeued.returnLane l).laneWord l])).settle) := by
      have act : (returnRequest resume).act (t.body.drop 3) s.dequeued = (s.dequeued.returnLane l).laneAnswer l .ok := by
        rw [body]
        exact returnRequest_accepted resume _ h b (acceptedIff.mpr yes)
      rw [row, request_act _ ready code length, act]
      rfl
    -- a return that changes the lane alone, and leaves it in a state that `settled` gives
    have returned (f : Lane → Lane) (g : Lane → Lane) (w : Word) (yes : accepted) (made : s.dequeued.returnLane l = s.dequeued.modLane l f)
        (code : wordOf (f (s.lane l)).mode.code = w) (unfaulted : (g (s.lane l)).mode ≠ .faulted)
        (settled : (f (s.lane l)).settle = g (s.lane l)) :
        exec command s = .next ((s.dequeued.modLane l g).respond t (answer .ok [w])) := by
      have word : (s.dequeued.modLane l f).laneWord l = w := by
        rw [State.laneWord, State.modLane_lane_same]
        exact code
      rw [carried yes, made, word]
      have lane (f : Lane → Lane) (m : LaneId) : (s.dequeued.modLane l f).lanes[m] = if m = l then f (s.lane l) else s.lane m :=
        State.modLane_lane s.dequeued l m f
      refine congrArg _ (State.settle_lanes_answered (U := (s.dequeued.modLane l f).lanes) (V := (s.dequeued.modLane l g).lanes) lines t _
        (fun m => ?_) fun m => ?_)
      · rw [lane]
        split
        · next same =>
          subst same
          exact ⟨fun faulted => absurd faulted unfaulted, fun faulted => absurd faulted (acceptedIff.mpr yes).not_running.2⟩
        · rfl
      · rw [lane, lane]
        split
        · exact settled
        · exact Lane.settle_of_linesFollow lines m
    refine ⟨fun yes toWait => ?_, fun yes notToWait pending => ?_, fun yes notToWait notPending active => ?_,
      fun yes notToWait notPending inactive => ?_, fun no => ?_⟩
    · exact returned _ _ _ yes (State.returnLane_of_returnToWait toWait) rfl LaneMode.noConfusion
        (Lane.settle_rests (lines.1 l) (acceptedIff.mpr yes).not_running.1 LaneMode.noConfusion rfl rfl)
    · exact returned _ _ _ yes (State.returnLane_of_waitPending notToWait pending) rfl LaneMode.noConfusion
        (Lane.settle_rests (lines.1 l) (acceptedIff.mpr yes).not_running.1 LaneMode.noConfusion rfl rfl)
    · exact returned _ _ _ yes (State.returnLane_of_active notToWait notPending active) rfl LaneMode.noConfusion
        (Lane.settle_runs (lines.1 l).2 rfl rfl)
    · have made : s.dequeued.returnLane l =
          (s.dequeued.claim l).modLane l fun L => { L with mode := if s.canClaim l then .running else .dry } :=
        State.returnLane_of_claim notToWait notPending inactive
      have word : (s.dequeued.returnLane l).laneWord l = if s.canClaim l then 1#16 else 2#16 := by
        rw [made, State.laneWord, State.modLane_lane_same]
        cases s.canClaim l <;> rfl
      rw [carried yes, word, made]
    · have act : (returnRequest resume).act (t.body.drop 3) s.dequeued = (s.dequeued, answer .wrongState [wordOf (s.lane l).mode.code]) := by
        rw [body]
        exact returnRequest_refused resume _ h b fun yes => no (acceptedIff.mp yes)
      rw [row]
      exact request_answers lines ready code length act
  case all =>
    intro s t h b value lines ready body
    have code : Request.ofCode (codeByte t.body) = some .laneResume := by rw [body]; exact Request.ofCode_code .laneResume
    have length : t.body.length = Request.bodyLength t.body .laneResume := by rw [body]; rfl
    have act : laneResumeAct (t.body.drop 3) s.dequeued = s.dequeued.onLaneValue State.resumeLane value := by rw [body]; rfl
    have row : exec .laneResume s = request .laneResume laneResumeAct s := rfl
    rw [row]
    refine ⟨fun above => request_answers lines ready code length (act.trans (State.onLaneValue_above above)), ?_⟩
    rintro rfl
    have whole := s.dequeued.resumeValue_eq 0x04#8
    have resumed (v : State) (wf : s.memWf) (balances : s.lotRingBalances)
        (lanes : ∀ l, v.lane l = ((s.dequeued.onLaneValue State.resumeLane 0x04#8).1.lane l).settle)
        (words : ∀ e k, v.entryWord e k = (s.dequeued.onLaneValue State.resumeLane 0x04#8).1.entryWord e k) :
        LanesResumed (s.namedBy 0x04#8) s v :=
      lanesResumed (s := s.dequeued) (State.linesFollow_dequeued lines) wf (State.lotRingBalances.itemsClaimed balances) 0x04#8 lanes words
    have named : s.namedBy 0x04#8 = fun l => s.laneEnabled l = true :=
      funext fun l => propext ((namedBy_of_no_lane (by decide)).trans (and_iff_right rfl))
    have all := State.onLaneValue_all (s := s.dequeued) (act := State.resumeLane)
    have words : (s.dequeued.onAllLanes State.resumeLane).2 =
        allLanes.flatMap (s.dequeued.laneWords (s.dequeued.onAllLanes State.resumeLane).1 resumeStatus) := by rw [resumeLane_own.onAllLanes]
    rw [all] at whole resumed
    rw [request_act laneResumeAct ready code length, act, all]
    dsimp only at whole resumed ⊢
    obtain ⟨places, track, discharge, address⟩ := State.resumeAll_station (s.dequeued.lanesNamed 0x04#8) s.dequeued
    have kept (l : LaneId) (other : l ∉ s.dequeued.lanesNamed 0x04#8 ∨ ¬ (s.lane l).mode.resumes) :=
      State.resumeAll_lane_kept (l := l) (s.dequeued.lanesNamed 0x04#8) s.dequeued other
    rw [← whole] at places track discharge address kept
    generalize s.dequeued.onAllLanes State.resumeLane = u at *
    refine ⟨_, rfl, places, track, ?_, fun l other => ?_, fun wf balances => ?_, ?_⟩
    · obtain ⟨_, push, run, _, _⟩ := lines
      rw [State.settle_discharge]
      show ({ u.1.discharge with push := u.1.discharge.pushRule, run := u.1.discharge.runRule } : Discharge) = _
      rw [discharge]
      show ({ s.discharge with push := s.discharge.pushRule, run := s.discharge.runRule } : Discharge) = _
      rw [← push, ← run]
    · rw [State.settle_lane]
      show (u.1.lane l).settle = _
      rw [kept l ?_]
      · exact Lane.settle_of_linesFollow lines l
      · obtain off | ⟨notSuspending, notSuspended⟩ := other
        · refine Or.inl fun listed => ?_
          have enabled : s.laneEnabled l = true := by
            have isNamed : s.namedBy 0x04#8 l := State.mem_lanesNamed.mp listed
            rw [named] at isNamed
            exact isNamed
          rw [enabled] at off
          cases off
        · exact Or.inr (not_or.mpr ⟨notSuspending, notSuspended⟩)
    · rw [← named]
      exact resumed _ wf balances (fun l => State.settle_lane _ l) fun _ _ => rfl
    · refine response_congr address (congrArg (answer .ok) (words.trans ?_))
      refine List.flatMap_congr fun l _ => ?_
      rw [State.settle_lane]
      have status : wordOf (resumeStatus (s.lane l).mode).code.toNat =
          if (s.lane l).mode = .suspending ∨ (s.lane l).mode = .suspended then 0#16 else 4#16 := by
        cases (s.lane l).mode <;> decide
      rw [← status]
      rfl
  case release =>
    intro s t h b value lines ready body above
    have code : Request.ofCode (codeByte t.body) = some .laneRelease := by rw [body]; exact Request.ofCode_code .laneRelease
    have act : laneReleaseAct (t.body.drop 3) s.dequeued = onLane value s.dequeued s.dequeued.laneRelease := by rw [body]; rfl
    exact request_answers (act := laneReleaseAct) lines ready code (by rw [body]; rfl) (act.trans (onLane_of_above above))

end Sys2Proof.Machine
end


section
/-!
# WRITE TABLE (R179, R185)

The words a body carries; a write that has the right leaves every other write right as it was; and the words written in order until one is
refused.
-/

namespace Sys2Proof.Machine

/-! ## The words of a body -/

theorem joinBytes_wordBytes (w : Word) : joinBytes (highByte w) (lowByte w) = w := by
  refine BitVec.eq_of_getLsbD_eq fun i inWord => ?_
  rw [joinBytes, BitVec.getLsbD_append, highByte, lowByte, BitVec.getLsbD_extractLsb', BitVec.getLsbD_extractLsb']
  by_cases low : i < 8
  · simp [low]
  · have high : i - 8 < 8 := by omega
    have back : 8 + (i - 8) = i := by omega
    simp [low, high, back]

/-- The bytes of the words, read two by two, are the words. -/
theorem getD_flatMap_wordBytes (ws : List Word) (i : Nat) (w : Word) (at_ : ws[i]? = some w) :
    (ws.flatMap wordBytes).getD (2 * i) 0x00#8 = highByte w ∧ (ws.flatMap wordBytes).getD (2 * i + 1) 0x00#8 = lowByte w := by
  induction ws generalizing i with
  | nil => cases at_
  | cons v ws ih =>
    cases i with
    | zero =>
      cases at_
      exact ⟨rfl, rfl⟩
    | succ i => exact ih i at_

theorem paramWord_wordBytes {ws : List Word} {i : Nat} {w : Word} (n : Byte) (at_ : ws[i]? = some w) :
    paramWord (n :: ws.flatMap wordBytes) (1 + 2 * i) = w := by
  obtain ⟨high, low⟩ := getD_flatMap_wordBytes ws i w at_
  have first : param (n :: ws.flatMap wordBytes) (1 + 2 * i) = highByte w := by
    rw [param, Nat.add_comm, List.getD_cons_succ, high]
  have second : param (n :: ws.flatMap wordBytes) (1 + 2 * i + 1) = lowByte w := by
    rw [param, List.getD_cons_succ, Nat.add_comm 1, low]
  rw [paramWord, first, second, joinBytes_wordBytes]

theorem wordParams_wordBytes (n : Byte) (ws : List Word) : wordParams (n :: ws.flatMap wordBytes) ws.length = ws := by
  refine List.ext_getElem? fun i => ?_
  unfold wordParams
  by_cases inList : i < ws.length
  · rw [List.getElem?_map, List.getElem?_range inList]
    exact (congrArg some (paramWord_wordBytes n (List.getElem?_eq_getElem inList))).trans (List.getElem?_eq_getElem inList).symm
  · rw [List.getElem?_eq_none (by simpa using inList), List.getElem?_eq_none (by omega)]

theorem length_flatMap_wordBytes (ws : List Word) : (ws.flatMap wordBytes).length = 2 * ws.length := by
  induction ws with
  | nil => rfl
  | cons w ws ih =>
    rw [List.flatMap_cons, List.length_append, ih, List.length_cons]
    show 2 + 2 * ws.length = 2 * (ws.length + 1)
    omega

/-! ## The place of a word -/

/-- The address of a place in table memory. -/
def Pointer.address (p : Pointer) : Nat := 1024 * p.page.val + p.offset.val

theorem Pointer.ahead_page (p : Pointer) (n : Nat) : (p.ahead n).page = p.page := by
  induction n with
  | zero => rfl
  | succ n ih => exact ih

theorem Pointer.ahead_offset (p : Pointer) (n : Nat) : (p.ahead n).offset.val = (p.offset.val + n) % 1024 := by
  induction n with
  | zero => exact (Nat.mod_eq_of_lt p.offset.isLt).symm
  | succ n ih =>
    have step : (p.ahead (n + 1)).offset = (p.ahead n).offset + 1 := rfl
    rw [step, Fin.val_add, ih]
    show ((p.offset.val + n) % 1024 + 1) % 1024 = _
    omega

/-- Within a page's length the places from a pointer on are distinct. -/
theorem Pointer.ahead_inj (p : Pointer) {i j : Nat} (hi : i < 1024) (hj : j < 1024) (same : (p.ahead i).offset.val = (p.ahead j).offset.val) : i = j := by
  rw [p.ahead_offset, p.ahead_offset] at same
  omega

/-! ## Write rights after a write -/

section Rights

variable {s : State} {p q : Pointer} {v w : Word}

/-- A write that has the right leaves it claimed or not as it was, whichever the entry. -/
theorem State.isClaimed_setWord (wf : s.memWf) (right : s.writable p v = true) (e : EntryId) :
    isClaimed ((s.setWord p.page.val p.offset.val v).entryStatus e) = isClaimed (s.entryStatus e) := by
  by_cases own : p.page.val = 4 ∧ p.offset.val = 12 * e.val
  · obtain ⟨page, offset⟩ := own
    have onRing : p.page = 4 := Fin.ext page
    rw [State.writable_ring onRing, State.ringWritable_iff] at right
    obtain ⟨free, unclaimed⟩ := right e (by omega) (by omega)
    have word : (s.setWord p.page.val p.offset.val v).entryWord e 0 = v := by
      rw [page, offset]
      exact State.word_setWord_same s wf 4 (12 * e.val) v
    rw [free, State.entryStatus, word]
    exact unclaimed offset
  · have word : (s.setWord p.page.val p.offset.val v).entryWord e 0 = s.entryWord e 0 := by
      refine State.word_setWord_other s v ?_
      have := p.offset.isLt
      have := e.isLt
      unfold pageBase
      omega
    rw [State.entryStatus_of_word word]

theorem State.writable_congr {t : State} (lanes : t.lanes = s.lanes) (claimed : ∀ e, isClaimed (t.entryStatus e) = isClaimed (s.entryStatus e)) :
    t.writable q w = s.writable q w := by
  have lane (l : LaneId) : t.lane l = s.lane l := congrArg (fun v : Vector Lane 4 => v[l]) lanes
  unfold State.writable State.allIdle State.rowWritable State.ringWritable
  simp only [lane, claimed]

theorem State.writable_writeAtPointer (wf : s.memWf) (right : s.writable s.tables.pointer v = true) :
    (s.writeAtPointer v).writable q w = s.writable q w :=
  State.writable_congr rfl (State.isClaimed_setWord wf right)

end Rights

/-! ## The words written in order -/

/-- Of the words to be written, the first `k` are stored in table memory `m`; the next, if there is one, is refused. -/
structure WordsWritten (s : State) (ws : List Word) (k : Nat) (m : Mem) : Prop where
  count : k ≤ ws.length
  rights : s.memWf → ∀ i w, i < k → ws[i]? = some w → s.writable (s.tables.pointer.ahead i) w = true
  refused : s.memWf → ∀ w, ws[k]? = some w → s.writable (s.tables.pointer.ahead k) w = false
  wf : s.memWf → m.wf
  stored : s.memWf → ∀ i w, i < k → ws[i]? = some w → m.read (s.tables.pointer.ahead i).address = w
  kept : ∀ a, (∀ i < k, a ≠ (s.tables.pointer.ahead i).address) → m.read a = s.mem.read a
  made : s.writeWords ws = ({ s with mem := m, tables := { s.tables with pointer := s.tables.pointer.ahead k } }, k)

theorem State.writeWords_written (s : State) {ws : List Word} (short : ws.length ≤ 16) : ∃ k m, WordsWritten s ws k m := by
  induction ws generalizing s with
  | nil =>
    refine ⟨0, s.mem, le_rfl, fun _ i w below => absurd below (Nat.not_lt_zero i), fun _ w at_ => (by cases at_), id,
      fun _ i w below => absurd below (Nat.not_lt_zero i), fun _ _ => rfl, rfl⟩
  | cons v ws ih =>
    rw [List.length_cons] at short
    by_cases right : s.writable s.tables.pointer v = true
    · obtain ⟨k, m, rest⟩ := ih (s.writeAtPointer v) (by omega)
      have pointer (i : Nat) : (s.writeAtPointer v).tables.pointer.ahead i = s.tables.pointer.ahead (i + 1) := s.tables.pointer.advance_ahead i
      have writes (wf : s.memWf) : (s.writeAtPointer v).memWf := State.setWord_wf wf s.tables.pointer.page.isLt s.tables.pointer.offset.isLt v
      refine ⟨k + 1, m, Nat.succ_le_succ rest.count, fun wf i w below at_ => ?rights, fun wf w at_ => ?refused, fun wf => rest.wf (writes wf),
        fun wf i w below at_ => ?stored, fun a apart => ?kept, ?made⟩
      case rights =>
        cases i with
        | zero =>
          cases at_
          exact right
        | succ i =>
          have later := rest.rights (writes wf) i w (Nat.lt_of_succ_lt_succ below) at_
          rw [pointer, State.writable_writeAtPointer wf right] at later
          exact later
      case refused =>
        have later := rest.refused (writes wf) w at_
        rw [pointer, State.writable_writeAtPointer wf right] at later
        exact later
      case stored =>
        cases i with
        | zero =>
          cases at_
          refine (rest.kept _ fun i below same => ?_).trans (State.word_setWord_same s wf _ _ _)
          have count := rest.count
          rw [pointer] at same
          unfold Pointer.address at same
          rw [Pointer.ahead_page, Pointer.ahead_page] at same
          have distinct := s.tables.pointer.ahead_inj (i := 0) (j := i + 1) (by omega) (by omega) (Nat.add_left_cancel same)
          omega
        | succ i =>
          have later := rest.stored (writes wf) i w (Nat.lt_of_succ_lt_succ below) at_
          rw [pointer] at later
          exact later
      case kept =>
        refine (rest.kept a fun i below => ?_).trans (Mem.read_write_other s.mem v (apart 0 (Nat.succ_pos k)))
        rw [pointer]
        exact apart (i + 1) (Nat.succ_lt_succ below)
      case made =>
        rw [State.writeWords, if_pos right, rest.made, pointer]
        rfl
    · refine ⟨0, s.mem, Nat.zero_le _, fun _ i w below => absurd below (Nat.not_lt_zero i), fun _ w at_ => ?_, id,
        fun _ i w below => absurd below (Nat.not_lt_zero i), fun _ _ => rfl, ?_⟩
      · cases at_
        exact Bool.eq_false_iff.mpr right
      · rw [State.writeWords, if_neg right]
        rfl

/-! ## The request -/

section Request

variable {s : State} {t : Telegram} {ps : List Byte}

theorem exec_writeTable (s : State) : exec .writeTable s = request .writeTable writeTableAct s := rfl

theorem writeTableAct_of_range (range : 1 ≤ (param ps 0).toNat ∧ (param ps 0).toNat ≤ 16) {k : Nat} {m : Mem}
    (written : WordsWritten s (wordParams ps (param ps 0).toNat) k m) :
    writeTableAct ps s =
      ({ s with mem := m, tables := { s.tables with pointer := s.tables.pointer.ahead k } },
        answer (if k = (param ps 0).toNat then .ok else .refusedWrite) [wordOf k]) := by
  have inRange : countInRange (param ps 0).toNat = true := decide_eq_true range
  rw [writeTableAct, if_pos inRange, written.made]

/-- A change of table memory and of the pointer leaves nothing to settle. -/
theorem State.settle_written (lines : s.linesFollow) (t : Telegram) (a : Answer) (m : Mem) (p : Pointer) :
    (({ s.dequeued with mem := m, tables := { s.tables with pointer := p } } : State).respond t a).settle =
      ({ s.dequeued with mem := m, tables := { s.tables with pointer := p } } : State).respond t a :=
  State.settle_congr lines (fun _ => Lane.sameLines_refl _) ⟨rfl, rfl, rfl, rfl⟩ ⟨rfl, rfl, rfl⟩ ⟨rfl, rfl⟩

end Request

/-- Settles O50: one word by its right, words in order by induction, and a count out of range. -/
theorem writeTableStoresWord : Obligations.WriteTableStoresWord := by
  intro s t h l lines ready
  refine ⟨fun high low body => ?one, fun n ws body count => ?many⟩
  case one =>
    have code : Request.ofCode (codeByte t.body) = some .writeTable := by rw [body]; exact Request.ofCode_code .writeTable
    have length : t.body.length = Request.bodyLength t.body .writeTable := by rw [body]; rfl
    have act : writeTableAct (t.body.drop 3) s.dequeued =
        ((s.dequeued.writeWords [high ++ low]).1,
          answer (if (s.dequeued.writeWords [high ++ low]).2 = 1 then .ok else .refusedWrite) [wordOf (s.dequeued.writeWords [high ++ low]).2]) := by
      rw [body]
      rfl
    rw [exec_writeTable]
    refine ⟨fun right => ?_, fun refused => ?_⟩
    · have wrote : s.dequeued.writeWords [high ++ low] = (s.dequeued.writeAtPointer (high ++ low), 1) := by
        rw [State.writeWords]
        exact if_pos right
      rw [request_act writeTableAct ready code length, act, wrote]
      exact congrArg _ (State.settle_written lines t _ (s.dequeued.writeAtPointer (high ++ low)).mem _)
    · have wrote : s.dequeued.writeWords [high ++ low] = (s.dequeued, 0) := by
        rw [State.writeWords]
        exact if_neg (Bool.eq_false_iff.mp refused)
      exact request_answers lines ready code length (act.trans (by rw [wrote]; rfl))
  case many =>
    have code : Request.ofCode (codeByte t.body) = some .writeTable := by rw [body]; exact Request.ofCode_code .writeTable
    have length : t.body.length = Request.bodyLength t.body .writeTable := by
      have bytes : countByte t.body = ws.length := by rw [body]; exact count
      show _ = 4 + 2 * countByte t.body
      rw [bytes, body, List.length_append, length_flatMap_wordBytes]
      rfl
    have params : t.body.drop 3 = n :: ws.flatMap wordBytes := by rw [body]; rfl
    have first : (param (t.body.drop 3) 0).toNat = ws.length := by rw [params]; exact count
    have words : wordParams (t.body.drop 3) (param (t.body.drop 3) 0).toNat = ws := by rw [first, params, wordParams_wordBytes]
    rw [exec_writeTable]
    refine ⟨fun low high => ?_, fun outside => ?_⟩
    · obtain ⟨k, m, written⟩ := s.dequeued.writeWords_written (ws := ws) high
      have act := writeTableAct_of_range (ps := t.body.drop 3) (s := s.dequeued) (k := k) (m := m) (by rw [first]; exact ⟨low, high⟩)
        (by rw [words]; exact written)
      rw [first] at act
      refine ⟨k, m, written.count, written.rights, written.refused, fun wf => ⟨written.wf wf, fun i w below at_ => ?_⟩, ?_, fun a apart => ?_⟩
      · have stored := written.stored wf i w below at_
        unfold Pointer.address at stored
        rw [Pointer.ahead_page] at stored
        exact stored
      · rw [request_act writeTableAct ready code length, act]
        exact congrArg _ (State.settle_written lines t _ m _)
      · refine written.kept a fun i below => ?_
        unfold Pointer.address
        rw [Pointer.ahead_page]
        exact apart i below
    · have range : countInRange (param (t.body.drop 3) 0).toNat = false := by
        rw [first]
        exact countInRange_of_outside outside
      refine request_answers lines ready code length ?_
      rw [writeTableAct, if_neg (by simp [range])]

end Sys2Proof.Machine
end


section
/-!
# Windows that open and end, and the targets that fault a lane

The schedule of a lane is read as a list with the window in its place; a fault of a lane that passes edges on is the purge, which leaves of
its lane what `Lane.purged` says.
-/

namespace Sys2Proof.Machine

/-! ## WINDOW_OPEN and WINDOW_END (R76, R77) -/

theorem openFirst_append {o : Output} {now : Pos} {front back : List Window} {w : Window} (opens : w.opensAt o now = true)
    (before : ∀ x ∈ front, x.opensAt o now = false) :
    openFirst o now (front ++ w :: back) = front ++ { w with state := .opened } :: back := by
  induction front with
  | nil => exact if_pos opens
  | cons x front ih =>
    obtain ⟨first, others⟩ := List.forall_mem_cons.mp before
    rw [List.cons_append, openFirst, if_neg (Bool.eq_false_iff.mp first), ih others, List.cons_append]

/-- The first element of a list with a property is found, and is the one that is erased. -/
theorem find?_eraseP_append {α : Type} {p : α → Bool} {front back : List α} {x : α} (holds : p x = true) (before : ∀ y ∈ front, p y = false) :
    (front ++ x :: back).find? p = some x ∧ (front ++ x :: back).eraseP p = front ++ back := by
  have none : ∀ y ∈ front, ¬ p y = true := fun y hy => Bool.eq_false_iff.mp (before y hy)
  refine ⟨?_, ?_⟩
  · rw [List.find?_append, List.find?_eq_none.mpr none, List.find?_cons_of_pos holds]
    rfl
  · rw [List.eraseP_append_right _ none, List.eraseP_cons_of_pos holds]

theorem FoldLane.drive_true (fl : FoldLane) (ws : List Window) (o : Output) :
    { fl with windows := ws }.drive o true =
      { fl with
        windows := ws
        folds := match o with | .fold f => fl.folds.set f true | .gate => fl.folds
        gate := match o with | .fold _ => fl.gate | .gate => true } := by
  cases o <;> rfl

/-- The lines after a window of the output is removed. -/
theorem FoldLane.releaseAfter_eq (fl : FoldLane) (ws : List Window) (w : Window) :
    { fl with windows := ws }.releaseAfter w =
      { fl with
        windows := ws
        folds := match w.output, w.state with | .fold f, .opened => fl.folds.set f false | _, _ => fl.folds
        gate := match w.output, w.state with | .gate, .opened => fl.gateHold | _, _ => fl.gate } := by
  unfold FoldLane.releaseAfter FoldLane.drive
  cases w.state <;> cases w.output <;> rfl

/-- Settles O32: the list is front, window and back, and the schedule's lines follow the window's output. -/
theorem windowsOpenAndEnd : Obligations.WindowsOpenAndEnd := by
  refine ⟨fun s l o front back w lines windows opens before => ?_, fun s l o front back w lines windows ends before => ?_⟩
  · have due : s.windowOpenDue l o = true := by
      rw [State.windowOpenDue, windows]
      exact List.any_eq_true.mpr ⟨w, by simp, opens⟩
    rw [exec_of_due (c := .windowOpen l o) due]
    refine congrArg _ ((State.settle_modSched lines l _).trans (State.modLane_congr (congrArg (fun fl => { s.lane l with sched := fl }) ?_)))
    dsimp only
    rw [windows, openFirst_append opens before]
    exact FoldLane.drive_true _ _ o
  · have due : s.windowEndDue l o = true := by
      rw [State.windowEndDue, windows]
      exact List.any_eq_true.mpr ⟨w, by simp, ends⟩
    obtain ⟨found, erased⟩ := find?_eraseP_append (back := back) ends before
    obtain rfl : w.output = o := of_decide_eq_true (Bool.and_eq_true _ _ ▸ ends).1
    have ended : s.endWindow l w.output =
        s.modSched l fun fl => { fl with windows := fl.windows.eraseP fun x => x.endsAt w.output s.track.position }.releaseAfter w := by
      rw [State.endWindow, windows, found]
    rw [exec_of_due (c := .windowEnd l w.output) due]
    show Host.Outcome.next (s.endWindow l w.output).settle = _
    rw [ended]
    refine congrArg _ ((State.settle_modSched lines l _).trans (State.modLane_congr (congrArg (fun fl => { s.lane l with sched := fl }) ?_)))
    dsimp only
    rw [windows, erased]
    exact FoldLane.releaseAfter_eq _ _ w

/-! ## What a fault leaves of a lane (R156 to R158) -/

/-- A lane that passes edges on is purged. -/
theorem State.reportFault_of_passes {s : State} {l : LaneId} (f : LaneFault) (passes : (s.lane l).mode.passes = true) :
    s.reportFault l f = s.purge l f := by
  unfold State.reportFault
  cases mode : (s.lane l).mode with
  | idle => rw [mode] at passes; cases passes
  | faulted => rw [mode] at passes; cases passes
  | _ => rfl

/-- The lane after a fault: purged, apart from what the bookings do to its open entries, its lot, its cursor and its marks. -/
def Lane.Faulted (L : Lane) (f : LaneFault) (M : Lane) : Prop :=
  M = { L.purged f with
    starved := M.starved
    cursor := M.cursor
    openList := M.openList
    lot := M.lot
    waitPending := M.waitPending
    feedHold := true
    entry := { L.entry with openPiece := none, blockedTarget := none, feedSlow := M.entry.feedSlow } }

theorem State.purge_faulted (s : State) (l : LaneId) (f : LaneFault) : (s.lane l).Faulted f ((s.purge l f).settle.lane l) := by
  obtain ⟨own, -⟩ := s.purge_books l f
  have mode : ((s.purge l f).lane l).mode = .faulted := by
    rcases own.mode with same | ⟨works, -⟩ | ⟨suspending, -⟩
    · exact same
    · simp [LaneMode.works, Lane.purged] at works
    · cases suspending
  have same : (s.purge l f).lane l = { (s.lane l).purged f with
      starved := ((s.purge l f).lane l).starved
      cursor := ((s.purge l f).lane l).cursor
      openList := ((s.purge l f).lane l).openList
      lot := ((s.purge l f).lane l).lot
      waitPending := ((s.purge l f).lane l).waitPending } := by
    conv_lhs => rw [own.same]
    rw [mode]
    rfl
  rw [State.settle_lane]
  generalize (s.purge l f).lane l = M at same mode
  have hold : M.feedHoldRule = true := by simp [Lane.feedHoldRule, mode]
  have entry : M.entry = ((s.lane l).purged f).entry := (congrArg Lane.entry same).trans rfl
  have lines : M.settle = { M with
      feedHold := true, entry := { ((s.lane l).purged f).entry with feedSlow := ((s.lane l).purged f).entry.feedSlowRule } } := by
    rw [Lane.settle, hold, entry]
  rw [lines, Lane.Faulted]
  conv_lhs => rw [same]
  rfl

theorem State.reportFault_faulted {s : State} {l : LaneId} (f : LaneFault) (passes : (s.lane l).mode.passes = true) :
    (s.lane l).Faulted f ((s.reportFault l f).settle.lane l) := by
  rw [State.reportFault_of_passes f passes]
  exact s.purge_faulted l f

/-- ALERT is asserted while a lane is FAULTED. -/
theorem State.settle_alert_of_faulted {s : State} {l : LaneId} (mode : (s.lane l).mode = .faulted) : s.settle.tables.alert = true := by
  rw [State.settle_tables]
  have any : s.anyFaulted = true := List.any_eq_true.mpr ⟨l, mem_allLanes l, decide_eq_true mode⟩
  simp [State.alertRule, any]

section Faulted

variable {L M : Lane} {f : LaneFault} (h : L.Faulted f M)
include h

theorem Lane.Faulted.mode : M.mode = .faulted := congrArg Lane.mode h
theorem Lane.Faulted.faultCode : M.faultCode = some f := congrArg Lane.faultCode h
theorem Lane.Faulted.returnToWait : M.returnToWait = false := congrArg Lane.returnToWait h
theorem Lane.Faulted.feedHold : M.feedHold = true := congrArg Lane.feedHold h
theorem Lane.Faulted.tokens : M.tokens = [] := congrArg Lane.tokens h
theorem Lane.Faulted.inFlight : M.inFlight = [] := congrArg Lane.inFlight h
theorem Lane.Faulted.entry : M.entry = { L.entry with openPiece := none, blockedTarget := none, feedSlow := M.entry.feedSlow } :=
  congrArg Lane.entry h
theorem Lane.Faulted.exit : M.exit = { L.exit with arrival := .absent, blockedTarget := none, route := .overflow } :=
  congrArg Lane.exit h
theorem Lane.Faulted.sched : M.sched = { windows := [], folds := Vector.replicate 6 false, gate := true, gateHold := true } :=
  congrArg Lane.sched h

end Faulted

/-! ## The targets (R18, R91, R93) -/

theorem targetReached_some (now target : Pos) : targetReached now (some target) = reached now target := rfl

/-- Settles O27: by the pending change, a check that waits or the purge. -/
theorem reachedTargetsFault : Obligations.ReachedTargetsFault := by
  refine ⟨fun s l target lines blocked reach covered unwaited => ?entry,
    fun s l r lines passes candidate reach unwaited => ?missing,
    fun s l target lines blocked reach covered unwaited => ?exit⟩
  case entry =>
    have due : s.blockedDue l = true := by simp [State.blockedDue, blocked, targetReached_some, reach, covered, unwaited]
    rw [exec_of_due (c := .blockedTargetReached l) due]
    show (_ → (.next (s.blockedTargetReached l).settle : Result) = _) ∧ (_ → _ → ∃ t, (.next (s.blockedTargetReached l).settle : Result) = _ ∧ _)
    refine ⟨fun pending => ?_, fun settled passes => ⟨_, rfl, ?_⟩⟩
    · rw [State.blockedTargetReached, if_pos pending, State.settle_modEntry lines l _ rfl rfl]
    · rw [State.blockedTargetReached, if_neg (by simp [settled])]
      have faulted := State.reportFault_faulted .eyeBlocked passes
      have mode : ((s.reportFault l .eyeBlocked).lane l).mode = .faulted := by rw [← Lane.settle_mode, ← State.settle_lane]; exact faulted.mode
      refine ⟨faulted.mode, faulted.faultCode, faulted.returnToWait, faulted.feedHold, faulted.tokens, faulted.inFlight, ?_, ?_, ?_, ?_, ?_, ?_,
        ?_, ?_, State.settle_alert_of_faulted mode⟩
      iterate 4 rw [faulted.sched]
      iterate 2 rw [faulted.entry]
      iterate 2 rw [faulted.exit]
  case missing =>
    have due : s.missingDue l = true := by
      rw [State.missingDue, passes, unwaited, candidate]
      exact reach
    rw [exec_of_due (c := .missingTargetReached l) due]
    show (_ → _ → (.next (s.missingTargetReached l).settle : Result) = _) ∧
      (_ → ∃ t, (.next (s.missingTargetReached l).settle : Result) = _ ∧ _)
    refine ⟨fun clear pending => ?_, fun settled => ⟨_, rfl, ?_⟩⟩
    · rw [State.missingTargetReached, if_pos (by simp [ExitUnit.coveringPending, clear, pending]), State.settle_modExit lines]
    · have none : (s.lane l).exit.coveringPending = false := by
        rcases settled with covered | none
        · simp [ExitUnit.coveringPending, covered]
        · simp [ExitUnit.coveringPending, none]
      rw [State.missingTargetReached, if_neg (by simp [none])]
      have faulted := State.reportFault_faulted .jam passes
      exact ⟨faulted.mode, faulted.faultCode, faulted.tokens, faulted.inFlight, by rw [faulted.sched], by rw [faulted.sched]⟩
  case exit =>
    have due : s.exitBlockedDue l = true := by simp [State.exitBlockedDue, blocked, targetReached_some, reach, covered, unwaited]
    rw [exec_of_due (c := .exitBlockedTargetReached l) due]
    show (_ → (.next (s.exitBlockedTargetReached l).settle : Result) = _) ∧
      (_ → _ → ∃ t, (.next (s.exitBlockedTargetReached l).settle : Result) = _ ∧ _)
    refine ⟨fun pending => ?_, fun settled passes => ⟨_, rfl, ?_⟩⟩
    · rw [State.exitBlockedTargetReached, if_pos pending, State.settle_modExit lines]
    · rw [State.exitBlockedTargetReached, if_neg (by simp [settled])]
      have faulted := State.reportFault_faulted .jam passes
      exact ⟨faulted.mode, faulted.faultCode, faulted.tokens, faulted.inFlight, by rw [faulted.exit], by rw [faulted.exit], by rw [faulted.exit]⟩

end Sys2Proof.Machine
end


section
/-!
# What bookings, retirements and losses write

Three bounds on table memory. `StackCounts`: what a place does writes the stacks-closed counts alone. `CountsKept`: a completion leaves the
plan and the counts of every entry. `Loose.counters`: neither writes page 7. With them the words that a retirement or a loss adds to are read
off (R35, R60).
-/

namespace Sys2Proof.Machine

/-! ## Places write the stacks-closed counts alone -/

/-- Of table memory only the stacks-closed counts of entries differ. -/
structure StackCounts (s t : State) : Prop where
  read : ∀ a, (∀ e : EntryId, a ≠ pageBase 4 + (12 * e.val + 11)) → t.mem.read a = s.mem.read a
  wf : s.memWf → t.memWf

theorem Quiet.stackCounts {s t : State} (h : Quiet s t) : StackCounts s t := ⟨h.read, h.wf⟩

namespace StackCounts

variable {s t u : State}

theorem ofMem (mem : t.mem = s.mem) : StackCounts s t := ⟨fun _ _ => by rw [mem], fun wf => by unfold State.memWf; rw [mem]; exact wf⟩

theorem refl (s : State) : StackCounts s s := ofMem rfl

theorem trans (h : StackCounts s t) (k : StackCounts t u) : StackCounts s u :=
  ⟨fun a away => (k.read a away).trans (h.read a away), fun wf => k.wf (h.wf wf)⟩

theorem entryWord (h : StackCounts s t) (e : EntryId) {k : Nat} (inEntry : k < 11) : t.entryWord e k = s.entryWord e k :=
  h.read _ fun _ same => Nat.ne_of_lt inEntry (entryAddress_inj (Nat.lt_succ_of_lt inEntry) (by decide) same).2

theorem counter (h : StackCounts s t) (k : Nat) : t.word 7 k = s.word 7 k := h.read _ fun e => entryAddress_ne_counter e (by decide) k

theorem makeFull (s : State) (p : PlaceId) (short : Bool) : StackCounts s (s.makeFull p short) := by
  rw [State.makeFull_eq]
  exact trans (t := s.joinQueue p short) (ofMem rfl) ((Quiet.tellStackClosed _ p).trans (Quiet.tryDischarge _)).stackCounts

theorem clearInbound (s : State) (p : PlaceId) : StackCounts s (s.clearInbound p) := by
  unfold State.clearInbound
  split
  · dsimp only
    split
    · exact trans (t := s.modPlace p fun pl => { pl with inbound := false }) (ofMem rfl) (Quiet.shortClose _ p).stackCounts
    · exact ofMem rfl
  · exact refl s

theorem leavePlace (s : State) (r : PieceRecord) : StackCounts s (s.leavePlace r) := by
  unfold State.leavePlace
  split
  · exact clearInbound s _
  · exact refl s

theorem countDelivery (s : State) (p : PlaceId) (t : Option Token) : StackCounts s (s.countDelivery p t) := by
  unfold State.countDelivery
  dsimp only
  have counted : StackCounts s (s.modPlace p fun pl => pl.counted t) := ofMem rfl
  repeat' split
  · exact counted.trans (makeFull _ p false)
  · exact counted.trans (Quiet.shortClose _ p).stackCounts
  · exact counted

theorem countIfDelivered (s : State) (r : PieceRecord) : StackCounts s (s.countIfDelivered r) := by
  unfold State.countIfDelivered
  split
  · exact countDelivery s _ _
  · exact refl s

end StackCounts

/-! ## Completions leave the counts -/

/-- The plan and the counts of every entry, words 1 to 10, are kept. -/
def CountsKept (s t : State) : Prop := ∀ (e : EntryId) (k : Nat), 1 ≤ k → k ≤ 10 → t.entryWord e k = s.entryWord e k

namespace CountsKept

variable {s t u : State}

theorem refl (s : State) : CountsKept s s := fun _ _ _ _ => rfl

theorem trans (h : CountsKept s t) (k : CountsKept t u) : CountsKept s u := fun e i low high => (k e i low high).trans (h e i low high)

theorem ofStackCounts (h : StackCounts s t) : CountsKept s t := fun e _ _ high => h.entryWord e (Nat.lt_succ_of_le high)

theorem ofQuiet (h : Quiet s t) : CountsKept s t := ofStackCounts h.stackCounts

theorem status (s : State) (e : EntryId) (w : Word) : CountsKept s (s.setEntryWord e 0 w) := fun _ _ low high =>
  State.entryWord_setEntryWord_other w (by omega) (by decide) (Or.inr (by omega))

theorem foldl {α : Type} {f : State → α → State} (h : ∀ s a, CountsKept s (f s a)) (xs : List α) (s : State) : CountsKept s (xs.foldl f s) := by
  induction xs generalizing s with
  | nil => exact refl s
  | cons x xs ih => exact (h s x).trans (ih _)

theorem holdAfter (s : State) (l : LaneId) (e : EntryId) : CountsKept s (s.holdAfter l e) := by
  unfold State.holdAfter
  repeat' split
  all_goals exact refl s

theorem completeHead (s : State) (l : LaneId) (it : OpenItem) : CountsKept s (s.completeHead l it) := by
  have closed : CountsKept s (s.closeItem l it .complete) := (status s it.entry _).trans (ofQuiet (State.closeItem_quiet s l it .complete))
  exact closed.trans ((ofQuiet (Quiet.endLot _ l _)).trans ((holdAfter _ l _).trans (refl _)))

theorem cascade (n : Nat) (l : LaneId) (s : State) : CountsKept s (State.cascade n l s) := by
  induction n generalizing s with
  | zero => exact refl s
  | succ n ih =>
    unfold State.cascade
    repeat' split
    · exact refl s
    · exact (completeHead s l _).trans (ih _)
    · exact refl s

theorem drain (s : State) (l : LaneId) (e : EntryId) : CountsKept s (s.drain l e) := by
  unfold State.drain
  repeat' split
  · exact status s e _
  · exact (completeHead s l _).trans (cascade _ l _)
  · exact status s e _

theorem book (s : State) (l : LaneId) (o : Retirement) (e : EntryId) : CountsKept (s.bumpEntry e o.entryIndex) (s.book l o e) := by
  unfold State.book
  dsimp only
  split
  · exact drain _ l e
  · exact refl _

theorem addLaneCounter (s : State) (l : LaneId) (k n : Nat) : CountsKept s (s.addLaneCounter l k n) := fun e _ _ high =>
  State.word_addWord_other s n (entryAddress_ne_counter e (by omega) _).symm

theorem countRetirement (s : State) (l : LaneId) (r : PieceRecord) (o : Retirement) : CountsKept s (s.countRetirement l r o) := by
  unfold State.countRetirement
  dsimp only
  split
  · exact (addLaneCounter s l _ _).trans (addLaneCounter _ l _ _)
  · exact addLaneCounter s l _ _

theorem examineSuspending (s : State) (l : LaneId) : CountsKept s (s.examineSuspending l) := by
  unfold State.examineSuspending
  split <;> exact refl s

end CountsKept

/-! ## The words of an outcome (R60, R131) -/

theorem Retirement.entryIndex_range (o : Retirement) : 1 ≤ o.entryIndex ∧ o.entryIndex ≤ 10 := by cases o <;> decide

section Booking

variable {s : State} (wf : s.memWf) (l : LaneId) (o : Retirement)
include wf

theorem State.entryWord_book (e : EntryId) : (s.book l o e).entryWord e o.entryIndex = s.entryWord e o.entryIndex + 1 := by
  obtain ⟨low, high⟩ := o.entryIndex_range
  exact (CountsKept.book s l o e e _ low high).trans (State.entryWord_bumpEntry_same wf e _)

/-- The lane's counter of the outcome rises by the bookings of the record; the counter of a reject reason is another word. -/
theorem State.word_countRetirement (r : PieceRecord) :
    (s.countRetirement l r o).word 7 (32 * l.val + o.laneIndex) = s.word 7 (32 * l.val + o.laneIndex) + wordOf r.bookings := by
  have counted : (s.addLaneCounter l o.laneIndex r.bookings).word 7 (32 * l.val + o.laneIndex) =
      s.word 7 (32 * l.val + o.laneIndex) + wordOf r.bookings := State.word_addWord_same s wf 7 _ _
  unfold State.countRetirement
  dsimp only
  split
  · next why _ =>
    refine (State.word_addWord_other _ _ ?_).trans counted
    have : Retirement.rejected.laneIndex < why.laneIndex := by cases why <;> decide
    unfold laneCounterOffset
    omega
  · exact counted

end Booking

theorem State.examineSuspending_mem (s : State) (l : LaneId) : (s.examineSuspending l).mem = s.mem := by
  unfold State.examineSuspending
  split <;> rfl

/-- The words that the loss of a token adds to (R35). -/
theorem State.words_loseToken {s : State} (wf : s.memWf) (l : LaneId) (t : Token) :
    (s.loseToken l t).word 7 (32 * l.val + 3) = s.word 7 (32 * l.val + 3) + 1 ∧
    (s.loseToken l t).entryWord t.entry 10 = s.entryWord t.entry 10 + 1 := by
  have booked := Loose.book s l .lost t.entry
  have entry := State.entryWord_book wf l .lost t.entry
  have mem : (s.loseToken l t).mem = ((s.book l .lost t.entry).addLaneCounter l 3 1).mem := State.examineSuspending_mem _ l
  have word (page offset : Nat) : (s.loseToken l t).word page offset = ((s.book l .lost t.entry).addLaneCounter l 3 1).word page offset :=
    congrArg (fun m : Mem => m.read (pageBase page + offset)) mem
  refine ⟨?_, ?_⟩
  · rw [word]
    refine (State.word_addWord_same _ (booked.wf wf) 7 (32 * l.val + 3) 1).trans ?_
    exact congrArg (· + wordOf 1) (booked.counters _)
  · refine (word 4 (12 * t.entry.val + 10)).trans (Eq.trans ?_ entry)
    exact CountsKept.addLaneCounter _ l 3 1 t.entry 10 (by decide) (by decide)

section Retiring

variable {s : State} {l : LaneId} {n : RecordNo} {r : PieceRecord} (found : s.findRecord l n = some r) (o : Retirement)
include found

theorem State.retire_of_found : s.retire l n o =
    ((((s.freeRecord l r).leavePlace r).bookTokens l o r.tokens).countRetirement l r o).examineSuspending l := by
  rw [State.retire, found]

/-- The lane's counter of the outcome after a retirement. -/
theorem State.word_retire (wf : s.memWf) : (s.retire l n o).word 7 (32 * l.val + o.laneIndex) =
    s.word 7 (32 * l.val + o.laneIndex) + wordOf r.bookings := by
  have left : StackCounts s ((s.freeRecord l r).leavePlace r) := StackCounts.trans (t := s.freeRecord l r) (.ofMem rfl) (.leavePlace _ r)
  have booked := Loose.bookTokens ((s.freeRecord l r).leavePlace r) l o r.tokens
  rw [State.retire_of_found found o]
  generalize (s.freeRecord l r).leavePlace r = left' at *
  have read : (left'.bookTokens l o r.tokens).word 7 (32 * l.val + o.laneIndex) = s.word 7 (32 * l.val + o.laneIndex) :=
    (booked.counters _).trans (left.counter _)
  have counted := State.word_countRetirement (booked.wf (left.wf wf)) l o r
  rw [read] at counted
  rw [← counted]
  exact congrArg (fun m : Mem => m.read _) (State.examineSuspending_mem _ l)

/-- The count of the entry of a record with one token after its retirement. -/
theorem State.entryWord_retire (wf : s.memWf) {k : Token} (tokens : r.tokens = [k]) :
    (s.retire l n o).entryWord k.entry o.entryIndex = s.entryWord k.entry o.entryIndex + 1 := by
  have left : StackCounts s ((s.freeRecord l r).leavePlace r) := StackCounts.trans (t := s.freeRecord l r) (.ofMem rfl) (.leavePlace _ r)
  obtain ⟨low, high⟩ := o.entryIndex_range
  rw [State.retire_of_found found o]
  generalize (s.freeRecord l r).leavePlace r = left' at *
  have one : left'.bookTokens l o r.tokens = left'.book l o k.entry := by rw [tokens]; rfl
  rw [one]
  have booked := State.entryWord_book (left.wf wf) l o k.entry
  rw [left.entryWord k.entry (Nat.lt_succ_of_le high)] at booked
  exact ((CountsKept.countRetirement _ l r o).trans (CountsKept.examineSuspending _ l) k.entry _ low high).trans booked

end Retiring

/-! ## TOKEN_EXPIRY and RETIRE_POSITION_REACHED -/

theorem State.poolWhole.eraseP_eq_filter {s : State} (whole : s.poolWhole) (l : LaneId) (n : RecordNo) :
    (s.lane l).inFlight.eraseP (fun x => decide (x.number = n)) = (s.lane l).inFlight.filter fun x => decide (x.number ≠ n) := by
  have once := whole.numbers_nodup l
  unfold Lane.numbers at once
  generalize (s.lane l).inFlight = rs at once
  induction rs with
  | nil => rfl
  | cons r rs ih =>
    rw [List.map_cons, List.nodup_cons] at once
    by_cases same : r.number = n
    · have others : rs.filter (fun x => decide (x.number ≠ n)) = rs :=
        List.filter_eq_self.mpr fun x hx => decide_eq_true fun e => once.1 (by rw [same, ← e]; exact List.mem_map_of_mem hx)
      rw [List.eraseP_cons_of_pos (by simpa using same), List.filter_cons_of_neg (by simpa using same), others]
    · rw [List.eraseP_cons_of_neg (by simpa using same), List.filter_cons_of_pos (by simpa using same), ih once.2]

/-- The lane and the free list after a retirement: the record gone, and what its bookings do. -/
theorem State.retire_leaves {s : State} {l : LaneId} {n : RecordNo} {r : PieceRecord} (found : s.findRecord l n = some r) (o : Retirement) :
    ((s.lane l).freed r.number).Books ((s.retire l n o).lane l) ∧ (s.retire l n o).free = s.free ++ [r.number] := by
  have booked := BooksAll.retired found o
  refine ⟨?_, booked.free⟩
  rw [← State.freeRecord_lane_same]
  exact booked.lanes l

theorem Lane.Books.tokens {L M : Lane} (h : L.Books M) : M.tokens = L.tokens := by rw [h.same]
theorem Lane.Books.inFlight {L M : Lane} (h : L.Books M) : M.inFlight = L.inFlight := by rw [h.same]

theorem State.settle_alert_of_warning {s : State} {w : Warning} (held : s.tables.warnings.has w = true) : s.settle.tables.alert = true := by
  have held' : s.tables.warnings.isEmpty = false := by
    generalize s.tables.warnings = ws at held
    cases w <;> simp_all [WarningSet.has, WarningSet.isEmpty]
  rw [State.settle_tables]
  simp [State.alertRule, held']

/-- The loss of an expired token at the head of the queue. -/
theorem State.expireToken_head {s : State} {l : LaneId} {q : QueuedToken} {rest : List QueuedToken} (queue : (s.lane l).tokens = q :: rest)
    (reach : reached s.track.position q.expiry = true) :
    s.dueToken l = some q ∧
      s.expireToken l = ((s.modLane l fun L => { L with tokens := rest }).loseToken l q.token).raise .tokenLost (some l) := by
  have due : s.dueToken l = some q := by rw [State.dueToken, queue]; exact List.find?_cons_of_pos reach
  have removed : s.removeExpired l = s.modLane l fun L => { L with tokens := rest } :=
    State.modLane_congr (congrArg (fun ts => { s.lane l with tokens := ts })
      (by rw [queue]; exact List.eraseP_cons_of_pos (p := fun x : QueuedToken => reached s.track.position x.expiry) reach))
  refine ⟨due, ?_⟩
  rw [State.expireToken, due]
  dsimp only
  rw [removed]

/-- Settles O30: the loss and the retirement, with what their bookings leave. -/
theorem retirementsBookOutcomes : Obligations.RetirementsBookOutcomes := by
  refine ⟨fun s l q rest wf queue reach => ?lost, fun s l n r wf whole due number => ?retired⟩
  case lost =>
    obtain ⟨due, expired⟩ := State.expireToken_head queue reach
    refine ⟨_, exec_of_due (c := .tokenExpiry l) (congrArg Option.isSome due), ?_⟩
    show ((s.expireToken l).settle.lane l).tokens = rest ∧ ((s.expireToken l).settle.lane l).inFlight = (s.lane l).inFlight ∧
      (s.expireToken l).settle.free = s.free ∧
      (s.expireToken l).settle.tables.warnings.tokenLost = true ∧ (s.expireToken l).settle.tables.alert = true ∧
      (s.expireToken l).settle.word 7 (32 * l.val + 3) = s.word 7 (32 * l.val + 3) + 1 ∧
      (s.expireToken l).settle.entryWord q.token.entry 10 = s.entryWord q.token.entry 10 + 1
    rw [expired]
    have popped : (s.modLane l fun L => { L with tokens := rest }).lane l = { s.lane l with tokens := rest } := State.modLane_lane_same s l _
    have own := (BooksAll.loseToken (s.modLane l fun L => { L with tokens := rest }) l q.token).lanes l
    have free := (BooksAll.loseToken (s.modLane l fun L => { L with tokens := rest }) l q.token).free
    obtain ⟨counter, entry⟩ := State.words_loseToken (s := s.modLane l fun L => { L with tokens := rest }) wf l q.token
    rw [popped] at own
    generalize (s.modLane l fun L => { L with tokens := rest }).loseToken l q.token = u at *
    have raised := Reports.raise u .tokenLost (some l)
    have latched := Reports.raised u .tokenLost (some l)
    rw [State.settle_lane, raised.lane l, Lane.settle_tokens, Lane.settle_inFlight]
    refine ⟨own.tokens, own.inFlight, (Quiet.raise u _ _).free.trans free, ?_, State.settle_alert_of_warning latched, ?_, ?_⟩
    · rw [State.settle_tables]; exact latched
    · exact (congrArg (fun m : Mem => m.read _) raised.mem).trans counter
    · exact (congrArg (fun m : Mem => m.read _) raised.mem).trans entry
  case retired =>
    have listed : r ∈ (s.lane l).inFlight := List.mem_of_find?_eq_some due
    have found := whole.findRecord listed
    have retired : s.retireAtGate l = s.retire l r.number .rejected := by rw [State.retireAtGate, due]
    refine ⟨_, exec_of_due (c := .retirePositionReached l) (congrArg Option.isSome due), ?_⟩
    show (s.retireAtGate l).settle.free = _ ∧ ((s.retireAtGate l).settle.lane l).inFlight = _ ∧ ((s.retireAtGate l).settle.lane l).tokens = _ ∧
      (s.retireAtGate l).settle.word 7 (32 * l.val + 1) = _
    rw [retired, State.settle_lane, Lane.settle_inFlight, Lane.settle_tokens, ← number]
    obtain ⟨own, free⟩ := State.retire_leaves found .rejected
    refine ⟨free, own.inFlight.trans (whole.eraseP_eq_filter l r.number), own.tokens, ?_⟩
    rw [State.settle_word]
    have bookings : r.bookings = if r.tokens = [] then 1 else r.tokens.length := by
      unfold PieceRecord.bookings
      cases r.tokens <;> rfl
    rw [← bookings]
    exact State.word_retire found .rejected wf

end Sys2Proof.Machine
end


section
/-!
# The edges of the entry eye

A confirmed edge that is passed on is one change of the Entry Sensor, and then the Piece Tracker's part, which leaves the sensor alone but for
the purge of a fault (`EntryRests`). The leading edge's part is the record that `appendRecord` puts on the list.
-/

namespace Sys2Proof.Machine

/-! ## What leaves the Entry Sensor alone -/

/-- The Entry Sensor of the lane is kept, but that a fault makes its open piece and blocked target absent (R19). -/
def EntryRests (l : LaneId) (s t : State) : Prop :=
  (t.lane l).entry = (s.lane l).entry ∨ (t.lane l).entry = { (s.lane l).entry with openPiece := none, blockedTarget := none }

namespace EntryRests

variable {l : LaneId} {s t u : State}

theorem ofSame (same : (t.lane l).entry = (s.lane l).entry) : EntryRests l s t := Or.inl same

theorem refl (l : LaneId) (s : State) : EntryRests l s s := ofSame rfl

theorem trans (h : EntryRests l s t) (k : EntryRests l t u) : EntryRests l s u := by
  rcases h with h | h <;> rcases k with k | k <;> rw [h] at k
  · exact Or.inl k
  · exact Or.inr k
  · exact Or.inr k
  · exact Or.inr k

theorem modLane (s : State) (l : LaneId) {f : Lane → Lane} (keeps : (f (s.lane l)).entry = (s.lane l).entry) : EntryRests l s (s.modLane l f) :=
  ofSame (by rw [State.modLane_lane_same]; exact keeps)

theorem modRecord (s : State) (l : LaneId) (n : RecordNo) (f : PieceRecord → PieceRecord) : EntryRests l s (s.modRecord l n f) :=
  modLane s l rfl

theorem modSched (s : State) (l : LaneId) (f : FoldLane → FoldLane) : EntryRests l s (s.modSched l f) := modLane s l rfl

theorem ofBooks (h : BooksAll s t) : EntryRests l s t := ofSame ((congrArg Lane.entry (h.lanes l).same).trans rfl)

theorem retire (s : State) (l : LaneId) (n : RecordNo) (o : Retirement) : EntryRests l s (s.retire l n o) := by
  cases found : s.findRecord l n with
  | none => unfold State.retire; rw [found]; exact refl l s
  | some r => exact ofSame ((congrArg Lane.entry (State.retire_leaves found o).1.same).trans rfl)

theorem purge (s : State) (l : LaneId) (f : LaneFault) : EntryRests l s (s.purge l f) :=
  Or.inr ((congrArg Lane.entry (s.purge_books l f).1.same).trans rfl)

theorem reportFault (s : State) (l : LaneId) (f : LaneFault) : EntryRests l s (s.reportFault l f) := by
  unfold State.reportFault
  cases (s.lane l).mode with
  | idle => exact refl l s
  | faulted => exact ofBooks (Quiet.raise s _ _).booked
  | _ => exact purge s l f

theorem gateRecord (s : State) (l : LaneId) (n : RecordNo) (p : Pos) : EntryRests l s (s.gateRecord l n p) := by
  unfold State.gateRecord
  dsimp only
  split
  · exact (modRecord s l n _).trans (retire _ l n _)
  · exact modRecord s l n _

theorem tryReject (s : State) (l : LaneId) (n : RecordNo) (now : Pos) (w : Window) : EntryRests l s (s.tryReject l n now w) := by
  unfold State.tryReject
  repeat' split
  · exact modRecord s l n _
  · exact (modSched s l _).trans (gateRecord _ l n _)
  · exact (modSched s l _).trans (gateRecord _ l n _)
  · exact reportFault s l _

theorem giveReject (s : State) (l : LaneId) (n : RecordNo) (now : Pos) : EntryRests l s (s.giveReject l n now) := by
  unfold State.giveReject
  split
  · exact tryReject s l n now _
  · exact refl l s

theorem scheduleFolds (s : State) (l : LaneId) (r : PieceRecord) (now : Pos) : EntryRests l s (s.scheduleFolds l r now) := by
  unfold State.scheduleFolds
  split
  · exact (modRecord s l r.number _).trans (giveReject _ l _ now)
  · exact modSched s l _

theorem scheduleRecord (s : State) (l : LaneId) (n : RecordNo) (now : Pos) : EntryRests l s (s.scheduleRecord l n now) := by
  unfold State.scheduleRecord
  repeat' split
  · exact refl l s
  · exact scheduleFolds s l _ now
  · exact scheduleFolds s l _ now
  · exact giveReject s l n now
  · exact refl l s

theorem withRecord (s : State) (l : LaneId) (n : RecordNo) {f : State → PieceRecord → State} (h : ∀ t r, EntryRests l t (f t r)) :
    EntryRests l s (s.withRecord l n f) := by
  unfold State.withRecord
  split
  · exact h s _
  · exact refl l s

theorem tryStray (s : State) (l : LaneId) (r : PieceRecord) : EntryRests l s (s.tryStray l r) := by
  unfold State.tryStray
  split
  · exact modRecord s l _ _
  · exact refl l s

theorem takeDouble (s : State) (l : LaneId) (r : PieceRecord) : EntryRests l s (s.takeDouble l r) := by
  unfold State.takeDouble
  split
  · exact (modRecord s l _ _).trans (modLane _ l rfl)
  · exact refl l s

theorem trailingEdge (s : State) (l : LaneId) (length width : Nat) (now : Pos) : EntryRests l s (s.trailingEdge l length width now) := by
  unfold State.trailingEdge
  split
  · exact refl l s
  · exact (modRecord s l _ _).trans ((withRecord _ l _ fun t r => tryStray t l r).trans
      ((withRecord _ l _ fun t r => takeDouble t l r).trans ((modRecord _ l _ _).trans (scheduleRecord _ l _ now))))

theorem leadingEdge (s : State) (l : LaneId) (lead : Pos) : EntryRests l s (s.leadingEdge l lead) := by
  have appended (n : RecordNo) : EntryRests l s (s.appendRecord l n lead) := ofSame (by rw [State.appendRecord_lane, if_pos rfl]; rfl)
  have counted (u : State) : EntryRests l u (u.countStray l) :=
    ofSame (congrArg Lane.entry ((Reports.raise (u.addLaneCounter l strayIndex 1) .stray (some l)).lane l))
  unfold State.leadingEdge
  repeat' split
  · exact reportFault s l _
  · exact (appended _).trans (counted _)
  · exact appended _

end EntryRests

theorem Lane.settle_entry (L : Lane) : L.settle.entry = { L.entry with feedSlow := decide (L.entry.spacing = .crowded) } := rfl

/-! ## The leading edge (R13, R15, R20 to R22) -/

/-- The Entry Sensor after a leading edge that is passed on. -/
def EntrySensor.led (e : EntrySensor) (lead target : Pos) (minimum lock unlock : Nat) : EntrySensor :=
  match e.lastTrailing with
  | none => { e.accept with openPiece := some lead, blockedTarget := some target }
  | some last =>
    (EntrySensor.countGap { e.accept with openPiece := some lead, blockedTarget := some target }
      (gapShort (lead - last) minimum)).examineSpacing lock unlock

/-- The spacing monitor aside, the sensor has accepted the level and holds the open piece. -/
theorem EntrySensor.led_same (e : EntrySensor) (lead target : Pos) (minimum lock unlock : Nat) :
    e.led lead target minimum lock unlock = { e.accept with
      openPiece := some lead
      blockedTarget := some target
      spacing := (e.led lead target minimum lock unlock).spacing
      shortCount := (e.led lead target minimum lock unlock).shortCount
      goodCount := (e.led lead target minimum lock unlock).goodCount } := by
  unfold EntrySensor.led EntrySensor.countGap EntrySensor.examineSpacing
  repeat' split
  all_goals rfl

/-- The spacing state turns when the count that it waits for has come, and the counts start again. -/
theorem EntrySensor.examineSpacing_turns (e : EntrySensor) (lock unlock : Nat) (turns : Prop) [Decidable turns]
    (iff : turns ↔ (e.spacing = .normal ∧ unlock ≤ e.shortCount) ∨ (e.spacing = .crowded ∧ lock ≤ e.goodCount)) :
    (e.examineSpacing lock unlock).shortCount = (if turns then 0 else e.shortCount) ∧
    (e.examineSpacing lock unlock).goodCount = (if turns then 0 else e.goodCount) ∧
    (e.examineSpacing lock unlock).spacing =
      (if turns then (if e.spacing = .normal then .crowded else .normal) else e.spacing) := by
  simp only [iff]
  unfold EntrySensor.examineSpacing
  cases state : e.spacing with
  | normal => by_cases full : unlock ≤ e.shortCount <;> simp [full, state]
  | crowded => by_cases full : lock ≤ e.goodCount <;> simp [full, state]

theorem gapShort_iff (gap : Pos) (minimum : Nat) : gapShort gap minimum = true ↔ 0 ≤ gap.toInt ∧ gap.toInt < minimum := by
  have cond := BitVec.toInt_eq_msb_cond gap
  have range := gap.isLt
  unfold gapShort
  cases sign : gap.msb
  · rw [sign, if_neg (by decide)] at cond
    simp only [Bool.not_false, Bool.true_and, decide_eq_true_eq]
    omega
  · rw [sign, if_pos rfl] at cond
    simp only [Bool.not_true, Bool.false_and, Bool.false_eq_true, false_iff]
    omega

theorem EntrySensor.countGap_eq (e : EntrySensor) (short : Bool) :
    e.countGap short =
      { e with
        shortCount := if short then min (e.shortCount + 1) 15 else 0
        goodCount := if short then 0 else min (e.goodCount + 1) 15 } := by
  rw [← countUp_eq_min, ← countUp_eq_min]
  cases short <;> rfl

/-- The counts and the spacing state after the gap from the last trailing edge. -/
theorem EntrySensor.led_spacing {e : EntrySensor} {last lead : Pos} (target : Pos) (minimum lock unlock : Nat) (present : e.lastTrailing = some last)
    {short turns : Prop} [Decidable short] [Decidable turns] {shorts goods : Nat}
    (isShort : short ↔ 0 ≤ (lead - last).toInt ∧ (lead - last).toInt < minimum)
    (isShorts : shorts = if short then min (e.shortCount + 1) 15 else 0) (isGoods : goods = if short then 0 else min (e.goodCount + 1) 15)
    (isTurns : turns ↔ (e.spacing = .normal ∧ unlock ≤ shorts) ∨ (e.spacing = .crowded ∧ lock ≤ goods)) :
    (e.led lead target minimum lock unlock).shortCount = (if turns then 0 else shorts) ∧
    (e.led lead target minimum lock unlock).goodCount = (if turns then 0 else goods) ∧
    (e.led lead target minimum lock unlock).spacing =
      (if turns then (if e.spacing = .normal then .crowded else .normal) else e.spacing) := by
  have taken : gapShort (lead - last) minimum = decide short := Bool.eq_iff_iff.mpr ((gapShort_iff _ _).trans (isShort.symm.trans decide_eq_true_iff.symm))
  unfold EntrySensor.led
  rw [present]
  dsimp only
  rw [taken, EntrySensor.countGap_eq]
  simp only [decide_eq_true_eq]
  have first : e.accept.shortCount = e.shortCount := rfl
  have second : e.accept.goodCount = e.goodCount := rfl
  rw [first, second, ← isShorts, ← isGoods]
  exact EntrySensor.examineSpacing_turns _ lock unlock turns isTurns

/-- The lane's sensor after its leading edge. -/
def State.led (s : State) (l : LaneId) (lead : Pos) : State :=
  s.modEntry l fun e => e.led lead (lead + posOf s.maxPieceLength + 1) (s.minimumGap l) (s.crowdLock l) (s.crowdUnlock l)

section Leading

variable {s : State} {l : LaneId} {c : PendingChange}

theorem State.led_entry (lead : Pos) : ((s.led l lead).lane l).entry =
    (s.lane l).entry.led lead (lead + posOf s.maxPieceLength + 1) (s.minimumGap l) (s.crowdLock l) (s.crowdUnlock l) :=
  State.modEntry_entry s l _

/-- A leading edge that is passed on changes the sensor and reaches the Piece Tracker. -/
theorem State.confirmEntry_covered (raw : (s.lane l).entry.rawLevel = .covered) (passes : (s.lane l).mode.passes = true) :
    s.confirmEntry l c = (s.led l c.start).leadingEdge l c.start := by
  have opened : (s.modEntry l EntrySensor.accept).openPiece l c.start = s.modEntry l fun e =>
      { e.accept with openPiece := some c.start, blockedTarget := some (c.start + posOf s.maxPieceLength + 1) } := State.modEntry_modEntry s l _ _
  have gap : ((s.modEntry l EntrySensor.accept).openPiece l c.start).takeGap l c.start = s.led l c.start := by
    rw [opened, State.takeGap, State.modEntry_entry]
    cases last : (s.lane l).entry.lastTrailing with
    | none =>
      have kept : (s.lane l).entry.accept.lastTrailing = none := last
      rw [kept]
      exact State.modEntry_congr s l (by rw [EntrySensor.led, last])
    | some t =>
      have kept : (s.lane l).entry.accept.lastTrailing = some t := last
      rw [kept]
      dsimp only
      rw [State.modEntry_modEntry]
      refine State.modEntry_congr s l ?_
      rw [EntrySensor.led, last]
      rfl
  rw [State.confirmEntry, raw]
  dsimp only
  rw [State.entryLeading, LaneMoves.State.modEntry_mode, if_pos passes, gap]

/-- Settles O25: the counts by the gap, the state by the counts. -/
theorem spacingFollowsGaps : Obligations.SpacingFollowsGaps := by
  intro s l c pending raw level reach passes e
  have differs : (s.lane l).entry.rawLevel ≠ (s.lane l).entry.level := by rw [raw, level]; decide
  have confirmed := exec_entryEyeConfirm pending differs reach
  rw [State.confirmEntry_covered raw passes] at confirmed
  have rests := EntryRests.leadingEdge (s.led l c.start) l c.start
  rw [EntryRests, State.led_entry] at rests
  have entry : ∃ open' target, (((s.led l c.start).leadingEdge l c.start).lane l).entry =
      { e.led c.start (c.start + posOf s.maxPieceLength + 1) (s.minimumGap l) (s.crowdLock l) (s.crowdUnlock l) with
        openPiece := open', blockedTarget := target } := by
    rcases rests with same | closed
    · exact ⟨_, _, same⟩
    · exact ⟨none, none, closed⟩
  obtain ⟨open', target, entry⟩ := entry
  generalize (s.led l c.start).leadingEdge l c.start = t at confirmed entry
  refine ⟨?_, fun absent => ⟨_, confirmed, ?_⟩⟩
  · intro last present gap short shorts goods turns
    refine ⟨_, confirmed, ?_⟩
    obtain ⟨short', good', spacing⟩ := EntrySensor.led_spacing (c.start + posOf s.maxPieceLength + 1) (s.minimumGap l) (s.crowdLock l)
      (s.crowdUnlock l) present (short := short) (turns := turns) (shorts := shorts) (goods := goods) Iff.rfl rfl rfl Iff.rfl
    clear_value shorts goods
    rw [State.settle_lane, Lane.settle_entry, entry]
    exact ⟨short', good', spacing, rfl⟩
  · rw [State.settle_lane, Lane.settle_entry, entry, EntrySensor.led, absent]
    exact ⟨rfl, rfl, rfl⟩

end Leading

/-! ## The record of a leading edge (R50 to R53) -/

section Record

variable {s : State} {l : LaneId}

theorem State.headToken_modEntry (f : EntrySensor → EntrySensor) : (s.modEntry l f).headToken l = s.headToken l := by
  unfold State.headToken State.modEntry
  rw [State.modLane_lane_same]

theorem State.newRecord_led (n : RecordNo) (lead : Pos) : (s.led l lead).newRecord l n lead = s.newRecord l n lead := by
  unfold State.newRecord State.led
  rw [State.headToken_modEntry]
  rfl

theorem State.led_lane (lead : Pos) : (s.led l lead).lane l = { s.lane l with entry := ((s.led l lead).lane l).entry } := by
  unfold State.led State.modEntry
  rw [State.modLane_lane_same]

/-- With a record free, the lane after the leading edge has it at the tail of its list. -/
theorem State.leadingEdge_of_free {n : RecordNo} {rest : List RecordNo} (free : s.free = n :: rest) (lead : Pos) :
    ((s.led l lead).leadingEdge l lead).lane l =
        { (s.lane l).entered (s.newRecord l n lead) with mode := (s.lane l).mode.woken, entry := ((s.led l lead).lane l).entry } ∧
      ((s.led l lead).leadingEdge l lead).free = rest ∧
      ((s.lane l).tokens = [] → s.memWf →
        ((s.led l lead).leadingEdge l lead).word 7 (32 * l.val + 15) = s.word 7 (32 * l.val + 15) + 1 ∧
        ((s.led l lead).leadingEdge l lead).tables.warnings.stray = true) ∧
      ((s.lane l).tokens ≠ [] → ((s.led l lead).leadingEdge l lead).mem = s.mem ∧
        ((s.led l lead).leadingEdge l lead).tables.warnings = s.tables.warnings) := by
  have head : (s.led l lead).headToken l = s.headToken l := State.headToken_modEntry _
  have led : (s.led l lead).free = n :: rest := free
  have lane : ((s.led l lead).appendRecord l n lead).lane l =
      { (s.lane l).entered (s.newRecord l n lead) with mode := (s.lane l).mode.woken, entry := ((s.led l lead).lane l).entry } := by
    rw [State.appendRecord_lane, if_pos rfl, State.newRecord_led, State.led_lane]
    rfl
  have woken (u : State) : u.wakeSuspended l = { u with lanes := (u.wakeSuspended l).lanes } := by
    unfold State.wakeSuspended
    split <;> rfl
  have same : (s.led l lead).appendRecord l n lead =
      { s with lanes := ((s.led l lead).appendRecord l n lead).lanes, free := rest } := by
    conv_lhs => rw [State.appendRecord, woken]
    rw [State.appendRecord, led]
    rfl
  rw [State.leadingEdge, led]
  dsimp only
  rw [head]
  generalize (s.led l lead).appendRecord l n lead = u at lane same
  have free' : u.free = rest := (congrArg State.free same).trans rfl
  have mem : u.mem = s.mem := (congrArg State.mem same).trans rfl
  by_cases queue : (s.lane l).tokens = []
  · have none : (s.headToken l).isNone = true := by rw [State.headToken, queue]; rfl
    rw [if_pos none]
    have raised := Reports.raise (u.addLaneCounter l strayIndex 1) .stray (some l)
    have latched := Reports.raised (u.addLaneCounter l strayIndex 1) .stray (some l)
    refine ⟨(raised.lane l).trans lane, (Quiet.raise _ _ _).free.trans free', fun _ wf => ⟨?_, latched⟩, fun some => absurd queue some⟩
    have wf' : u.memWf := by unfold State.memWf; rw [mem]; exact wf
    refine (congrArg (fun m : Mem => m.read _) raised.mem).trans ((State.word_addWord_same u wf' 7 (32 * l.val + 15) 1).trans ?_)
    exact congrArg (fun m : Mem => m.read _ + wordOf 1) mem
  · have some : ¬ (s.headToken l).isNone = true := by
      rw [State.headToken]
      cases tokens : (s.lane l).tokens with
      | nil => exact absurd tokens queue
      | cons q qs => simp
    rw [if_neg some]
    exact ⟨lane, free', fun none => absurd none queue, fun _ => ⟨mem, (congrArg (fun v : State => v.tables.warnings) same).trans rfl⟩⟩

theorem State.headToken_eq : s.headToken l = (s.lane l).tokens.head?.map QueuedToken.token := rfl

/-- Settles O23: the record at the tail, or the purge with no record free; then the tests of an article. -/
theorem leadingEdgeTakesRecord : Obligations.LeadingEdgeTakesRecord := by
  refine ⟨fun s l c pending raw level reach passes => ?edge, fun s a => ⟨?valid, rfl⟩⟩
  case edge =>
    have differs : (s.lane l).entry.rawLevel ≠ (s.lane l).entry.level := by rw [raw, level]; decide
    have confirmed := exec_entryEyeConfirm pending differs reach
    rw [State.confirmEntry_covered raw passes] at confirmed
    have entry := (State.led_entry (s := s) (l := l) c.start).trans (EntrySensor.led_same _ _ _ _ _ _)
    refine ⟨fun n rest free => ⟨_, confirmed, ?_⟩, fun free => ⟨_, confirmed, ?_⟩⟩
    · obtain ⟨lane, free', stray, token⟩ := State.leadingEdge_of_free (l := l) free c.start
      generalize (s.led l c.start).leadingEdge l c.start = t at *
      rw [State.settle_lane, Lane.settle_entry, lane]
      refine ⟨free', ?_, ?_, ?_, ?_, rfl, rfl, stray, token, s.newRecord l n c.start, rfl, rfl, rfl, rfl, rfl, ?_, rfl, rfl, rfl, rfl, rfl, rfl⟩
      · dsimp only; rw [entry]; exact raw
      · dsimp only; rw [entry]; rfl
      · dsimp only; rw [entry]
      · dsimp only; rw [entry]
      · show s.snapshotFor (s.headToken l) = _
        rw [State.headToken_eq]
        cases (s.lane l).tokens.head? with
        | none => rfl
        | some q => simp [State.snapshotFor]
    · have empty : (s.led l c.start).leadingEdge l c.start = (s.led l c.start).reportFault l .poolEmpty := by
        have free' : (s.led l c.start).free = [] := free
        rw [State.leadingEdge, free']
      have passes' : ((s.led l c.start).lane l).mode.passes = true := by rw [State.led_lane]; exact passes
      have faulted := State.reportFault_faulted .poolEmpty passes'
      rw [empty]
      refine ⟨faulted.mode, faulted.faultCode, ?_, ?_, faulted.inFlight, faulted.tokens, ?_⟩
      · rw [faulted.entry, entry]; exact raw
      · rw [faulted.entry]
      · rw [faulted.sched]
  case valid =>
    unfold State.articleValid State.articleWord
    simp only [Bool.and_eq_true, decide_eq_true_eq]
    tauto

end Record

/-! ## The trailing edge (R13, R17) -/

/-- Settles O24: the sensor after the edge, which the Piece Tracker's part leaves. -/
theorem trailingEdgeEndsPiece : Obligations.TrailingEdgeEndsPiece := by
  intro s l c pending raw level reach passes
  have differs : (s.lane l).entry.rawLevel ≠ (s.lane l).entry.level := by rw [raw, level]; decide
  have confirmed := exec_entryEyeConfirm pending differs reach
  refine ⟨_, confirmed, ?_⟩
  have trailing : s.confirmEntry l c =
      (s.modEntry l fun e => e.accept.clearWidth).entryTrailing l c (s.lane l).entry.widthMax := by rw [State.confirmEntry, raw]
  have entry : ((s.modEntry l fun e => e.accept.clearWidth).lane l).entry = (s.lane l).entry.accept.clearWidth := State.modEntry_entry s l _
  have opened : (s.lane l).entry.accept.clearWidth.openPiece = (s.lane l).entry.openPiece := rfl
  rw [State.settle_lane, Lane.settle_entry, trailing, State.entryTrailing, LaneMoves.State.modEntry_mode, if_pos passes, entry, opened]
  cases piece : (s.lane l).entry.openPiece with
  | none =>
    dsimp only
    rw [State.modEntry_modEntry, State.modEntry_entry]
    exact ⟨raw, rfl, rfl, rfl, fun some => absurd some (by decide)⟩
  | some lead =>
    dsimp only
    rw [State.modEntry_modEntry]
    have rests := EntryRests.trailingEdge (s.modEntry l fun e =>
      { e.accept.clearWidth with lastTrailing := some c.start, openPiece := none, blockedTarget := none }) l (c.start - lead).toNat
      (s.lane l).entry.widthMax c.confirm
    rw [EntryRests, State.modEntry_entry] at rests
    rcases rests with same | same
    all_goals
      rw [same]
      exact ⟨raw, rfl, rfl, rfl, fun _ => ⟨rfl, rfl⟩⟩

end Sys2Proof.Machine
end


section
/-!
# RECEIVE_START and TELEGRAM_RECEIVED

The start mark gives up what is in hand and seeks a slot; a telegram is discarded, or classified by R164, each case of which is one lemma or
one branch of `classify`.
-/

namespace Sys2Proof.Machine

/-! ## RECEIVE_START (R163, R168) -/

section Receive

variable {s : State} {t : Telegram}

/-- With no receive in hand a slot is given while the forward queue has room and no reset is held. -/
theorem State.takeSlot_free (free : s.ring.receive = .none) : s.takeSlot =
    s.setReceive (if s.resetHeld = false ∧ s.ring.forwardQueue.length < 8 then .withSlot else .withoutSlot) := by
  have count : s.ring.forwardCount = s.ring.forwardQueue.length := Ring.forwardCount_without (by rw [free]; decide)
  have rule : s.readyOutRule = true ↔ s.resetHeld = false ∧ s.ring.forwardQueue.length < 8 := by
    rw [State.readyOutRule, count, Bool.and_eq_true, Bool.not_eq_true']
    exact and_congr_right fun _ => decide_eq_true_iff
  rw [State.takeSlot]
  simp only [rule]

theorem State.cutReceive_none (free : s.ring.receive = .none) : s.cutReceive = s := by rw [State.cutReceive, free]

/-- A receive in hand is given up and counted. -/
theorem State.cutReceive_held (held : s.ring.receive ≠ .none) : s.cutReceive = (s.setReceive .none).countCrcError := by
  rw [State.cutReceive]
  cases receive : s.ring.receive with
  | none => exact absurd receive held
  | _ => rfl

theorem receiveStartSeeksSlot (s : State) :
    let started : Receive := if s.resetHeld = false ∧ s.ring.forwardQueue.length < 8 then .withSlot else .withoutSlot
    (s.ring.receive = .none → exec .receiveStart s = .next ({ s with ring := { s.ring with receive := started } }.settle)) ∧
    (s.ring.receive ≠ .none → exec .receiveStart s =
      .next ({ s.setWord 7 130 (s.word 7 130 + 1) with ring := { s.ring with receive := started } }.settle)) := by
  intro started
  have row : exec .receiveStart s = .next s.cutReceive.takeSlot.settle := execReceiveStart_next s
  refine ⟨fun free => ?_, fun held => ?_⟩
  · rw [row, State.cutReceive_none free, State.takeSlot_free free]
    rfl
  · have free : (s.setReceive .none).countCrcError.ring.receive = .none := rfl
    rw [row, State.cutReceive_held held, State.takeSlot_free free]
    rfl

/-! ## The checks of R163 -/

theorem passesChecks_iff : passesChecks t = true ↔ t.body.length ≤ 40 ∧ t.crc = crcOf (checkedBytes t) := by
  rw [passesChecks, Bool.and_eq_true]
  exact and_congr decide_eq_true_iff decide_eq_true_iff

/-- A telegram without a slot, or one that fails the checks, is discarded and counted. -/
theorem exec_telegramReceived_discarded (held : s.ring.receive ≠ .none)
    (fails : s.ring.receive = .withoutSlot ∨ 40 < t.body.length ∨ t.crc ≠ crcOf (checkedBytes t)) :
    exec (.telegramReceived t) s = .next ({ s.setWord 7 130 (s.word 7 130 + 1) with ring := { s.ring with receive := .none } }.settle) := by
  have due : s.due (.telegramReceived t) = true := decide_eq_true held
  have refused : (decide (s.ring.receive = .withSlot) && passesChecks t) = false := by
    rw [Bool.and_eq_false_iff, ← Bool.not_eq_true (passesChecks t), passesChecks_iff]
    rcases fails with without | long | wrong
    · exact Or.inl (by rw [without]; decide)
    · exact Or.inr fun passes => Nat.not_le.mpr long passes.1
    · exact Or.inr fun passes => wrong passes.2
  have outcome : s.after (.telegramReceived t) = (s.setReceive .none).countCrcError := by
    show s.endReceive t = _
    rw [State.endReceive, refused]
    rfl
  rw [exec_of_due due, outcome]
  rfl

/-! ## Classification (R164) -/

section Classify

variable (address : s.ring.isRepeater = false) (source : t.src.toNat ≤ 31)
include address source

/-- A telegram that this station sent is removed. -/
theorem State.classify_returned (own : t.src = addressByte s.ring.address) : s.classify t = s := by
  rw [State.classify, if_neg (by simp [address]), if_neg (by omega), if_pos own]

variable (foreign : t.src ≠ addressByte s.ring.address)
include foreign

theorem State.classify_elsewhere (dest : t.dest ≠ addressByte s.ring.address) (single : t.dest ≠ 0x1F#8) :
    s.classify t = s.forward t false := by
  rw [State.classify, if_neg (by simp [address]), if_neg (by omega), if_neg foreign, if_neg dest, if_neg single]

theorem State.classify_broadcast (dest : t.dest = 0x1F#8) : s.classify t = s.takeBroadcast t := by
  have elsewhere : t.dest ≠ addressByte s.ring.address := by
    rw [dest]
    intro same
    have repeater : s.ring.isRepeater = true := by
      have here : s.ring.address = 31#5 := by
        have narrow := congrArg (BitVec.setWidth 5) same
        rw [addressByte, BitVec.setWidth_setWidth_of_le _ (by decide), BitVec.setWidth_eq] at narrow
        exact narrow.symm
      exact decide_eq_true (Or.inr here)
    rw [repeater] at address
    cases address
  rw [State.classify, if_neg (by simp [address]), if_neg (by omega), if_neg foreign, if_neg elsewhere, if_pos dest]

end Classify

/-! ## A telegram for this station (R165) -/

theorem State.handleTelegram_bad (bad : isBounced t = true ∨ (t.kind ≠ 0x01#8 ∧ t.kind ≠ 0x02#8) ∨
    (t.kind = 0x01#8 ∧ announcementOf t.body = none)) : s.handleTelegram t = s.badTelegram := by
  by_cases bounced : isBounced t = true
  · rw [State.handleTelegram, if_pos bounced]
  · rcases bad with yes | ⟨notPiece, notRequest⟩ | ⟨piece, none⟩
    · exact absurd yes bounced
    · rw [State.handleTelegram, if_neg bounced]
      exact (if_neg notPiece).trans (if_neg notRequest)
    · rw [State.handleTelegram_piece (Bool.not_eq_true _ ▸ bounced) piece, State.takePiece, none]

/-- An announcement that finds its lane IDLE, or finds no work there, is discarded (R30, R32). -/
theorem State.intake_discards {a : Announcement} (idle : (s.lane a.lane).mode = .idle ∨
    (s.activeEntry a.lane = none ∧ s.canClaim a.lane = false ∧ s.entryWaits (s.lane a.lane).cursor = false)) :
    s.intake a = s.discardToken a := by
  rcases idle with idle | ⟨inactive, cannot, rests⟩
  · rw [State.intake, idle]
  · have claim : s.claim a.lane = s := by rw [State.claim, if_neg (by simp [cannot]), if_neg (by simp [rests])]
    have taken : s.takeToken a = s.discardToken a := by
      rw [State.takeToken, inactive]
      dsimp only
      rw [State.rereadForToken, if_neg (by simp [cannot]), claim]
    have lost : s.writeOffToken a = s.discardToken a := by rw [State.writeOffToken, inactive]
    rw [State.intake, taken, lost]
    cases (s.lane a.lane).mode <;> rfl

/-! ## Broadcasts (R166) -/

theorem Request.code_of_ofCode {b : Byte} {r : Request} (h : Request.ofCode b = some r) : r.code = b :=
  of_decide_eq_true (List.find?_some (p := fun r : Request => decide (r.code = b)) h)

theorem broadcastRequest_none (other : t.kind ≠ 0x02#8 ∨ isBounced t = true ∨ codeByte t.body ∉ [0x11#8, 0x12#8, 0x0A#8]) :
    broadcastRequest t = none := by
  unfold broadcastRequest
  split
  · next request =>
    have unlisted : codeByte t.body ∉ [0x11#8, 0x12#8, 0x0A#8] := by
      rcases other with kind | bounced | unlisted
      · exact absurd request.1 kind
      · rw [request.2] at bounced; cases bounced
      · exact unlisted
    split
    · next code => exact absurd (by rw [← Request.code_of_ofCode code]; decide) unlisted
    · next code => exact absurd (by rw [← Request.code_of_ofCode code]; decide) unlisted
    · next code => exact absurd (by rw [← Request.code_of_ofCode code]; decide) unlisted
    · rfl
  · rfl

/-- The requests that a broadcast can carry. -/
theorem broadcastRequest_some (kind : t.kind = 0x02#8) (whole : isBounced t = false) {r : Request}
    (carried : r = .laneSuspend ∨ r = .laneResume ∨ r = .stationReset) (code : codeByte t.body = r.code) : broadcastRequest t = some r := by
  unfold broadcastRequest
  rw [if_pos ⟨kind, whole⟩, code, Request.ofCode_code]
  rcases carried with rfl | rfl | rfl <;> rfl

/-- LANE SUSPEND and LANE RESUME as one, by which of them it is. -/
def broadcastAct (resume : Bool) : LaneAct := if resume then State.resumeLane else State.suspendLane

/-- Neither changes more of the ring than the report queue. -/
theorem State.onLaneValue_ring (s : State) (resume : Bool) (b : Byte) : ∃ reports,
    (s.onLaneValue (broadcastAct resume) b).1.ring = { s.ring with reportQueue := reports } := by
  cases resume with
  | false => exact ⟨s.ring.reportQueue, (congrArg State.ring (s.suspendValue_same b)).trans rfl⟩
  | true =>
    have all (ls : List LaneId) (s : State) : ∃ reports, (s.resumeAll ls).ring = { s.ring with reportQueue := reports } := by
      induction ls generalizing s with
      | nil => exact ⟨s.ring.reportQueue, rfl⟩
      | cons l ls ih =>
        obtain ⟨reports, rest⟩ := ih (s.resumeLane l).1
        have step : (s.resumeLane l).1.ring = { s.ring with reportQueue := (s.resumeLane l).1.ring.reportQueue } :=
          (congrArg State.ring (ReturnStep.resumeLane l s).same).trans rfl
        refine ⟨reports, rest.trans ?_⟩
        rw [step]
    show ∃ reports, (s.onLaneValue State.resumeLane b).1.ring = { s.ring with reportQueue := reports }
    rw [State.resumeValue_eq]
    exact all _ s

end Receive

/-- The receive in hand ended, and the telegram put into the forward queue. -/
def State.received (s : State) (t : Telegram) (orders : Bool) : State := (s.setReceive .none).forward t orders

theorem State.received_linesFollow {s : State} (lines : s.linesFollow) (slot : s.ring.receive = .withSlot) (t : Telegram) (orders : Bool) :
    (s.received t orders).linesFollow := by
  refine State.linesFollow_congr lines (fun _ => Lane.sameLines_refl _) ⟨rfl, rfl, rfl, rfl⟩ ⟨rfl, rfl, ?_⟩ ⟨rfl, rfl⟩
  rw [Ring.forwardCount_withSlot slot, Ring.forwardCount_without (r := (s.received t orders).ring) nofun]
  exact List.length_append

/-- A broadcast LANE SUSPEND or LANE RESUME is forwarded and carried out, with no response. -/
theorem lanesBroadcast {s : State} {t : Telegram} (slot : s.ring.receive = .withSlot) {h l value : Byte}
    (received : exec (.telegramReceived t) s = .next ((s.setReceive .none).takeBroadcast t).settle) (kind : t.kind = 0x02#8)
    (whole : isBounced t = false) (body : t.body = [0x11#8, h, l, value] ∨ t.body = [0x12#8, h, l, value]) :
    ∃ u, exec (.telegramReceived t) s = .next u ∧ u.ring.forwardQueue = s.ring.forwardQueue ++ [Forwarded.mk t false] ∧
      u.ring.response = s.ring.response ∧ u.ring.receive = .none ∧
      (s.linesFollow → t.body = [0x11#8, h, l, value] → LanesSuspended (s.namedBy value) s u) ∧
      (s.linesFollow → s.memWf → s.lotRingBalances → t.body = [0x12#8, h, l, value] → LanesResumed (s.namedBy value) s u) := by
  have carried : ∃ resume, t.body = [if resume then 0x12#8 else 0x11#8, h, l, value] ∧
      (s.setReceive .none).takeBroadcast t = ((s.received t false).onLaneValue (broadcastAct resume) value).1 := by
    rcases body with bytes | bytes
    · refine ⟨false, bytes, ?_⟩
      rw [State.takeBroadcast, broadcastRequest_some kind whole (Or.inl rfl) (by rw [bytes]; rfl)]
      dsimp only
      rw [if_pos (by rw [bytes]; rfl), State.carryBroadcast, State.broadcastLanes, bytes]
      rfl
    · refine ⟨true, bytes, ?_⟩
      rw [State.takeBroadcast, broadcastRequest_some kind whole (Or.inr (Or.inl rfl)) (by rw [bytes]; rfl)]
      dsimp only
      rw [if_pos (by rw [bytes]; rfl), State.carryBroadcast, State.broadcastLanes, bytes]
      rfl
  obtain ⟨resume, bytes, outcome⟩ := carried
  rw [outcome] at received
  obtain ⟨reports, ring⟩ := (s.received t false).onLaneValue_ring resume value
  have lanes (m : LaneId) : (((s.received t false).onLaneValue (broadcastAct resume) value).1.settle).lane m =
      (((s.received t false).onLaneValue (broadcastAct resume) value).1.lane m).settle := State.settle_lane _ m
  have words (e : EntryId) (k : Nat) : (((s.received t false).onLaneValue (broadcastAct resume) value).1.settle).entryWord e k =
      ((s.received t false).onLaneValue (broadcastAct resume) value).1.entryWord e k := rfl
  refine ⟨_, received, ?_, ?_, ?_, fun lines suspends => ?_, fun lines wf balances resumes => ?_⟩
  · rw [State.settle_ring, ring]; rfl
  · rw [State.settle_ring, ring]; rfl
  · rw [State.settle_ring, ring]; rfl
  · have no : resume = false := by
      cases resume with
      | false => rfl
      | true => rw [bytes] at suspends; simp at suspends
    subst no
    exact lanesSuspended (State.received_linesFollow lines slot t false) value lanes
  · have yes : resume = true := by
      cases resume with
      | false => rw [bytes] at resumes; simp at resumes
      | true => rfl
    subst yes
    exact lanesResumed (State.received_linesFollow lines slot t false) wf (State.lotRingBalances.itemsClaimed balances) value lanes words

/-- Settles O42: the start mark, the discards of R163, the cases of R164 in order, and the broadcasts. -/
theorem receivingActs : Obligations.ReceivingActs := by
  refine ⟨receiveStartSeeksSlot, ?_⟩
  intro s t held ended forwarded
  refine ⟨exec_telegramReceived_discarded held, fun slot short crc => ?_⟩
  have received := exec_telegramReceived slot (passesChecks_iff.mpr ⟨short, crc⟩)
  refine ⟨fun address => ?repeater, fun source => ?source, fun notZero notAll source => ?station⟩
  case repeater =>
    have repeater : (s.setReceive .none).ring.isRepeater = true := decide_eq_true address
    rw [received, State.classify, if_pos repeater]
    rfl
  case source =>
    rw [received, State.classify_foreign source]
    rfl
  case station =>
    have address : (s.setReceive .none).ring.isRepeater = false := decide_eq_false (not_or.mpr ⟨notZero, notAll⟩)
    refine ⟨fun own => ?_, fun foreign dest single => ?_, fun foreign dest whole kind room => ?_, fun foreign dest bad => ?_,
      fun foreign dest whole kind a announced room rests => ?_, fun foreign dest => ?broadcast⟩
    · rw [received, State.classify_returned address source own]
      rfl
    · rw [received, State.classify_elsewhere address source foreign dest single]
      rfl
    · rw [received, State.classify_own address source foreign dest, State.handleTelegram_request whole kind, State.queueRequest]
      exact congrArg (fun u : State => (.next u.settle : Result)) (if_pos room)
    · rw [received, State.classify_own address source foreign dest, State.handleTelegram_bad bad]
      rfl
    · have notFull : (s.setReceive .none).tokensFull a.lane = false := decide_eq_false (Nat.not_le.mpr room)
      rw [received, State.classify_own address source foreign dest, State.handleTelegram_piece whole kind, State.takePiece, announced]
      dsimp only
      rw [State.takeAnnouncement, if_neg (by simp [notFull]), State.intake_discards (s := s.setReceive .none) rests]
      rfl
    case broadcast =>
      rw [State.classify_broadcast address source foreign dest] at received
      refine ⟨fun other => ?_, fun kind whole => ⟨fun unlisted => ?_, fun length => ?_, fun code length => ?_, fun h l value body => ?_⟩⟩
      · rw [received, State.takeBroadcast, broadcastRequest_none (other.imp_right Or.inl)]
        rfl
      · rw [received, State.takeBroadcast, broadcastRequest_none (Or.inr (Or.inr unlisted))]
        rfl
      · have misfit : ∃ r, broadcastRequest t = some r ∧ r.lengthFits t.body = false := by
          rcases length with ⟨code, length⟩ | ⟨code, length⟩
          · rw [List.mem_cons, List.mem_singleton] at code
            rcases code with code | code
            · exact ⟨.laneSuspend, broadcastRequest_some kind whole (Or.inl rfl) code, decide_eq_false length⟩
            · exact ⟨.laneResume, broadcastRequest_some kind whole (Or.inr (Or.inl rfl)) code, decide_eq_false length⟩
          · exact ⟨.stationReset, broadcastRequest_some kind whole (Or.inr (Or.inr rfl)) code, decide_eq_false length⟩
        obtain ⟨r, request, misfits⟩ := misfit
        rw [received, State.takeBroadcast, request]
        dsimp only
        rw [misfits]
        rfl
      · have fits : Request.stationReset.lengthFits t.body = true := decide_eq_true length
        rw [received, State.takeBroadcast, broadcastRequest_some kind whole (Or.inr (Or.inr rfl)) code]
        dsimp only
        rw [if_pos fits]
        rfl
      · exact lanesBroadcast slot received kind whole body

end Sys2Proof.Machine
end


section
/-!
# The trailing edge of the exit eye

A delivery counts the piece into its place and may close it (`countDelivery_place`). What follows, the bookings with all they complete, keeps
the contents of a place that holds a piece (`ContentsKept`), and leaves a closed place closed (`PlacesStep.closed`).
-/

namespace Sys2Proof.Machine

/-! ## Closing a place (R102, R103, R111) -/

section Closing

variable {s : State} {p : PlaceId}

theorem State.tellStackClosed_same (s : State) (p : PlaceId) :
    (s.tellStackClosed p).places = s.places ∧ (s.tellStackClosed p).discharge = s.discharge := by
  unfold State.tellStackClosed State.stackClosed
  repeat' split
  all_goals exact ⟨rfl, rfl⟩

/-- The start of a discharge changes the state of the head place alone. -/
theorem State.tryDischarge_place (s : State) (p : PlaceId) : s.tryDischarge.place p = s.place p ∨
    s.tryDischarge.place p = { s.place p with state := .discharging } := by
  have pushed (u : State) (r : Report) (q : PlaceId) : (u.pushReport r).place q = u.place q := rfl
  unfold State.tryDischarge State.startDischarge
  split
  · split
    · exact Or.inl rfl
    · next head rest _ =>
      rw [pushed]
      show (s.modPlace head fun pl => { pl with state := .discharging }).place p = _ ∨
        (s.modPlace head fun pl => { pl with state := .discharging }).place p = _
      rw [State.modPlace_place]
      split
      · next e => rw [e]; exact Or.inr rfl
      · exact Or.inl rfl
  · exact Or.inl rfl

theorem State.tryDischarge_busy (busy : s.discharge.outfeed ≠ .idle) : s.tryDischarge = s := by
  rw [State.tryDischarge, State.canDischarge, decide_eq_false busy]
  rfl

/-- A place that becomes FULL: its contents stay, and while the outfeed is busy it waits in the queue. -/
theorem State.makeFull_place (s : State) (p : PlaceId) (short : Bool) :
    (s.makeFull p short).place p =
      { s.place p with state := ((s.makeFull p short).place p).state, short := short, closePending := false } ∧
    ((s.makeFull p short).place p).closed ∧
    (s.discharge.outfeed ≠ .idle → (s.makeFull p short).discharge.outfeed ≠ .idle ∧ ((s.makeFull p short).place p).state = .full ∧
      p ∈ (s.makeFull p short).discharge.queue) := by
  obtain ⟨places, discharge⟩ := (s.joinQueue p short).tellStackClosed_same p
  have place : ((s.joinQueue p short).tellStackClosed p).place p =
      { s.place p with state := .full, short := short, closePending := false } :=
    (congrArg (fun v : Vector Place 8 => v[p]) places).trans
      (State.modPlace_place_same s p fun pl => { pl with state := .full, short := short, closePending := false })
  rw [State.makeFull_eq]
  refine ⟨?_, ?_, fun busy => ?_⟩
  · rcases State.tryDischarge_place ((s.joinQueue p short).tellStackClosed p) p with same | same
    all_goals
      rw [same, place]
  · rcases State.tryDischarge_place ((s.joinQueue p short).tellStackClosed p) p with same | same
    all_goals
      rw [same, place]
    · exact Or.inl rfl
    · exact Or.inr rfl
  · have joined : (s.joinQueue p short).discharge = { s.discharge with queue := s.discharge.queue ++ [p] } := rfl
    have still : ((s.joinQueue p short).tellStackClosed p).discharge.outfeed ≠ .idle := by rw [discharge, joined]; exact busy
    rw [State.tryDischarge_busy still, place]
    refine ⟨still, rfl, ?_⟩
    rw [discharge, joined]
    exact List.mem_append_right _ List.mem_cons_self

theorem State.makeFull_place_other (s : State) {p q : PlaceId} (short : Bool) (other : p ≠ q) :
    (s.makeFull q short).place p = { s.place p with state := ((s.makeFull q short).place p).state } := by
  obtain ⟨places, -⟩ := (s.joinQueue q short).tellStackClosed_same q
  have place : ((s.joinQueue q short).tellStackClosed q).place p = s.place p :=
    (congrArg (fun v : Vector Place 8 => v[p]) places).trans
      (State.modPlace_place_other s (fun pl => { pl with state := .full, short := short, closePending := false }) other)
  rw [State.makeFull_eq]
  rcases State.tryDischarge_place ((s.joinQueue q short).tellStackClosed q) p with same | same
  all_goals
    rw [same, place]

end Closing

/-! ## A place that holds a piece keeps its contents -/

/-- A place that holds a piece keeps all but its state and the marks of its closing. -/
def ContentsKept (p : PlaceId) (s t : State) : Prop := 0 < (s.place p).count →
  t.place p = { s.place p with state := (t.place p).state, short := (t.place p).short, closePending := (t.place p).closePending }

namespace ContentsKept

variable {p : PlaceId} {s t u : State}

theorem ofSame (same : t.places = s.places) : ContentsKept p s t := fun _ => by
  have place : t.place p = s.place p := congrArg (fun v : Vector Place 8 => v[p]) same
  rw [place]

theorem refl (p : PlaceId) (s : State) : ContentsKept p s s := ofSame rfl

theorem trans (h : ContentsKept p s t) (k : ContentsKept p t u) : ContentsKept p s u := fun holds => by
  have first := h holds
  have second := k (by rw [first]; exact holds)
  rw [second, first]

theorem foldl {α : Type} {f : State → α → State} (h : ∀ s a, ContentsKept p s (f s a)) (xs : List α) (s : State) :
    ContentsKept p s (xs.foldl f s) := by
  induction xs generalizing s with
  | nil => exact refl p s
  | cons x xs ih => exact (h s x).trans (ih _)

theorem shortClose (s : State) (q : PlaceId) : ContentsKept p s (s.shortClose q) := by
  intro holds
  unfold State.shortClose
  by_cases other : p = q
  · subst other
    repeat' split
    · rw [State.modPlace_place_same]
    · rw [(s.makeFull_place p true).1]
    · rfl
  · have freed : (s.freePlace q).place p = s.place p := State.modPlace_place_other s (fun _ => Place.reset) other
    repeat' split
    · rw [State.modPlace_place_other _ _ other]
    · rw [s.makeFull_place_other true other]
    · rw [freed]
    · rfl

theorem closeIdentity (s : State) (l : LaneId) (customer : Word) (article : Nat) : ContentsKept p s (s.closeIdentity l customer article) := by
  unfold State.closeIdentity
  repeat' split
  · exact shortClose s _
  · exact refl p s
  · exact refl p s

theorem produce (s : State) (r : Report) : ContentsKept p s (s.produce r) := ofSame (Reports.produce s r).places

theorem addToLot (s : State) (l : LaneId) (e : EntryId) : ContentsKept p s (s.addToLot l e) := by
  have cut : ContentsKept p s (s.cutLot l e) := by
    unfold State.cutLot
    split
    · exact (produce s _).trans (ofSame rfl)
    · exact refl p s
  have opened (u : State) : ContentsKept p u (u.openLot l e) := by
    unfold State.openLot
    split
    · exact refl p u
    · exact ofSame rfl
  exact cut.trans ((opened _).trans (ofSame rfl))

theorem closeItem (s : State) (l : LaneId) (it : OpenItem) (st : EntryStatus) : ContentsKept p s (s.closeItem l it st) := by
  have noted (u : State) : ContentsKept p u (u.notifyEntry l it st) := by
    unfold State.notifyEntry
    split
    · exact produce u _
    · exact refl p u
  exact trans (t := s.writeBackEntry it.entry st) (ofSame rfl) ((noted _).trans (addToLot _ l it.entry))

theorem endLot (s : State) (l : LaneId) (e : EntryId) : ContentsKept p s (s.endLot l e) := by
  unfold State.endLot
  split
  · exact (closeIdentity s l _ _).trans ((produce _ _).trans (ofSame rfl))
  · exact refl p s

theorem holdAfter (s : State) (l : LaneId) (e : EntryId) : ContentsKept p s (s.holdAfter l e) := by
  unfold State.holdAfter
  repeat' split
  all_goals exact ofSame rfl

theorem completeHead (s : State) (l : LaneId) (it : OpenItem) : ContentsKept p s (s.completeHead l it) :=
  (closeItem s l it .complete).trans ((endLot _ l _).trans ((holdAfter _ l _).trans (ofSame rfl)))

theorem cascade (n : Nat) (l : LaneId) (s : State) : ContentsKept p s (State.cascade n l s) := by
  induction n generalizing s with
  | zero => exact refl p s
  | succ n ih =>
    unfold State.cascade
    repeat' split
    · exact refl p s
    · exact (completeHead s l _).trans (ih _)
    · exact refl p s

theorem book (s : State) (l : LaneId) (o : Retirement) (e : EntryId) : ContentsKept p s (s.book l o e) := by
  have drained (u : State) : ContentsKept p u (u.drain l e) := by
    unfold State.drain
    repeat' split
    · exact ofSame rfl
    · exact (completeHead u l _).trans (cascade _ l _)
    · exact ofSame rfl
  unfold State.book
  dsimp only
  split
  · exact trans (t := s.bumpEntry e o.entryIndex) (ofSame rfl) (drained _)
  · exact ofSame rfl

theorem bookTokens (s : State) (l : LaneId) (o : Retirement) (ts : List Token) : ContentsKept p s (s.bookTokens l o ts) := by
  unfold State.bookTokens
  refine foldl ?_ ts s
  intro s t
  exact book s l o t.entry

end ContentsKept

/-! ## Bookings that complete no entry -/

/-- Bookings in entries that are not CLOSING only count. -/
theorem State.bookTokens_counts {ts : List Token} (l : LaneId) (o : Retirement) {s : State}
    (open' : ∀ x ∈ ts, s.entryStatus x.entry ≠ some .closing) :
    s.bookTokens l o ts = { s with mem := (s.bookTokens l o ts).mem } := by
  induction ts generalizing s with
  | nil => rfl
  | cons t ts ih =>
    obtain ⟨first, others⟩ := List.forall_mem_cons.mp open'
    have status (e : EntryId) : (s.bumpEntry t.entry o.entryIndex).entryStatus e = s.entryStatus e := by
      obtain ⟨low, high⟩ := o.entryIndex_range
      exact State.entryStatus_of_word (State.entryWord_bumpEntry_other (by decide) (by omega) (Or.inr (by omega)))
    have counted : s.book l o t.entry = s.bumpEntry t.entry o.entryIndex := by
      have undrained : (s.bumpEntry t.entry o.entryIndex).drained t.entry = false := by
        rw [State.drained, status, decide_eq_false first]
        rfl
      unfold State.book
      dsimp only
      rw [undrained]
      exact if_neg Bool.false_ne_true
    have step : s.bookTokens l o (t :: ts) = (s.book l o t.entry).bookTokens l o ts := List.foldl_cons ..
    have rest := ih (s := s.bumpEntry t.entry o.entryIndex) fun x hx => by rw [status]; exact others x hx
    rw [step, counted]
    generalize (s.bumpEntry t.entry o.entryIndex).bookTokens l o ts = u at rest ⊢
    have kept (m : Mem) : ({ s.bumpEntry t.entry o.entryIndex with mem := m } : State) = { s with mem := m } := rfl
    exact rest.trans (kept u.mem)

/-! ## A delivery (R102) -/

section Delivery

variable {s : State} {p : PlaceId}

/-- The place after a delivery: the piece counted, and closed at its target or when a close is pending. -/
theorem State.countDelivery_place (k : Token) (filling : (s.place p).state = .filling) :
    let q := (s.countDelivery p (some k)).place p
    let pl := s.place p
    (q = { pl.counted (some k) with state := q.state, short := q.short, closePending := q.closePending }) ∧
    (pl.count + 1 = pl.target → q.short = false ∧ q.closePending = false ∧ q.closed) ∧
    (pl.count + 1 ≠ pl.target → pl.closePending = true → q.short = true ∧ q.closePending = false ∧ q.closed) ∧
    (pl.count + 1 = pl.target ∨ pl.closePending = true → s.discharge.outfeed ≠ .idle →
      (s.countDelivery p (some k)).discharge.outfeed ≠ .idle ∧ q.state = .full ∧ p ∈ (s.countDelivery p (some k)).discharge.queue) ∧
    (pl.count + 1 ≠ pl.target → pl.closePending = false → q = pl.counted (some k)) := by
  intro q pl
  have place : (s.modPlace p fun pl => pl.counted (some k)).place p = pl.counted (some k) := State.modPlace_place_same s p _
  have busy : (s.modPlace p fun pl => pl.counted (some k)).discharge = s.discharge := rfl
  have counted : s.countDelivery p (some k) =
      if pl.count + 1 = pl.target then (s.modPlace p fun pl => pl.counted (some k)).makeFull p false
      else if pl.closePending then (s.modPlace p fun pl => pl.counted (some k)).shortClose p
      else s.modPlace p fun pl => pl.counted (some k) := by
    unfold State.countDelivery
    dsimp only
    rw [place]
    rfl
  have closes : (s.modPlace p fun pl => pl.counted (some k)).shortClose p =
      (s.modPlace p fun pl => pl.counted (some k)).makeFull p true := by
    have unmarked : ¬ (pl.counted (some k)).inbound = true := by simp [Place.counted]
    unfold State.shortClose
    rw [place, if_pos (show (pl.counted (some k)).state = .filling from filling), if_neg unmarked, if_pos (show 0 < (pl.counted (some k)).count from Nat.succ_pos _)]
  rw [closes] at counted
  by_cases full : pl.count + 1 = pl.target
  · rw [if_pos full] at counted
    obtain ⟨same, closed, waits⟩ := (s.modPlace p fun pl => pl.counted (some k)).makeFull_place p false
    rw [← counted] at same closed waits
    rw [place] at same
    have short : q.short = false := congrArg Place.short same
    have pending : q.closePending = false := congrArg Place.closePending same
    refine ⟨?_, fun _ => ⟨short, pending, closed⟩, fun below => absurd full below, fun _ => waits, fun below => absurd full below⟩
    rw [short, pending]
    exact same
  · rw [if_neg full] at counted
    by_cases closing : pl.closePending = true
    · rw [if_pos closing] at counted
      obtain ⟨same, closed, waits⟩ := (s.modPlace p fun pl => pl.counted (some k)).makeFull_place p true
      rw [← counted] at same closed waits
      rw [place] at same
      have short : q.short = true := congrArg Place.short same
      have pending : q.closePending = false := congrArg Place.closePending same
      refine ⟨?_, fun at_ => absurd at_ full, fun _ _ => ⟨short, pending, closed⟩, fun _ => waits, fun _ none => ?_⟩
      · rw [short, pending]
        exact same
      · rw [closing] at none; cases none
    · rw [if_neg closing] at counted
      have same : q = pl.counted (some k) := by rw [← place, ← counted]
      refine ⟨by rw [same], fun at_ => absurd at_ full, fun _ yes => absurd yes closing, fun or => ?_, fun _ _ => same⟩
      exact absurd or (not_or.mpr ⟨full, closing⟩)

end Delivery

end Sys2Proof.Machine
end


section
/-!
# The retirement at the exit eye (R94, R102)

The event is a delivery, a retirement and the end of the arrival. The lane's part follows from what a retirement leaves; the place's part from
`countDelivery_place` and what bookings keep of a place.
-/

namespace Sys2Proof.Machine

/-! ## The event -/

section Event

variable {s : State} {l : LaneId} {c : PendingChange} {r : PieceRecord}

/-- The lane with the exit eye's level accepted. -/
def State.exitAccepted (s : State) (l : LaneId) : State := s.modExit l ExitUnit.accept

theorem State.exitAccepted_lane (s : State) (l : LaneId) : (s.exitAccepted l).lane l = { s.lane l with exit := (s.lane l).exit.accept } := by
  unfold State.exitAccepted
  rw [LaneMoves.State.modExit_lane]

theorem State.findRecord_congr {s t : State} {l : LaneId} (same : (t.lane l).inFlight = (s.lane l).inFlight) (n : RecordNo) :
    t.findRecord l n = s.findRecord l n := by
  unfold State.findRecord
  rw [same]

theorem State.findRecord_exitAccepted (s : State) (l : LaneId) (n : RecordNo) : (s.exitAccepted l).findRecord l n = s.findRecord l n :=
  State.findRecord_congr (by rw [State.exitAccepted_lane]) n

/-- A confirmed trailing edge of a matched record counts it, retires it and ends the arrival. -/
theorem exec_exitTrailing (whole : s.poolWhole) (pending : (s.lane l).exit.pendingChange = some c) (raw : (s.lane l).exit.rawLevel = .clear)
    (level : (s.lane l).exit.level = .covered) (reach : reached s.track.position c.confirm = true) (passes : (s.lane l).mode.passes = true)
    (listed : r ∈ (s.lane l).inFlight) (matched : (s.lane l).exit.arrival = .matched r.number) :
    exec (.exitEyeConfirm l) s =
      .next ((((s.exitAccepted l).countIfDelivered r).retire l r.number (exitOutcome r)).clearArrival l).settle := by
  have differs : (s.lane l).exit.rawLevel ≠ (s.lane l).exit.level := by rw [raw, level]; decide
  have arrival : ((s.exitAccepted l).lane l).exit.arrival = .matched r.number := by rw [State.exitAccepted_lane]; exact matched
  have found : (s.exitAccepted l).findRecord l r.number = some r := by rw [State.findRecord_exitAccepted]; exact whole.findRecord listed
  rw [exec_exitEyeConfirm pending differs reach, State.confirmExit, if_pos passes, raw]
  dsimp only
  show (.next ((s.exitAccepted l).exitTrailing l).settle : Result) = _
  rw [State.exitTrailing, arrival]
  dsimp only
  rw [State.passExit, found]

end Event

/-! ## The lane and the counts after it -/

section Departure

variable {u : State} {l : LaneId} {r : PieceRecord}

theorem State.findRecord_countIfDelivered (found : u.findRecord l r.number = some r) :
    (u.countIfDelivered r).findRecord l r.number = some r := by
  rw [State.findRecord_congr ((BooksAll.countIfDelivered u r).lanes l).inFlight]
  exact found

/-- The lane and the free list after the departure. -/
theorem State.departed_leaves (whole : u.poolWhole) (found : u.findRecord l r.number = some r) (o : Retirement) :
    let t := ((u.countIfDelivered r).retire l r.number o).clearArrival l
    (t.lane l).exit = { (u.lane l).exit with arrival := .absent, blockedTarget := none, route := .overflow } ∧
    t.free = u.free ++ [r.number] ∧
    (t.lane l).inFlight = (u.lane l).inFlight.filter fun x => decide (x.number ≠ r.number) := by
  intro t
  have counted := BooksAll.countIfDelivered u r
  obtain ⟨own, free⟩ := State.retire_leaves (State.findRecord_countIfDelivered found) o
  have before := counted.lanes l
  have exit : (((u.countIfDelivered r).retire l r.number o).lane l).exit =
      { (u.lane l).exit with arrival := (((u.countIfDelivered r).lane l).freed r.number).exit.arrival } := by
    rw [own.same, Lane.freed, before.same]
  have lane : t.lane l = { ((u.countIfDelivered r).retire l r.number o).lane l with
      exit := { (((u.countIfDelivered r).retire l r.number o).lane l).exit with
        arrival := .absent, blockedTarget := none, route := .overflow } } := by
    show (((u.countIfDelivered r).retire l r.number o).modExit l _).lane l = _
    rw [LaneMoves.State.modExit_lane]
  refine ⟨?_, free.trans (congrArg (· ++ [r.number]) counted.free), ?_⟩
  · rw [lane, exit]
  · rw [lane]
    dsimp only
    rw [own.inFlight, ← whole.eraseP_eq_filter l r.number]
    exact congrArg (List.eraseP _) before.inFlight

/-- The words of the outcome after the departure. -/
theorem State.departed_words (wf : u.memWf) (found : u.findRecord l r.number = some r) (o : Retirement) :
    let t := (((u.countIfDelivered r).retire l r.number o).clearArrival l).settle
    t.word 7 (32 * l.val + o.laneIndex) = u.word 7 (32 * l.val + o.laneIndex) + wordOf (if r.tokens = [] then 1 else r.tokens.length) ∧
    ∀ k, r.tokens = [k] → t.entryWord k.entry o.entryIndex = u.entryWord k.entry o.entryIndex + 1 := by
  intro t
  have counted := StackCounts.countIfDelivered u r
  have found' := State.findRecord_countIfDelivered found
  have bookings : r.bookings = if r.tokens = [] then 1 else r.tokens.length := by
    unfold PieceRecord.bookings
    cases r.tokens <;> rfl
  refine ⟨?_, fun k tokens => ?_⟩
  · have word := State.word_retire found' o (counted.wf wf)
    rw [counted.counter, bookings] at word
    exact word
  · have word := State.entryWord_retire found' o (counted.wf wf) tokens
    rw [counted.entryWord k.entry (Nat.lt_succ_of_le o.entryIndex_range.2)] at word
    exact word

end Departure

/-! ## The place after it -/

section DeliveredPlace

variable {s u v : State} {l : LaneId} {r : PieceRecord} {p : PlaceId}

/-- A record whose place has no inbound mark leaves the places as they are. -/
theorem State.leavePlace_unmarked (goes : r.destination = some (.place p)) (unmarked : (v.place p).inbound = false) : v.leavePlace r = v := by
  unfold State.leavePlace
  split
  · next q _ here =>
    have same : q = p := by
      have := here.symm.trans goes
      injection this with this
      injection this
    subst same
    rw [State.clearInbound, if_neg (by simp [unmarked])]
  · rfl

/-- After a retirement the places and the outfeed stand as the bookings left them. -/
theorem State.retire_places (found : v.findRecord l r.number = some r) (goes : r.destination = some (.place p))
    (unmarked : (v.place p).inbound = false) (o : Retirement) :
    (v.retire l r.number o).places = ((v.freeRecord l r).bookTokens l o r.tokens).places ∧
    (v.retire l r.number o).discharge = ((v.freeRecord l r).bookTokens l o r.tokens).discharge := by
  have counted (x : State) : (x.countRetirement l r o).places = x.places ∧ (x.countRetirement l r o).discharge = x.discharge := by
    unfold State.countRetirement
    dsimp only
    split <;> exact ⟨rfl, rfl⟩
  have examined (x : State) : (x.examineSuspending l).places = x.places ∧ (x.examineSuspending l).discharge = x.discharge := by
    unfold State.examineSuspending
    split <;> exact ⟨rfl, rfl⟩
  have left : (v.freeRecord l r).leavePlace r = v.freeRecord l r := State.leavePlace_unmarked goes unmarked
  rw [State.retire_of_found found o, left]
  exact ⟨(examined _).1.trans (counted _).1, (examined _).2.trans (counted _).2⟩

/-- The place that a matched record goes to is a FILLING one of its lane, with the record's inbound mark. -/
theorem State.stacksCoherent.destination (coherent : s.stacksCoherent) (listed : r ∈ (s.lane l).inFlight)
    (matched : (s.lane l).exit.arrival = .matched r.number) (goes : r.destination = some (.place p)) : (s.place p).state = .filling := by
  obtain ⟨whole, -, -, -, exits, -, routed⟩ := coherent
  obtain ⟨-, x, here, number, atExit, -⟩ := (exits l).1 r.number matched
  have same : x = r := whole.unique here listed number
  exact (routed l r listed (same ▸ atExit) p goes).1

theorem State.stacksCoherent.sound (coherent : s.stacksCoherent) : s.stacksSound := by
  obtain ⟨-, outfeed, queue, places, -, marked, -⟩ := coherent
  exact ⟨outfeed, queue, places, fun p inbound => (marked p inbound).1⟩

/-- The place after the delivery and the retirement of a record with a first token. -/
theorem State.departed_place (coherent : u.stacksSound) (filling : (u.place p).state = .filling) (found : u.findRecord l r.number = some r)
    (goes : r.destination = some (.place p)) {k : Token} {rest : List Token} (tokens : r.tokens = k :: rest) (o : Retirement) :
    let w := (u.countIfDelivered r).retire l r.number o
    let pl := u.place p
    let q := w.place p
    (q = { pl.counted (some k) with state := q.state, short := q.short, closePending := q.closePending }) ∧
    (pl.count + 1 = pl.target → q.short = false ∧ q.closePending = false ∧ q.closed) ∧
    (pl.count + 1 ≠ pl.target → pl.closePending = true → q.short = true ∧ q.closePending = false ∧ q.closed) ∧
    (pl.count + 1 = pl.target ∨ pl.closePending = true → u.discharge.outfeed ≠ .idle → q.state = .full ∧ p ∈ w.discharge.queue) ∧
    (pl.count + 1 ≠ pl.target → pl.closePending = false → (∀ x ∈ r.tokens, u.entryStatus x.entry ≠ some .closing) →
      q.state = .filling ∧ q.short = pl.short) := by
  intro w pl q
  have counted : u.countIfDelivered r = u.countDelivery p (some k) := by rw [State.countIfDelivered, goes, tokens]; rfl
  obtain ⟨contents, atTarget, pendingClose, busy, open'⟩ := State.countDelivery_place k filling
  have tallied := StackCounts.countIfDelivered u r
  have sound := (Marks.countDelivery u p (some k) filling).sound coherent
  have found' := State.findRecord_countIfDelivered found
  rw [counted] at tallied found'
  have wasRetired : w = (u.countDelivery p (some k)).retire l r.number o := by rw [← counted]
  have unmarked : ((u.countDelivery p (some k)).place p).inbound = false := (congrArg Place.inbound contents).trans rfl
  obtain ⟨places, discharge⟩ := State.retire_places found' goes unmarked o
  rw [← wasRetired] at places discharge
  generalize u.countDelivery p (some k) = v at *
  have freed : (v.freeRecord l r).place p = v.place p := rfl
  have freedSound : (v.freeRecord l r).stacksSound := (PlacesStep.ofSame (s := v) (t := v.freeRecord l r) rfl rfl).sound sound
  have step := (Loose.bookTokens (v.freeRecord l r) l o r.tokens).places
  have place : q = ((v.freeRecord l r).bookTokens l o r.tokens).place p := congrArg (fun x : Vector Place 8 => x[p]) places
  have kept := ContentsKept.bookTokens (p := p) (v.freeRecord l r) l o r.tokens
    (by rw [freed, contents]; exact Nat.succ_pos _)
  rw [← place, freed] at kept
  have stays (closed : (v.place p).closed) : q.closed ∧ q = { v.place p with state := q.state } := by
    obtain ⟨still, same⟩ := step.closed freedSound p closed
    rw [← place] at still same
    exact ⟨still, same⟩
  refine ⟨?_, fun full => ?_, fun below pending => ?_, fun closes working => ?_, fun below pending unfinished => ?_⟩
  · rw [contents] at kept
    exact kept
  · obtain ⟨short, pending, closed⟩ := atTarget full
    obtain ⟨still, same⟩ := stays closed
    exact ⟨(congrArg Place.short same).trans short, (congrArg Place.closePending same).trans pending, still⟩
  · obtain ⟨short, notPending, closed⟩ := pendingClose below pending
    obtain ⟨still, same⟩ := stays closed
    exact ⟨(congrArg Place.short same).trans short, (congrArg Place.closePending same).trans notPending, still⟩
  · obtain ⟨moving, full, queued⟩ := busy closes working
    have working' : (v.freeRecord l r).discharge.outfeed ≠ .idle := moving
    obtain ⟨more, queue⟩ := step.busy working'
    refine ⟨?_, ?_⟩
    · rw [place, step.waiting working' p full]
      exact full
    · rw [discharge, queue]
      exact List.mem_append_left _ queued
  · have same := open' below pending
    have status (x : Token) (hx : x ∈ r.tokens) : (v.freeRecord l r).entryStatus x.entry ≠ some .closing := by
      have word : (v.freeRecord l r).entryWord x.entry 0 = u.entryWord x.entry 0 := tallied.entryWord x.entry (by decide)
      rw [State.entryStatus_of_word word]
      exact unfinished x hx
    have only : ((v.freeRecord l r).bookTokens l o r.tokens).place p = v.place p :=
      (congrArg (fun x : State => x.place p) (State.bookTokens_counts l o status)).trans rfl
    rw [place, only, same]
    exact ⟨filling, rfl⟩

end DeliveredPlace

/-- Settles O35: the departure's lane, words and place. -/
theorem exitTrailingEdgeRetires : Obligations.ExitTrailingEdgeRetires := by
  intro s l c r wf whole pending raw level reach passes listed matched
  have found : (s.exitAccepted l).findRecord l r.number = some r := by rw [State.findRecord_exitAccepted]; exact whole.findRecord listed
  have whole' : (s.exitAccepted l).poolWhole := (PoolKept.modExit s l ExitUnit.accept).perm.trans whole
  obtain ⟨exit, free, inFlight⟩ := State.departed_leaves whole' found (exitOutcome r)
  have words := State.departed_words (u := s.exitAccepted l) wf found (exitOutcome r)
  have word (k : Nat) : (s.exitAccepted l).word 7 k = s.word 7 k := rfl
  have entryWord (e : EntryId) (k : Nat) : (s.exitAccepted l).entryWord e k = s.entryWord e k := rfl
  simp only [word, entryWord] at words
  have lane := s.exitAccepted_lane l
  have place (coherent : s.stacksCoherent) {p : PlaceId} (goes : r.destination = some (.place p)) {k : Token} {rest : List Token}
      (tokens : r.tokens = k :: rest) := State.departed_place (u := s.exitAccepted l) (l := l)
    ((PlacesStep.ofSame (s := s) (t := s.exitAccepted l) rfl rfl).sound coherent.sound) (coherent.destination listed matched goes) found goes
    tokens (exitOutcome r)
  have step := exec_exitTrailing whole pending raw level reach passes listed matched
  have kept : (s.exitAccepted l).place = s.place ∧ (s.exitAccepted l).discharge = s.discharge ∧
    (s.exitAccepted l).entryStatus = s.entryStatus := ⟨rfl, rfl, rfl⟩
  rw [kept.1, kept.2.1, kept.2.2] at place
  generalize ((s.exitAccepted l).countIfDelivered r).retire l r.number (exitOutcome r) = w at *
  have cleared (p : PlaceId) : (w.clearArrival l).settle.place p = w.place p := rfl
  have queue : (w.clearArrival l).settle.discharge.queue = w.discharge.queue := rfl
  refine ⟨_, step, ?_⟩
  rw [State.settle_lane, Lane.settle_exit, Lane.settle_inFlight, exit, lane]
  rw [lane] at inFlight
  refine ⟨raw, rfl, rfl, rfl, free, inFlight, fun p goes => ?_, fun goes kept => ?_, fun goes forced => ?_,
    fun coherent p k rest goes tokens => ?_⟩
  · have delivered : exitOutcome r = .delivered := by rw [exitOutcome, goes]
    rw [delivered] at words
    exact words
  · have overflowed : exitOutcome r = .overflowed := by rw [exitOutcome, goes]; exact if_neg (by simp [kept])
    rw [overflowed] at words
    exact words
  · have rejected : exitOutcome r = .rejected := by rw [exitOutcome, goes]; exact if_pos forced
    rw [rejected] at words
    exact words
  · obtain ⟨same, atTarget, pendingClose, busy, open'⟩ := place coherent goes tokens
    dsimp only
    rw [cleared, queue]
    generalize w.place p = q at *
    have content {α : Type} (f : Place → α) : f q = f { (s.place p).counted (some k) with state := q.state, short := q.short, closePending := q.closePending } :=
      congrArg f same
    refine ⟨content Place.count, content Place.lastSerial, content Place.lastEntry, content Place.inbound, content Place.firstSerial,
      content Place.firstEntry, content Place.lane, content Place.customer, content Place.article, content Place.target, content Place.serial,
      fun full => ?_, fun below closes => ?_, open'⟩
    · obtain ⟨short, pending, closed⟩ := atTarget full
      exact ⟨short, pending, closed, busy (Or.inl full)⟩
    · obtain ⟨short, pending, closed⟩ := pendingClose below closes
      exact ⟨short, pending, closed, busy (Or.inr closes)⟩

end Sys2Proof.Machine
end


section
/-!
# The phantom arrival (R91, R92)

A phantom that a missing check waited on is followed by the purge. Through it the warnings stay latched (`Warned`), and of the lane's counters it
writes the lost one alone.
-/

namespace Sys2Proof.Machine

/-! ## Warnings stay latched -/

/-- Every warning of the set is in the set after, and none joins it but REPORT_DROPPED. -/
structure Warned (s t : State) : Prop where
  keeps : ∀ w, s.tables.warnings.has w = true → t.tables.warnings.has w = true
  only : ∀ w, w ≠ .reportDropped → t.tables.warnings.has w = true → s.tables.warnings.has w = true

namespace Warned

variable {s t u : State}

theorem ofTables (same : t.tables = s.tables) : Warned s t := ⟨fun w held => by rw [same]; exact held, fun w _ held => by rw [← same]; exact held⟩

theorem refl (s : State) : Warned s s := ofTables rfl

theorem trans (h : Warned s t) (k : Warned t u) : Warned s u :=
  ⟨fun w held => k.keeps w (h.keeps w held), fun w other held => h.only w other (k.only w other held)⟩

theorem foldl {α : Type} {f : State → α → State} (h : ∀ s a, Warned s (f s a)) (xs : List α) (s : State) : Warned s (xs.foldl f s) := by
  induction xs generalizing s with
  | nil => exact refl s
  | cons x xs ih => exact (h s x).trans (ih _)

theorem latchReportDropped (s : State) : Warned s (s.latchWarning .reportDropped) := by
  have has (w : Warning) : (s.latchWarning .reportDropped).tables.warnings.has w = (s.tables.warnings.has w || decide (w = .reportDropped)) :=
    WarningSet.latch_has _ _ _
  refine ⟨fun w held => by rw [has, held]; rfl, fun w other held => ?_⟩
  rw [has, decide_eq_false other, Bool.or_false] at held
  exact held

theorem produce (s : State) (r : Report) : Warned s (s.produce r) := by
  unfold State.produce State.raiseReportDropped
  repeat' split
  · exact ofTables rfl
  · exact refl s
  · exact latchReportDropped s

/-! ### Places -/

theorem tellStackClosed (s : State) (p : PlaceId) : Warned s (s.tellStackClosed p) := by
  unfold State.tellStackClosed State.stackClosed
  repeat' split
  all_goals exact ofTables rfl

theorem tryDischarge (s : State) : Warned s s.tryDischarge := by
  unfold State.tryDischarge State.startDischarge
  repeat' split
  all_goals exact ofTables rfl

theorem makeFull (s : State) (p : PlaceId) (short : Bool) : Warned s (s.makeFull p short) := by
  rw [State.makeFull_eq]
  exact trans (t := s.joinQueue p short) (ofTables rfl) ((tellStackClosed _ p).trans (tryDischarge _))

theorem shortClose (s : State) (p : PlaceId) : Warned s (s.shortClose p) := by
  unfold State.shortClose
  repeat' split
  · exact ofTables rfl
  · exact makeFull s p true
  · exact ofTables rfl
  · exact refl s

theorem clearInbound (s : State) (p : PlaceId) : Warned s (s.clearInbound p) := by
  unfold State.clearInbound
  split
  · dsimp only
    split
    · exact trans (t := s.modPlace p fun pl => { pl with inbound := false }) (ofTables rfl) (shortClose _ p)
    · exact ofTables rfl
  · exact refl s

theorem leavePlace (s : State) (r : PieceRecord) : Warned s (s.leavePlace r) := by
  unfold State.leavePlace
  split
  · exact clearInbound s _
  · exact refl s

theorem closeIdentity (s : State) (l : LaneId) (customer : Word) (article : Nat) : Warned s (s.closeIdentity l customer article) := by
  unfold State.closeIdentity
  repeat' split
  · exact shortClose s _
  · exact refl s
  · exact refl s

theorem freeEmptyFilling (s : State) (l : LaneId) : Warned s (s.freeEmptyFilling l) := by
  unfold State.freeEmptyFilling
  repeat' split
  · exact shortClose s _
  · exact refl s
  · exact refl s

/-! ### Bookings -/

theorem reportLot (s : State) (l : LaneId) (mark : Lot → Lot) : Warned s (s.reportLot l mark) := (produce s _).trans (ofTables rfl)

theorem addToLot (s : State) (l : LaneId) (e : EntryId) : Warned s (s.addToLot l e) := by
  have cut : Warned s (s.cutLot l e) := by
    unfold State.cutLot
    split
    · exact reportLot s l _
    · exact refl s
  have opened (u : State) : Warned u (u.openLot l e) := by
    unfold State.openLot
    split
    · exact refl u
    · exact ofTables rfl
  exact cut.trans ((opened _).trans (ofTables rfl))

theorem closeItem (s : State) (l : LaneId) (it : OpenItem) (st : EntryStatus) : Warned s (s.closeItem l it st) := by
  have noted (u : State) : Warned u (u.notifyEntry l it st) := by
    unfold State.notifyEntry
    split
    · exact produce u _
    · exact refl u
  exact trans (t := s.writeBackEntry it.entry st) (ofTables rfl) ((noted _).trans (addToLot _ l it.entry))

theorem endLot (s : State) (l : LaneId) (e : EntryId) : Warned s (s.endLot l e) := by
  unfold State.endLot
  split
  · exact (closeIdentity s l _ _).trans (reportLot _ l _)
  · exact refl s

theorem holdAfter (s : State) (l : LaneId) (e : EntryId) : Warned s (s.holdAfter l e) := by
  unfold State.holdAfter
  repeat' split
  all_goals exact ofTables rfl

theorem completeHead (s : State) (l : LaneId) (it : OpenItem) : Warned s (s.completeHead l it) :=
  (closeItem s l it .complete).trans ((endLot _ l _).trans ((holdAfter _ l _).trans (ofTables rfl)))

theorem cascade (n : Nat) (l : LaneId) (s : State) : Warned s (State.cascade n l s) := by
  induction n generalizing s with
  | zero => exact refl s
  | succ n ih =>
    unfold State.cascade
    repeat' split
    · exact refl s
    · exact (completeHead s l _).trans (ih _)
    · exact refl s

theorem book (s : State) (l : LaneId) (o : Retirement) (e : EntryId) : Warned s (s.book l o e) := by
  have drained (u : State) : Warned u (u.drain l e) := by
    unfold State.drain
    repeat' split
    · exact ofTables rfl
    · exact (completeHead u l _).trans (cascade _ l _)
    · exact ofTables rfl
  unfold State.book
  dsimp only
  split
  · exact trans (t := s.bumpEntry e o.entryIndex) (ofTables rfl) (drained _)
  · exact ofTables rfl

theorem bookTokens (s : State) (l : LaneId) (o : Retirement) (ts : List Token) : Warned s (s.bookTokens l o ts) := by
  unfold State.bookTokens
  refine foldl ?_ ts s
  intro s t
  exact book s l o t.entry

/-! ### Retirements and the purge -/

theorem examineSuspending (s : State) (l : LaneId) : Warned s (s.examineSuspending l) := by
  unfold State.examineSuspending
  split <;> exact ofTables rfl

theorem retire (s : State) (l : LaneId) (n : RecordNo) (o : Retirement) : Warned s (s.retire l n o) := by
  have counted (u : State) (r : PieceRecord) : Warned u (u.countRetirement l r o) := by
    unfold State.countRetirement
    dsimp only
    split <;> exact ofTables rfl
  unfold State.retire
  split
  · exact refl s
  · next r _ =>
    exact trans (t := s.freeRecord l r) (ofTables rfl)
      ((leavePlace _ r).trans ((bookTokens _ l o _).trans ((counted _ r).trans (examineSuspending _ l))))

theorem loseToken (s : State) (l : LaneId) (t : Token) : Warned s (s.loseToken l t) :=
  (book s l .lost t.entry).trans (trans (t := (s.book l .lost t.entry).addLaneCounter l Retirement.lost.laneIndex 1) (ofTables rfl)
    (examineSuspending _ l))

theorem purge (s : State) (l : LaneId) (f : LaneFault) : Warned s (s.purge l f) := by
  have records (u : State) : Warned u (u.purgeRecords l) := foldl (fun s n => retire s l n .lost) _ u
  have tokens (u : State) : Warned u (u.purgeTokens l) :=
    foldl (fun s (q : QueuedToken) => trans (t := s.popToken l) (ofTables rfl) (loseToken _ l q.token)) _ u
  have gated (u : State) : Warned u (u.holdGate l) := ofTables rfl
  exact trans (t := s.enterFaulted l f) (ofTables rfl)
    ((records _).trans ((tokens _).trans ((gated _).trans ((freeEmptyFilling _ l).trans (produce _ _)))))

end Warned

/-! ## Losses write the lost counter of the lane alone -/

/-- The counters of page 7 but the lost one of the lane are kept. -/
def LossesOnly (l : LaneId) (s t : State) : Prop := ∀ k, k ≠ 32 * l.val + 3 → t.word 7 k = s.word 7 k

namespace LossesOnly

variable {l : LaneId} {s t u : State}

theorem ofMem (mem : t.mem = s.mem) : LossesOnly l s t := fun k _ => congrArg (fun m : Mem => m.read (pageBase 7 + k)) mem

theorem refl (l : LaneId) (s : State) : LossesOnly l s s := ofMem rfl

theorem trans (h : LossesOnly l s t) (k : LossesOnly l t u) : LossesOnly l s u := fun n other => (k n other).trans (h n other)

theorem foldl {α : Type} {f : State → α → State} (h : ∀ s a, LossesOnly l s (f s a)) (xs : List α) (s : State) :
    LossesOnly l s (xs.foldl f s) := by
  induction xs generalizing s with
  | nil => exact refl l s
  | cons x xs ih => exact (h s x).trans (ih _)

theorem ofLoose (h : Loose s t) : LossesOnly l s t := fun k _ => h.counters k

theorem counted (s : State) (l : LaneId) (n : Nat) : LossesOnly l s (s.addLaneCounter l 3 n) := fun _ other =>
  State.word_addWord_other s n fun same => other (Nat.add_left_cancel same)

theorem retire (s : State) (l : LaneId) (n : RecordNo) : LossesOnly l s (s.retire l n .lost) := by
  cases found : s.findRecord l n with
  | none => unfold State.retire; rw [found]; exact refl l s
  | some r =>
    have number : r.number = n := (State.findRecord_mem found).2
    subst number
    have left : LossesOnly l s ((s.freeRecord l r).leavePlace r) := fun k _ =>
      (StackCounts.trans (t := s.freeRecord l r) (.ofMem rfl) (.leavePlace _ r)).counter k
    have one (u : State) : u.countRetirement l r .lost = u.addLaneCounter l 3 r.bookings := rfl
    rw [State.retire_of_found found, one]
    exact left.trans ((ofLoose (Loose.bookTokens _ l .lost _)).trans ((counted _ l _).trans (ofMem (State.examineSuspending_mem _ l))))

theorem purge (s : State) (l : LaneId) (f : LaneFault) : LossesOnly l s (s.purge l f) := by
  have lost (u : State) (t : Token) : LossesOnly l u (u.loseToken l t) :=
    (ofLoose (Loose.book u l .lost t.entry)).trans ((counted _ l 1).trans (ofMem (State.examineSuspending_mem _ l)))
  have records (u : State) : LossesOnly l u (u.purgeRecords l) := foldl (fun s n => retire s l n) _ u
  have tokens (u : State) : LossesOnly l u (u.purgeTokens l) :=
    foldl (fun s (q : QueuedToken) => trans (t := s.popToken l) (ofMem rfl) (lost _ q.token)) _ u
  have gated (u : State) : LossesOnly l u (u.holdGate l) := ofMem rfl
  exact trans (t := s.enterFaulted l f) (ofMem rfl)
    ((records _).trans ((tokens _).trans ((gated _).trans
      ((ofLoose (Quiet.freeEmptyFilling _ l).loose).trans (ofLoose (Quiet.produce _ _).loose)))))

end LossesOnly

/-! ## The phantom -/

section Phantom

variable {s : State} {l : LaneId} {c : PendingChange}

/-- An edge that no candidate matches. -/
theorem State.matching_none {p : Pos} (misses : s.candidate l = none ∨ ∃ r, s.candidate l = some r ∧
    (r.phase = .entering ∨ before p (r.expectedExit - posOf (s.exitWindow l)) = true)) : s.matching l p = none := by
  rw [State.matching]
  rcases misses with none | ⟨r, some, early⟩
  · rw [none]
  · rw [some]
    refine if_neg fun ⟨travelling, inside⟩ => ?_
    rcases early with entering | early
    · rw [entering] at travelling; cases travelling
    · rw [inExitWindow, early] at inside
      cases inside

theorem State.matching_exitAccepted (s : State) (l : LaneId) (p : Pos) : (s.exitAccepted l).matching l p = s.matching l p := by
  have lists : ((s.exitAccepted l).lane l).inFlight = (s.lane l).inFlight := by rw [State.exitAccepted_lane]
  unfold State.matching State.candidate
  rw [lists]
  rfl

/-- A confirmed leading edge that is passed on. -/
theorem exec_exitLeading (pending : (s.lane l).exit.pendingChange = some c) (raw : (s.lane l).exit.rawLevel = .covered)
    (level : (s.lane l).exit.level = .clear) (reach : reached s.track.position c.confirm = true) (passes : (s.lane l).mode.passes = true) :
    exec (.exitEyeConfirm l) s = .next ((s.exitAccepted l).exitLeading l c.start (s.lane l).exit.missingWaits).settle := by
  have differs : (s.lane l).exit.rawLevel ≠ (s.lane l).exit.level := by rw [raw, level]; decide
  rw [exec_exitEyeConfirm pending differs reach, State.confirmExit, if_pos passes, raw]
  rfl

/-- What a phantom does: it is counted and latched, and the arrival is PHANTOM. -/
theorem State.phantomArrival_leaves (wf : s.memWf) (p : Pos) :
    (s.phantomArrival l p).lane l =
        { s.lane l with exit := { (s.lane l).exit with
          arrival := .phantom, blockedTarget := some (p + posOf s.maxPieceLength + posOf (s.exitWindow l) + 1) } } ∧
      (s.phantomArrival l p).word 7 (32 * l.val + 16) = s.word 7 (32 * l.val + 16) + 1 ∧
      (s.phantomArrival l p).tables.warnings.has .phantom = true ∧ (s.phantomArrival l p).places = s.places := by
  have raised := Reports.raise (s.addLaneCounter l phantomIndex 1) .phantom (some l)
  refine ⟨?_, ?_, Reports.raised (s.addLaneCounter l phantomIndex 1) .phantom (some l), raised.places⟩
  · unfold State.phantomArrival State.modExit
    rw [State.modLane_lane_same, raised.lane]
    rfl
  · exact (congrArg (fun m : Mem => m.read _) raised.mem).trans (State.word_addWord_same s wf 7 (32 * l.val + 16) 1)

/-- An exit leading edge that matches no record (R92), and the fault of a missing check that waited on it (R91). -/
theorem phantomActs (wf : s.memWf) (pending : (s.lane l).exit.pendingChange = some c) (raw : (s.lane l).exit.rawLevel = .covered)
    (level : (s.lane l).exit.level = .clear) (reach : reached s.track.position c.confirm = true) (passes : (s.lane l).mode.passes = true)
    (misses : s.candidate l = none ∨ ∃ r, s.candidate l = some r ∧
      (r.phase = .entering ∨ before c.start (r.expectedExit - posOf (s.exitWindow l)) = true)) :
    ∃ t, exec (.exitEyeConfirm l) s = .next t ∧ (t.lane l).exit.level = .covered ∧ (t.lane l).exit.pendingChange = none ∧
      t.word 7 (32 * l.val + 16) = s.word 7 (32 * l.val + 16) + 1 ∧ t.tables.warnings.phantom = true ∧
      ((s.lane l).exit.missingWaits = false →
        (t.lane l).exit.arrival = .phantom ∧ (t.lane l).exit.route = (s.lane l).exit.route ∧
        (t.lane l).exit.blockedTarget = some (c.start + posOf s.maxPieceLength + posOf (s.exitWindow l) + 1) ∧
        (t.lane l).inFlight = (s.lane l).inFlight ∧ t.places = s.places) ∧
      ((s.lane l).exit.missingWaits = true →
        (t.lane l).mode = .faulted ∧ (t.lane l).faultCode = some .jam ∧ (t.lane l).exit.arrival = .absent ∧
        (t.lane l).exit.blockedTarget = none ∧ (t.lane l).exit.missingWaits = false ∧ (t.lane l).inFlight = [] ∧
        (t.lane l).tokens = []) := by
  have step := exec_exitLeading pending raw level reach passes
  rw [State.exitLeading, State.matching_exitAccepted, State.matching_none misses] at step
  dsimp only at step
  obtain ⟨lane, word, warned, places⟩ := State.phantomArrival_leaves (s := s.exitAccepted l) (l := l) wf c.start
  have accepted := s.exitAccepted_lane l
  rw [accepted] at lane
  have mode : (((s.exitAccepted l).phantomArrival l c.start).lane l).mode.passes = true := by rw [lane]; exact passes
  have wordBefore : (s.exitAccepted l).word 7 (32 * l.val + 16) = s.word 7 (32 * l.val + 16) := rfl
  rw [wordBefore] at word
  have placesBefore : (s.exitAccepted l).places = s.places := rfl
  rw [placesBefore] at places
  generalize (s.exitAccepted l).phantomArrival l c.start = u at *
  cases waits : (s.lane l).exit.missingWaits with
  | false =>
    rw [waits, if_neg Bool.false_ne_true] at step
    refine ⟨_, step, ?_⟩
    rw [State.settle_lane, Lane.settle_exit, Lane.settle_inFlight, lane]
    refine ⟨raw, rfl, word, ?_, fun _ => ⟨rfl, rfl, rfl, rfl, places⟩, fun yes => absurd yes Bool.false_ne_true⟩
    rw [State.settle_tables]
    exact warned
  | true =>
    rw [waits, if_pos rfl] at step
    have faulted := State.reportFault_faulted .jam mode
    refine ⟨_, step, ?_⟩
    rw [faulted.exit, lane]
    refine ⟨raw, rfl, ?_, ?_, fun no => absurd no.symm Bool.false_ne_true,
      fun _ => ⟨faulted.mode, faulted.faultCode, rfl, rfl, rfl, faulted.inFlight, faulted.tokens⟩⟩
    · rw [State.settle_word, State.reportFault_of_passes .jam mode]
      exact (LossesOnly.purge u l .jam (32 * l.val + 16) (by omega)).trans word
    · rw [State.settle_tables, State.reportFault_of_passes .jam mode]
      have held := (Warned.purge u l .jam).keeps .phantom warned
      generalize u.purge l .jam = v at held ⊢
      exact held

end Phantom

end Sys2Proof.Machine
end


section
/-!
# The matched arrival (R90, R98 to R101)

The destination of an accepted piece is asked for after the lane's FILLING place of another identity is closed short. `Opens` and `Starves` say
what the two ends of the search for a FREE place leave; the cases of O34 differ in the places that the search begins from.
-/

namespace Sys2Proof.Machine

/-! ## The lane's FILLING place (R100) -/

section FillingPlace

variable {s : State} {l : LaneId} {q : PlaceId} {customer : Word} {article : Nat}

theorem mem_allPlaces (p : PlaceId) : p ∈ allPlaces := (show ∀ q : PlaceId, q ∈ allPlaces by decide) p

theorem State.fillingPlace_some (found : s.fillingPlace l = some q) : (s.place q).state = .filling ∧ (s.place q).lane = some l :=
  of_decide_eq_true (List.find?_some (p := fun p => decide ((s.place p).state = .filling ∧ (s.place p).lane = some l)) found)

theorem State.fillingPlace_none (none : s.fillingPlace l = none) (p : PlaceId) (filling : (s.place p).state = .filling) :
    (s.place p).lane ≠ some l := fun lane => by
  have := List.find?_eq_none.mp none p (mem_allPlaces p)
  simp [filling, lane] at this

/-- A lane with no FILLING place of the identity. -/
theorem State.fillingOf_none (no : ∀ p, (s.place p).state = .filling → (s.place p).lane = some l →
    (s.place p).hasIdentity customer article = false) : s.fillingOf l customer article = none := by
  refine List.find?_eq_none.mpr fun p _ holds => ?_
  rw [Bool.and_eq_true] at holds
  obtain ⟨filling, lane⟩ := of_decide_eq_true holds.1
  rw [no p filling lane] at holds
  cases holds.2

/-- The lane's one FILLING place is the one of the identity it has. -/
theorem State.fillingOf_some (places : s.placesCoherent) (found : s.fillingPlace l = some q)
    (identity : (s.place q).hasIdentity customer article = true) : s.fillingOf l customer article = some q := by
  obtain ⟨filling, lane⟩ := State.fillingPlace_some found
  cases of : s.fillingOf l customer article with
  | none =>
    have := List.find?_eq_none.mp of q (mem_allPlaces q)
    simp [filling, lane, identity] at this
  | some p =>
    have test := List.find?_some (p := fun p => decide ((s.place p).state = .filling ∧ (s.place p).lane = some l) &&
      (s.place p).hasIdentity customer article) of
    rw [Bool.and_eq_true] at test
    obtain ⟨fillingP, laneP⟩ := of_decide_eq_true test.1
    rw [places.2.1 p q fillingP filling (laneP.trans lane.symm)]

theorem Place.hasIdentity_iff (pl : Place) : pl.hasIdentity customer article = true ↔ pl.customer = customer ∧ pl.article = article :=
  decide_eq_true_iff

/-- The first FREE place of the held list. -/
theorem State.firstFree_some {front back : List PlaceId} {p : PlaceId} (held : (s.lane l).held = front ++ p :: back)
    (before : ∀ x ∈ front, (s.place x).state ≠ .free) (free : (s.place p).state = .free) : s.firstFree l = some p := by
  rw [State.firstFree, held]
  exact (find?_eraseP_append (p := fun x : PlaceId => decide ((s.place x).state = .free)) (decide_eq_true free)
    fun x hx => decide_eq_false (before x hx)).1

theorem State.firstFree_none (no : ∀ x ∈ (s.lane l).held, (s.place x).state ≠ .free) : s.firstFree l = none :=
  List.find?_eq_none.mpr fun x hx => by simp [no x hx]

end FillingPlace

/-! ## A place for the identity (R100, R101) -/

/-- A FREE place opened for the lane with the next serial, and marked. -/
structure Opens (c : State) (l : LaneId) (customer : Word) (article target : Nat) (p : PlaceId) (a : State × Destination) : Prop where
  destination : a.2 = .place p
  serial : a.1.stackSerial = c.stackSerial + 1
  place : a.1.place p = { c.newStack l customer article target with inbound := true }
  other : ∀ q, q ≠ p → a.1.place q = c.place q

/-- No place to give. -/
structure Starves (c : State) (l : LaneId) (a : State × Destination) : Prop where
  destination : a.2 = .overflow
  serial : a.1.stackSerial = c.stackSerial
  starved : (a.1.lane l).starved = true
  warned : a.1.tables.warnings.has .overflow = true
  places : a.1.places = c.places

section PlaceFor

variable {c : State} {l : LaneId} {customer : Word} {article : Nat} (target : Nat)

theorem State.placeFor_opens (absent : c.fillingOf l customer article = none) {p : PlaceId} (first : c.firstFree l = some p) :
    Opens c l customer article target p (c.placeFor l customer article target) := by
  have opened : (c.openPlace p l customer article target).place p = c.newStack l customer article target :=
    State.modPlace_place_same c p fun _ => c.newStack l customer article target
  rw [State.placeFor, absent]
  dsimp only
  rw [first]
  exact {
    destination := rfl
    serial := rfl
    place := by
      have marked := State.modPlace_place_same (c.openPlace p l customer article target) p fun pl => { pl with inbound := true }
      rw [opened] at marked
      exact marked
    other := fun q h =>
      (State.modPlace_place_other (c.openPlace p l customer article target) (fun pl => { pl with inbound := true }) h).trans
        (State.modPlace_place_other c (fun _ => c.newStack l customer article target) h) }

theorem State.placeFor_starves (absent : c.fillingOf l customer article = none) (noFree : c.firstFree l = none) :
    Starves c l (c.placeFor l customer article target) := by
  have raised := Reports.raise c .overflow (some l)
  rw [State.placeFor, absent]
  dsimp only
  rw [noFree]
  exact {
    destination := rfl
    serial := (Quiet.raise c .overflow (some l)).stackSerial
    starved := by
      show (((c.raise .overflow (some l)).modLane l fun L => { L with starved := true }).lane l).starved = true
      rw [State.modLane_lane_same]
    warned := Reports.raised c .overflow (some l)
    places := raised.places }

theorem State.placeFor_stands {q : PlaceId} (stands : c.fillingOf l customer article = some q) :
    c.placeFor l customer article target = (c.markInbound q, .place q) := by
  rw [State.placeFor, stands]

end PlaceFor

/-! ## The other FILLING place closed short (R99, R103) -/

section Closed

variable {m : State} {l : LaneId} {q : PlaceId}

theorem State.tryDischarge_place_unqueued {s : State} {p : PlaceId} (unqueued : p ∉ s.discharge.queue) : s.tryDischarge.place p = s.place p := by
  unfold State.tryDischarge State.startDischarge
  split
  · split
    · rfl
    · next head rest queue =>
      have other : p ≠ head := fun e => unqueued (by rw [queue, e]; exact List.mem_cons_self)
      exact State.modPlace_place_other s (fun pl => { pl with state := .discharging }) other
  · rfl

/-- The places that are FREE stay so when a place is made FULL, and no other becomes FREE. -/
theorem State.makeFull_free_iff (queue : m.queueHoldsFull) (filling : (m.place q).state = .filling) (short : Bool) (x : PlaceId) :
    ((m.makeFull q short).place x).state = .free ↔ (m.place x).state = .free := by
  by_cases same : x = q
  · subst same
    have closed := (m.makeFull_place x short).2.1
    refine ⟨fun free => ?_, fun free => ?_⟩
    · rcases closed with state | state <;> rw [free] at state <;> cases state
    · rw [filling] at free; cases free
  · obtain ⟨places, discharge⟩ := (m.joinQueue q short).tellStackClosed_same q
    have before : ((m.joinQueue q short).tellStackClosed q).place x = m.place x :=
      (congrArg (fun v : Vector Place 8 => v[x]) places).trans
        (State.modPlace_place_other m (fun pl => { pl with state := .full, short := short, closePending := false }) same)
    rw [State.makeFull_eq]
    refine ⟨fun free => ?_, fun free => ?_⟩
    · rcases State.tryDischarge_place ((m.joinQueue q short).tellStackClosed q) x with kept | pushed
      · rw [kept, before] at free; exact free
      · rw [pushed] at free; cases free
    · have unqueued : x ∉ ((m.joinQueue q short).tellStackClosed q).discharge.queue := by
        rw [discharge]
        show x ∉ m.discharge.queue ++ [q]
        rw [List.mem_append, List.mem_singleton]
        rintro (queued | here)
        · have full := (queue.2.1 x).mp queued
          rw [free] at full; cases full
        · exact same here
      rw [State.tryDischarge_place_unqueued unqueued, before]
      exact free

end Closed

/-! ## The destination (R98, R99) -/

section Destination

variable {m : State} {l : LaneId} {r : PieceRecord}

theorem State.destinationFor_kept (other : r.verdict ≠ some .accept ∨ r.forceOverflow = true) : m.destinationFor l r = (m, .overflow) :=
  if_neg fun ⟨accept, kept⟩ => by
    rcases other with no | forced
    · exact no accept
    · rw [forced] at kept; cases kept

variable (accept : r.verdict = some .accept) (kept : r.forceOverflow = false)
include accept kept

theorem State.destinationFor_wait (waits : (m.lane l).mode = .wait) :
    m.destinationFor l r = (m.raise .overflow (some l), .overflow) := by
  rw [State.destinationFor, if_pos ⟨accept, kept⟩, if_pos waits]

theorem State.destinationFor_search (works : (m.lane l).mode ≠ .wait) {k : Token} {rest : List Token} (tokens : r.tokens = k :: rest) :
    m.destinationFor l r =
      (m.closeOtherIdentity l (m.entryCustomer k.entry) (m.entryArticle k.entry)).placeFor l (m.entryCustomer k.entry) (m.entryArticle k.entry)
        (m.heldTarget l k.entry) := by
  rw [State.destinationFor, if_pos ⟨accept, kept⟩, if_neg works, tokens]
  rfl

end Destination

section Search

variable {m : State} {l : LaneId} {q : PlaceId} {customer : Word} {article : Nat}

theorem State.closeOtherIdentity_stands (found : m.fillingPlace l = some q) (identity : (m.place q).hasIdentity customer article = true) :
    m.closeOtherIdentity l customer article = m := by
  rw [State.closeOtherIdentity, found]
  exact if_pos identity

theorem State.closeOtherIdentity_absent (none : m.fillingPlace l = none) : m.closeOtherIdentity l customer article = m := by
  rw [State.closeOtherIdentity, none]

theorem State.closeOtherIdentity_closes (found : m.fillingPlace l = some q) (other : (m.place q).hasIdentity customer article = false) :
    m.closeOtherIdentity l customer article = m.shortClose q := by
  rw [State.closeOtherIdentity, found]
  exact if_neg (by simp [other])

/-- After its FILLING place has been closed the lane has none. -/
theorem State.fillingOf_closed {c : State} (places : m.placesCoherent) (found : m.fillingPlace l = some q) (quiet : Quiet m c)
    (closed : (c.place q).state ≠ .filling) : c.fillingOf l customer article = none := by
  obtain ⟨filling, lane⟩ := State.fillingPlace_some found
  refine State.fillingOf_none fun p fillingP laneP => ?_
  obtain ⟨before, laneBefore⟩ := quiet.places.filling p fillingP
  have same : p = q := places.2.1 p q before filling (laneBefore.symm.trans (laneP.trans lane.symm))
  exact absurd (same ▸ fillingP) closed

/-- The search for a FREE place from a state `c` with the lane's held list, in which `free` says which places are FREE. -/
theorem State.placeFor_searches {c : State} {held : List PlaceId} {free : PlaceId → Prop} (target : Nat)
    (absent : c.fillingOf l customer article = none) (list : (c.lane l).held = held) (isFree : ∀ p, (c.place p).state = .free ↔ free p) :
    (∀ p front back, held = front ++ p :: back → (∀ x ∈ front, ¬ free x) → free p →
      Opens c l customer article target p (c.placeFor l customer article target)) ∧
    ((∀ x ∈ held, ¬ free x) → Starves c l (c.placeFor l customer article target)) ∧
    ∀ x, ¬ free x → (c.placeFor l customer article target).1.place x = c.place x := by
  refine ⟨fun p front back split before here => ?_, fun all => ?_, fun x taken => ?_⟩
  · exact State.placeFor_opens target absent
      (State.firstFree_some (list.trans split) (fun x hx h => before x hx ((isFree x).mp h)) ((isFree p).mpr here))
  · exact State.placeFor_starves target absent (State.firstFree_none fun x hx h => all x (list ▸ hx) ((isFree x).mp h))
  · cases first : c.firstFree l with
    | none =>
      exact congrArg (fun v : Vector Place 8 => v[x]) (State.placeFor_starves target absent first).places
    | some p =>
      have opened : (c.place p).state = .free :=
        of_decide_eq_true (List.find?_some (p := fun p => decide ((c.place p).state = .free)) first)
      refine (State.placeFor_opens target absent first).other x ?_
      rintro rfl
      exact taken ((isFree x).mp opened)

end Search

/-! ## The arrival -/

section Arrival

variable {u : State} {l : LaneId} {r : PieceRecord}

/-- The lane that asks for the destination of the record: the record AT_EXIT, the arrival MATCHED. -/
theorem State.markMatched_lane (u : State) (l : LaneId) (n : RecordNo) : (u.markMatched l n).lane l =
    { u.lane l with
      inFlight := modNumber n (fun r => { r with phase := .atExit }) (u.lane l).inFlight
      exit := { (u.lane l).exit with arrival := .matched n } } := by
  unfold State.markMatched State.modRecord
  rw [LaneMoves.State.modExit_lane, State.modLane_lane_same]
  rfl

theorem modNumber_modNumber {n : RecordNo} {f g : PieceRecord → PieceRecord} (number : ∀ r, (f r).number = r.number) (rs : List PieceRecord) :
    modNumber n g (modNumber n f rs) = modNumber n (fun r => g (f r)) rs := by
  unfold modNumber
  rw [List.map_map]
  refine List.map_congr_left fun x _ => ?_
  by_cases h : x.number = n <;> simp [h, number]

/-- The lane after a matched arrival. -/
theorem State.matchArrival_lane (u : State) (l : LaneId) (r : PieceRecord) (p : Pos) :
    let a := (u.markMatched l r.number).destinationFor l r
    let t := u.matchArrival l r p
    (t.lane l).exit = { (u.lane l).exit with
      arrival := .matched r.number, route := a.2, blockedTarget := some (p + posOf r.lengthOf + posOf (u.exitWindow l) + 1) } ∧
    (t.lane l).inFlight = modNumber r.number (fun x => { x with phase := .atExit, destination := some a.2 }) (u.lane l).inFlight ∧
    (t.lane l).starved = (a.1.lane l).starved := by
  intro a t
  have books := (BooksAll.destinationFor (u.markMatched l r.number) l r).lanes l
  have lane : t.lane l =
      { a.1.lane l with
        inFlight := modNumber r.number (fun x => { x with destination := some a.2 }) (a.1.lane l).inFlight
        exit := { (a.1.lane l).exit with route := a.2, blockedTarget := some (p + posOf r.lengthOf + posOf (u.exitWindow l) + 1) } } := by
    show (a.1.setDestination l r.number a.2 _).lane l = _
    unfold State.setDestination State.modRecord
    rw [LaneMoves.State.modExit_lane, State.modLane_lane_same]
    rfl
  have exit : (a.1.lane l).exit = { (u.lane l).exit with arrival := .matched r.number } := by
    rw [books.same]
    dsimp only
    rw [State.markMatched_lane]
  have inFlight : (a.1.lane l).inFlight = modNumber r.number (fun r => { r with phase := .atExit }) (u.lane l).inFlight := by
    rw [books.inFlight, State.markMatched_lane]
  rw [lane]
  dsimp only
  rw [exit, inFlight, modNumber_modNumber (f := fun r => { r with phase := .atExit }) (fun _ => rfl)]
  exact ⟨rfl, rfl, rfl⟩

end Arrival

end Sys2Proof.Machine
end


section
/-!
# The leading edge of the exit eye (O34)

A matched arrival is `matchArrival`; its destination is asked of the state in which the record is AT_EXIT, whose places are those before the
event. A phantom is `phantomActs`.
-/

namespace Sys2Proof.Machine

section Matched

variable {s : State} {l : LaneId} {c : PendingChange} {r : PieceRecord}

theorem State.matching_some {p : Pos} (candidate : s.candidate l = some r) (travels : r.phase = .travelling)
    (inside : inExitWindow p r.expectedExit (s.exitWindow l) = true) : s.matching l p = some r := by
  rw [State.matching, candidate]
  exact if_pos ⟨travels, inside⟩

/-- The state that the destination is asked of. -/
def State.asking (s : State) (l : LaneId) (n : RecordNo) : State := (s.exitAccepted l).markMatched l n

theorem State.asking_lane (s : State) (l : LaneId) (n : RecordNo) : (s.asking l n).lane l =
    { s.lane l with
      inFlight := modNumber n (fun r => { r with phase := .atExit }) (s.lane l).inFlight
      exit := { (s.lane l).exit.accept with arrival := .matched n } } := by
  unfold State.asking
  rw [State.markMatched_lane, State.exitAccepted_lane]

/-- What the destination leaves of the state after the event. -/
structure Asked (s : State) (l : LaneId) (r : PieceRecord) (t : State) : Prop where
  places : t.places = ((s.asking l r.number).destinationFor l r).1.places
  serial : t.stackSerial = ((s.asking l r.number).destinationFor l r).1.stackSerial
  warnings : t.tables.warnings = ((s.asking l r.number).destinationFor l r).1.tables.warnings
  starved : (t.lane l).starved = (((s.asking l r.number).destinationFor l r).1.lane l).starved

theorem Asked.place {t : State} (h : Asked s l r t) (p : PlaceId) :
    t.place p = ((s.asking l r.number).destinationFor l r).1.place p := congrArg (fun v : Vector Place 8 => v[p]) h.places

/-- The search for a place, by the FILLING place that the lane has. -/
theorem searches {t : State} (asked : Asked s l r t) (accept : r.verdict = some .accept) (kept : r.forceOverflow = false)
    (works : (s.lane l).mode ≠ .wait) (places : s.placesCoherent) (queue : s.queueHoldsFull) {k : Token} {rest : List Token}
    (tokens : r.tokens = k :: rest) :
    let d := ((s.asking l r.number).destinationFor l r).2
    let customer := s.entryCustomer k.entry
    let article := s.entryArticle k.entry
    let same (q : PlaceId) : Prop := (s.place q).customer = customer ∧ (s.place q).article = article
    let opens (p : PlaceId) : Prop :=
      d = .place p ∧ t.stackSerial = s.stackSerial + 1 ∧
      t.place p =
        { Place.reset with
          state := .filling, lane := some l, customer := customer, article := article, target := s.heldTarget l k.entry,
          serial := s.stackSerial, inbound := true }
    let starves : Prop :=
      d = .overflow ∧ t.stackSerial = s.stackSerial ∧ (t.lane l).starved = true ∧ t.tables.warnings.overflow = true
    let firstOf (free : PlaceId → Prop) (p : PlaceId) : Prop :=
      ∃ front back, (s.lane l).held = front ++ p :: back ∧ (∀ q ∈ front, ¬ free q) ∧ free p
    let free (p : PlaceId) : Prop := (s.place p).state = .free
    (∀ q, s.fillingPlace l = some q → same q →
      d = .place q ∧ t.place q = { s.place q with inbound := true } ∧ t.stackSerial = s.stackSerial ∧
      ∀ p, p ≠ q → t.place p = s.place p) ∧
    (s.fillingPlace l = none →
      (∀ p, firstOf free p → opens p ∧ ∀ q, q ≠ p → t.place q = s.place q) ∧
      ((∀ p ∈ (s.lane l).held, ¬ free p) → starves ∧ t.places = s.places)) ∧
    (∀ q, s.fillingPlace l = some q → ¬ same q → (s.place q).inbound = false → 0 < (s.place q).count →
      (t.place q).short = true ∧ (t.place q).count = (s.place q).count ∧
      ((t.place q).state = .full ∨ (t.place q).state = .discharging) ∧
      (∀ p, firstOf free p → opens p) ∧ ((∀ p ∈ (s.lane l).held, ¬ free p) → starves)) ∧
    (∀ q, s.fillingPlace l = some q → ¬ same q → (s.place q).inbound = false → (s.place q).count = 0 →
      (∀ p, firstOf (fun x => free x ∨ x = q) p → opens p ∧ (p ≠ q → t.place q = Place.reset)) ∧
      ((∀ p ∈ (s.lane l).held, ¬ free p ∧ p ≠ q) → starves ∧ t.place q = Place.reset)) := by
  intro d customer article same opens starves firstOf free
  have asks := State.destinationFor_search (m := s.asking l r.number) (l := l) accept kept (by rw [State.asking_lane]; exact works) tokens
  have target : (s.asking l r.number).heldTarget l k.entry = s.heldTarget l k.entry := by
    unfold State.heldTarget
    rw [State.asking_lane]
  have entry : (s.asking l r.number).entryCustomer k.entry = customer ∧ (s.asking l r.number).entryArticle k.entry = article := ⟨rfl, rfl⟩
  have held : ((s.asking l r.number).lane l).held = (s.lane l).held := by rw [State.asking_lane]
  have place (p : PlaceId) : (s.asking l r.number).place p = s.place p := rfl
  have found : (s.asking l r.number).fillingPlace l = s.fillingPlace l := rfl
  have serial : (s.asking l r.number).stackSerial = s.stackSerial := rfl
  have allPlaces : (s.asking l r.number).places = s.places := rfl
  have places' : (s.asking l r.number).placesCoherent := places
  have queue' : (s.asking l r.number).queueHoldsFull := queue
  rw [target, entry.1, entry.2] at asks
  have placeT := asked.place
  obtain ⟨placesT, serialT, warningsT, starvedT⟩ := asked
  have destination : d = ((s.asking l r.number).destinationFor l r).2 := rfl
  rw [asks] at placeT placesT serialT warningsT starvedT destination
  clear_value d
  generalize s.asking l r.number = m at *
  have opened {c : State} (before : c.stackSerial = s.stackSerial) {p : PlaceId}
      (o : Opens c l customer article (s.heldTarget l k.entry) p
        ((m.closeOtherIdentity l customer article).placeFor l customer article (s.heldTarget l k.entry))) : opens p := by
    refine ⟨destination.trans o.destination, serialT.trans (o.serial.trans (by rw [before])), ?_⟩
    rw [placeT, o.place, State.newStack, before]
  have starved {c : State} (before : c.stackSerial = s.stackSerial)
      (o : Starves c l ((m.closeOtherIdentity l customer article).placeFor l customer article (s.heldTarget l k.entry))) : starves :=
    ⟨destination.trans o.destination, serialT.trans (o.serial.trans before), starvedT.trans o.starved, by rw [warningsT]; exact o.warned⟩
  have identity (q : PlaceId) : (m.place q).hasIdentity customer article = true ↔ same q := by rw [place]; exact Place.hasIdentity_iff _
  refine ⟨fun q filling sameQ => ?stands, fun none => ?absent, fun q filling other unmarked holds => ?closed,
    fun q filling other unmarked empty => ?freed⟩
  case stands =>
    have stands : m.closeOtherIdentity l customer article = m := State.closeOtherIdentity_stands (found.trans filling) ((identity q).mpr sameQ)
    have of := State.fillingOf_some places' (found.trans filling) ((identity q).mpr sameQ)
    rw [stands, State.placeFor_stands _ of] at placeT serialT destination
    refine ⟨destination, ?_, serialT.trans serial, fun p apart => ?_⟩
    · rw [placeT, ← place]
      exact State.modPlace_place_same m q _
    · rw [placeT, ← place]
      exact State.modPlace_place_other m _ apart
  case absent =>
    have stays : m.closeOtherIdentity l customer article = m := State.closeOtherIdentity_absent (found.trans none)
    have of : m.fillingOf l customer article = Option.none :=
      State.fillingOf_none fun p filling lane => absurd lane (State.fillingPlace_none (found.trans none) p filling)
    obtain ⟨first, all, -⟩ := State.placeFor_searches (free := free) (s.heldTarget l k.entry) of held fun p => by rw [place]
    rw [stays] at opened starved placeT placesT
    refine ⟨fun p ⟨front, back, split, before, here⟩ => ?_, fun no => ?_⟩
    · have o := first p front back split before here
      exact ⟨opened serial o, fun q apart => (placeT q).trans ((o.other q apart).trans (place q))⟩
    · have o := all no
      exact ⟨starved serial o, placesT.trans (o.places.trans allPlaces)⟩
  case closed =>
    have fillingQ := State.fillingPlace_some (found.trans filling)
    have closes : m.closeOtherIdentity l customer article = m.makeFull q true := by
      rw [State.closeOtherIdentity_closes (found.trans filling) (Bool.eq_false_iff.mpr fun yes => other ((identity q).mp yes)),
        State.shortClose_of_counted fillingQ.1 (by rw [place]; exact unmarked) (by rw [place]; exact holds)]
    have quiet := Quiet.makeFull m q true fillingQ.1 (by rw [place]; exact unmarked)
    obtain ⟨contents, closed, -⟩ := m.makeFull_place q true
    have notFilling : ((m.makeFull q true).place q).state ≠ .filling := by rcases closed with e | e <;> rw [e] <;> decide
    have notFree : ¬ free q := by
      show ¬ (s.place q).state = .free
      rw [← place, fillingQ.1]
      decide
    have isFree (p : PlaceId) : ((m.makeFull q true).place p).state = .free ↔ free p := by
      rw [State.makeFull_free_iff queue' fillingQ.1, place]
    obtain ⟨first, all, taken⟩ := State.placeFor_searches (free := free) (s.heldTarget l k.entry)
      (State.fillingOf_closed (customer := customer) (article := article) places' (found.trans filling) quiet notFilling)
      ((congrArg Lane.held (quiet.lanes l)).trans held) isFree
    rw [closes] at opened starved placeT
    have still : t.place q = (m.makeFull q true).place q := (placeT q).trans (taken q notFree)
    have before := quiet.stackSerial.trans serial
    have count : ((m.makeFull q true).place q).count = (s.place q).count := by
      rw [contents, ← place]
    rw [still]
    refine ⟨(congrArg Place.short contents).trans rfl, count, closed,
      fun p ⟨front, back, split, early, here⟩ => opened before (first p front back split early here), fun no => starved before (all no)⟩
  case freed =>
    have fillingQ := State.fillingPlace_some (found.trans filling)
    have closes : m.closeOtherIdentity l customer article = m.freePlace q := by
      rw [State.closeOtherIdentity_closes (found.trans filling) (Bool.eq_false_iff.mpr fun yes => other ((identity q).mp yes)),
        State.shortClose_of_empty fillingQ.1 (by rw [place]; exact unmarked) (by rw [place]; exact empty)]
    have quiet := Quiet.freePlace m q fillingQ.1 (by rw [place]; exact unmarked)
    have reset : (m.freePlace q).place q = Place.reset := State.modPlace_place_same m q fun _ => Place.reset
    have rest (p : PlaceId) (apart : p ≠ q) : (m.freePlace q).place p = s.place p :=
      (State.modPlace_place_other m (fun _ => Place.reset) apart).trans (place p)
    have isFree (p : PlaceId) : ((m.freePlace q).place p).state = .free ↔ free p ∨ p = q := by
      by_cases here : p = q
      · rw [here, reset]
        exact ⟨fun _ => Or.inr rfl, fun _ => rfl⟩
      · rw [rest p here]
        exact ⟨Or.inl, fun yes => yes.resolve_right here⟩
    obtain ⟨first, all, -⟩ := State.placeFor_searches (free := fun p => free p ∨ p = q) (s.heldTarget l k.entry)
      (State.fillingOf_closed (customer := customer) (article := article) places' (found.trans filling) quiet (by rw [reset]; decide))
      ((congrArg Lane.held (quiet.lanes l)).trans held) isFree
    rw [closes] at opened starved placeT
    have before := quiet.stackSerial.trans serial
    refine ⟨fun p ⟨front, back, split, early, here⟩ => ?_, fun no => ?_⟩
    · have o := first p front back split early here
      exact ⟨opened before o, fun apart => (placeT q).trans ((o.other q apart.symm).trans reset)⟩
    · have o := all fun x hx yes => yes.elim (no x hx).1 (no x hx).2
      refine ⟨starved before o, (placeT q).trans ?_⟩
      exact (congrArg (fun v : Vector Place 8 => v[q]) o.places).trans reset

end Matched

/-- Settles O34: the matched arrival with the search for its place, and the phantom. -/
theorem exitLeadingEdgeActs : Obligations.ExitLeadingEdgeActs := by
  refine ⟨fun s l c r whole pending raw level reach passes candidate travels inside => ?_,
    fun s l c wf pending raw level reach passes misses => phantomActs wf pending raw level reach passes misses⟩
  have step := exec_exitLeading pending raw level reach passes
  rw [State.exitLeading, State.matching_exitAccepted, State.matching_some candidate travels inside] at step
  dsimp only at step
  obtain ⟨exit, inFlight, starved⟩ := State.matchArrival_lane (s.exitAccepted l) l r c.start
  have asked : Asked s l r ((s.exitAccepted l).matchArrival l r c.start).settle :=
    ⟨rfl, rfl, rfl, by rw [State.settle_lane]; exact starved⟩
  have lane := s.exitAccepted_lane l
  have window : (s.exitAccepted l).exitWindow l = s.exitWindow l := rfl
  rw [lane, window] at exit
  rw [lane] at inFlight
  generalize (s.exitAccepted l).matchArrival l r c.start = v at *
  refine ⟨_, ((s.asking l r.number).destinationFor l r).2, step, ?_⟩
  rw [State.settle_lane, Lane.settle_exit, Lane.settle_inFlight, exit, inFlight, ← State.settle_lane]
  refine ⟨raw, rfl, rfl, rfl, rfl, rfl, fun other => ?_, fun accept kept waits => ?_, fun accept kept works coherent k rest tokens => ?_⟩
  · have same := State.destinationFor_kept (m := s.asking l r.number) (l := l) other
    obtain ⟨places, serial, warnings, -⟩ := asked
    rw [same] at places serial warnings ⊢
    exact ⟨rfl, places, serial, warnings⟩
  · have same := State.destinationFor_wait (m := s.asking l r.number) (l := l) accept kept (by rw [State.asking_lane]; exact waits)
    obtain ⟨places, serial, warnings, -⟩ := asked
    rw [same] at places serial warnings ⊢
    have raised := Reports.raise (s.asking l r.number) .overflow (some l)
    refine ⟨rfl, places.trans raised.places, serial.trans (Quiet.raise (s.asking l r.number) .overflow (some l)).stackSerial, ?_⟩
    rw [warnings]
    exact Reports.raised (s.asking l r.number) .overflow (some l)
  · obtain ⟨-, -, queue, places, -, -⟩ := coherent
    exact searches asked accept kept works places queue tokens

end Sys2Proof.Machine
end


section
/-!
# Assignment and the quota step (R124, R125, R129)

An assignment below the quota counts a token; at the quota the entry is CLOSING, the cursor moves on, and the claim is made there. `Assigned` is
what an assignment leaves, and what PIECE telegrams need of it.
-/

namespace Sys2Proof.Machine

/-! ## The quota step -/

section Quota

variable {s : State} {l : LaneId} {e : EntryId}

/-- The entry CLOSING with the token counted, and the cursor moved on. -/
def State.atQuota (s : State) (l : LaneId) (e : EntryId) : State :=
  ((s.bumpEntry e 6).setEntryStatus e .closing).modLane l fun L => { L with cursor := s.nextIndex l e }

theorem State.entryWord_count (wf : s.memWf) (e : EntryId) : (s.bumpEntry e 6).entryWord e 6 = s.entryWord e 6 + 1 :=
  State.entryWord_bumpEntry_same wf e 6

theorem State.nextIndex_bumpEntry (s : State) (l : LaneId) (e : EntryId) : (s.bumpEntry e 6).nextIndex l e = s.nextIndex l e := by
  have word : (s.bumpEntry e 6).entryWord e 0 = s.entryWord e 0 :=
    State.entryWord_bumpEntry_other (by decide) (by decide) (Or.inr (by decide))
  unfold State.nextIndex State.entryWrap
  rw [word]
  rfl

theorem State.assign_cases (wf : s.memWf) (l : LaneId) (e : EntryId) :
    (s.entryWord e 6 + 1 ≠ s.entryWord e 3 → s.assign l e = s.bumpEntry e 6) ∧
    (s.entryWord e 6 + 1 = s.entryWord e 3 → s.assign l e = (s.atQuota l e).stepClaim l) := by
  have quota : (s.bumpEntry e 6).entryWord e 3 = s.entryWord e 3 :=
    State.entryWord_bumpEntry_other (by decide) (by decide) (Or.inr (by decide))
  have iff : (s.bumpEntry e 6).entryAssigned e = (s.bumpEntry e 6).entryQuota e ↔ s.entryWord e 6 + 1 = s.entryWord e 3 := by
    unfold State.entryAssigned State.entryQuota
    rw [State.entryWord_count wf, quota]
    exact BitVec.toNat_inj
  unfold State.assign
  dsimp only
  refine ⟨fun below => if_neg fun full => below (iff.mp full), fun full => (if_pos (iff.mpr full)).trans ?_⟩
  rw [State.quotaStep]
  refine congrArg (fun u : State => u.stepClaim l) ?_
  unfold State.atQuota
  rw [State.nextIndex_bumpEntry]

theorem State.atQuota_memWf (wf : s.memWf) : (s.atQuota l e).memWf :=
  State.setEntryStatus_memWf (State.bumpEntry_memWf wf e (by decide)) e .closing

theorem State.atQuota_lane : (s.atQuota l e).lane l = { s.lane l with cursor := s.nextIndex l e } := State.modLane_lane_same _ l _

/-- Of the entries only the assigned count and the status of this one differ. -/
theorem State.entryWord_atQuota {f : EntryId} {k : Nat} (hk : k < 12) (other : f ≠ e ∨ (k ≠ 0 ∧ k ≠ 6)) :
    (s.atQuota l e).entryWord f k = s.entryWord f k :=
  (State.entryWord_setEntryStatus_other .closing hk (other.imp_right And.left)).trans
    (State.entryWord_bumpEntry_other hk (by decide) (other.imp_right And.right))

theorem State.entryWord_atQuota_count (wf : s.memWf) : (s.atQuota l e).entryWord e 6 = s.entryWord e 6 + 1 :=
  (State.entryWord_setEntryStatus_other (s := s.bumpEntry e 6) .closing (by decide) (Or.inr (by decide))).trans (State.entryWord_count wf e)

theorem State.entryStatus_atQuota (wf : s.memWf) : (s.atQuota l e).entryStatus e = some .closing :=
  State.entryStatus_setEntryStatus_same (State.bumpEntry_memWf wf e (by decide)) e .closing

theorem PlanKept.atQuota (s : State) (l : LaneId) (e : EntryId) : PlanKept s (s.atQuota l e) :=
  (PlanKept.setEntryWord s e _ (by decide) (Or.inr (by decide))).trans (PlanKept.setEntryWord (s.bumpEntry e 6) e _ (by decide) (Or.inl rfl))

/-- An ACTIVE entry that closes waits for no claim, before and after; every other entry waits as it did. -/
theorem State.entryWaits_atQuota (wf : s.memWf) (active : s.entryStatus e = some .active) (n : EntryId) :
    (s.atQuota l e).entryWaits n = s.entryWaits n := by
  by_cases same : n = e
  · have before : s.entryWaits n = false := by simp [State.entryWaits, same, active]
    have after : (s.atQuota l e).entryWaits n = false := by simp [State.entryWaits, same, State.entryStatus_atQuota wf]
    rw [before, after]
  · have word : (s.atQuota l e).entryWord n 0 = s.entryWord n 0 := State.entryWord_atQuota (by decide) (Or.inl same)
    unfold State.entryWaits State.entryValid State.entryStatus
    rw [word]

theorem State.claimable_atQuota (wf : s.memWf) (active : s.entryStatus e = some .active) (n : EntryId) :
    (s.atQuota l e).claimable n = s.claimable n := by
  unfold State.claimable
  rw [State.entryWaits_atQuota wf active, (PlanKept.atQuota s l e).planValid]

theorem State.canClaim_atQuota (wf : s.memWf) (active : s.entryStatus e = some .active) :
    (s.atQuota l e).canClaim l = true ↔ s.claimable (s.nextIndex l e) = true ∧ (s.lane l).openList.length < 16 := by
  unfold State.canClaim
  rw [State.atQuota_lane]
  dsimp only
  rw [State.claimable_atQuota wf active, Bool.and_eq_true]
  exact and_congr_right fun _ => decide_eq_true_iff

theorem State.ne_of_claimable {n : EntryId} (active : s.entryStatus e = some .active) (can : s.claimable n = true) : n ≠ e := by
  rintro rfl
  simp [State.claimable, State.entryWaits, active] at can

/-- A claim that finds a waiting entry unfit latches BAD_ENTRY (R123). -/
theorem State.claim_warns (waits : s.entryWaits (s.lane l).cursor = true) (unfit : s.planValid (s.lane l).cursor = false) :
    s.claim l = s.raise .badEntry (some l) := by
  have cannot : s.canClaim l = false := by simp [State.canClaim, State.claimable, unfit]
  rw [State.claim, if_neg (by simp [cannot]), if_pos (by simp [waits, unfit])]

/-- A failed claim after the quota. -/
def State.turnsDry (s : State) (l : LaneId) : State := if (s.lane l).mode = .running then (s.claim l).setMode l .dry else s.claim l

theorem State.stepClaim_of_cannot (cannot : s.canClaim l = false) : s.stepClaim l = s.turnsDry l := by
  rw [State.stepClaim, if_neg (by simp [cannot])]
  rfl

theorem State.stepClaim_of_can (can : s.canClaim l = true) : s.stepClaim l = s.takeEntry l (s.lane l).cursor := by
  rw [State.stepClaim, if_pos can, State.claim_of_can can]

theorem State.turnsDry_leaves (cannot : s.canClaim l = false) :
    (s.turnsDry l).lane l = { s.lane l with mode := if (s.lane l).mode = .running then .dry else (s.lane l).mode } ∧
    (s.turnsDry l).mem = s.mem ∧ (s.turnsDry l).tables = (s.claim l).tables := by
  have reports := State.claim_reports cannot
  unfold State.turnsDry
  split
  · refine ⟨?_, reports.mem, rfl⟩
    unfold State.setMode
    rw [State.modLane_lane_same, reports.lane]
  · exact ⟨reports.lane l, reports.mem, rfl⟩

end Quota

/-! ## What an assignment leaves -/

/-- A token assigned to the ACTIVE entry of the lane: `t` is the state after. -/
structure Assigned (l : LaneId) (e : EntryId) (s t : State) : Prop where
  count : t.entryWord e 6 = s.entryWord e 6 + 1
  owner : t.entryWord e 5 = s.entryWord e 5
  lost : t.entryWord e 10 = s.entryWord e 10
  wf : t.memWf
  tokenLost : t.tables.warnings.has .tokenLost = s.tables.warnings.has .tokenLost
  below : s.entryWord e 6 + 1 ≠ s.entryWord e 3 → t.entryStatus e = some .active ∧ t.lane l = s.lane l
  status : s.entryWord e 6 + 1 = s.entryWord e 3 → t.entryStatus e = some .closing
  claims : s.entryWord e 6 + 1 = s.entryWord e 3 → s.claimable (s.nextIndex l e) = true → (s.lane l).openList.length < 16 →
    t.entryStatus (s.nextIndex l e) = some .active ∧ t.entryWord (s.nextIndex l e) 5 = wordOf l.val ∧
    (∀ k, 6 ≤ k → k ≤ 11 → t.entryWord (s.nextIndex l e) k = 0) ∧
    t.lane l = { s.lane l with
      cursor := s.nextIndex l e, openList := (s.lane l).openList ++ [⟨s.nextIndex l e, s.resolvedTarget (s.nextIndex l e)⟩] }
  fails : s.entryWord e 6 + 1 = s.entryWord e 3 → s.claimable (s.nextIndex l e) = false ∨ 16 ≤ (s.lane l).openList.length →
    t.lane l = { s.lane l with cursor := s.nextIndex l e, mode := if (s.lane l).mode = .running then .dry else (s.lane l).mode }
  badEntry : s.entryWord e 6 + 1 = s.entryWord e 3 → s.entryWaits (s.nextIndex l e) = true → s.planValid (s.nextIndex l e) = false →
    t.tables.warnings.has .badEntry = true

section Assign

variable {s : State} {l : LaneId} {e : EntryId}

theorem State.raise_has_other {w v : Warning} (n : Option LaneId) (other : v ≠ w) (notDropped : v ≠ .reportDropped) :
    (s.raise w n).tables.warnings.has v = s.tables.warnings.has v := by
  rw [Bool.eq_iff_iff]
  refine ⟨fun held => ?_, (Reports.raise s w n).warnings⟩
  unfold State.raise at held
  split at held
  · exact held
  · have before := (Warned.produce _ _).only v notDropped held
    have has : (s.latchWarning w).tables.warnings.has v = (s.tables.warnings.has v || decide (v = w)) := WarningSet.latch_has _ _ _
    rw [has, decide_eq_false other, Bool.or_false] at before
    exact before

theorem State.claim_tokenLost (s : State) (l : LaneId) : (s.claim l).tables.warnings.has .tokenLost = s.tables.warnings.has .tokenLost := by
  unfold State.claim
  split
  · rw [State.takeEntry_same]
  · split
    · exact State.raise_has_other _ (by decide) (by decide)
    · rfl

/-- Below the quota only the count changes. -/
theorem Assigned.counted (wf : s.memWf) (active : s.entryStatus e = some .active) (below : s.entryWord e 6 + 1 ≠ s.entryWord e 3) :
    Assigned l e s (s.bumpEntry e 6) where
  count := State.entryWord_count wf e
  owner := State.entryWord_bumpEntry_other (by decide) (by decide) (Or.inr (by decide))
  lost := State.entryWord_bumpEntry_other (by decide) (by decide) (Or.inr (by decide))
  wf := State.bumpEntry_memWf wf e (by decide)
  tokenLost := rfl
  below := fun _ => ⟨(State.entryStatus_of_word (State.entryWord_bumpEntry_other (by decide) (by decide) (Or.inr (by decide)))).trans active, rfl⟩
  status := fun full => absurd full below
  claims := fun full => absurd full below
  fails := fun full => absurd full below
  badEntry := fun full => absurd full below

/-- At the quota with a claim: the next entry is taken. -/
theorem Assigned.claimed (wf : s.memWf) (active : s.entryStatus e = some .active) (full : s.entryWord e 6 + 1 = s.entryWord e 3)
    (can : s.claimable (s.nextIndex l e) = true) (room : (s.lane l).openList.length < 16) :
    Assigned l e s ((s.atQuota l e).takeEntry l (s.nextIndex l e)) := by
  have wf' : (s.atQuota l e).memWf := State.atQuota_memWf wf
  have apart : e ≠ s.nextIndex l e := (State.ne_of_claimable active can).symm
  have word {k : Nat} (hk : k < 12) : ((s.atQuota l e).takeEntry l (s.nextIndex l e)).entryWord e k = (s.atQuota l e).entryWord e k := by
    rw [State.entryWord_takeEntry wf' l _ e hk, if_neg apart]
  have taken {k : Nat} (hk : k < 12) : ((s.atQuota l e).takeEntry l (s.nextIndex l e)).entryWord (s.nextIndex l e) k =
      (if k = 0 then withStatus ((s.atQuota l e).entryWord (s.nextIndex l e) 0) .active else if k = 5 then wordOf l.val
        else if 6 ≤ k then 0 else (s.atQuota l e).entryWord (s.nextIndex l e) k) := by
    rw [State.entryWord_takeEntry wf' l _ _ hk, if_pos rfl]
  have plan : s.entryArticle (s.nextIndex l e) ≤ 63 := by
    rw [State.claimable, Bool.and_eq_true] at can
    exact State.planValid_article can.2
  exact {
    count := (word (by decide)).trans (State.entryWord_atQuota_count wf)
    owner := (word (by decide)).trans (State.entryWord_atQuota (by decide) (Or.inr (by decide)))
    lost := (word (by decide)).trans (State.entryWord_atQuota (by decide) (Or.inr (by decide)))
    wf := (Inside.takeEntry l _ _).wf wf'
    tokenLost := by rw [State.takeEntry_same]; rfl
    below := fun below => absurd full below
    status := fun _ => by rw [State.entryStatus_takeEntry wf', if_neg apart]; exact State.entryStatus_atQuota wf
    claims := fun _ _ _ => by
      refine ⟨by rw [State.entryStatus_takeEntry wf', if_pos rfl], by rw [taken (by decide)]; rfl, fun k low high => ?_, ?_⟩
      · rw [taken (by omega), if_neg (by omega), if_neg (by omega), if_pos low]
      · rw [State.takeEntry_lane_same, State.atQuota_lane, (PlanKept.atQuota s l e).resolvedTarget plan]
    fails := fun _ cannot => by
      rcases cannot with no | long
      · rw [can] at no; cases no
      · omega
    badEntry := fun _ _ unfit => by simp [State.claimable, unfit] at can }

/-- At the quota with a failed claim: a RUNNING lane turns DRY. -/
theorem Assigned.failed (wf : s.memWf) (active : s.entryStatus e = some .active) (full : s.entryWord e 6 + 1 = s.entryWord e 3)
    (cannot : s.claimable (s.nextIndex l e) = false ∨ 16 ≤ (s.lane l).openList.length) :
    Assigned l e s ((s.atQuota l e).turnsDry l) := by
  have cannot' : (s.atQuota l e).canClaim l = false := by
    rw [← Bool.not_eq_true, State.canClaim_atQuota wf active]
    rintro ⟨can, room⟩
    rcases cannot with no | long
    · rw [can] at no; cases no
    · omega
  obtain ⟨lane, mem, tables⟩ := State.turnsDry_leaves cannot'
  have word (f : EntryId) (k : Nat) : ((s.atQuota l e).turnsDry l).entryWord f k = (s.atQuota l e).entryWord f k :=
    congrArg (fun m : Mem => m.read (pageBase 4 + (12 * f.val + k))) mem
  exact {
    count := (word e 6).trans (State.entryWord_atQuota_count wf)
    owner := (word e 5).trans (State.entryWord_atQuota (by decide) (Or.inr (by decide)))
    lost := (word e 10).trans (State.entryWord_atQuota (by decide) (Or.inr (by decide)))
    wf := by unfold State.memWf; rw [mem]; exact State.atQuota_memWf wf
    tokenLost := by rw [tables]; exact State.claim_tokenLost _ l
    below := fun below => absurd full below
    status := fun _ => (State.entryStatus_of_word (word e 0)).trans (State.entryStatus_atQuota wf)
    claims := fun _ can room => by
      rcases cannot with no | long
      · rw [can] at no; cases no
      · omega
    fails := fun _ _ => by rw [lane, State.atQuota_lane]
    badEntry := fun _ waits unfit => by
      have cursor : ((s.atQuota l e).lane l).cursor = s.nextIndex l e := by rw [State.atQuota_lane]
      rw [tables, State.claim_warns]
      · exact Reports.raised _ _ _
      · rw [cursor, State.entryWaits_atQuota wf active]; exact waits
      · rw [cursor, (PlanKept.atQuota s l e).planValid]; exact unfit }

theorem State.assigned (wf : s.memWf) (active : s.entryStatus e = some .active) : Assigned l e s (s.assign l e) := by
  obtain ⟨counts, steps⟩ := State.assign_cases wf l e
  by_cases full : s.entryWord e 6 + 1 = s.entryWord e 3
  · rw [steps full]
    by_cases can : (s.atQuota l e).canClaim l = true
    · obtain ⟨claimable, room⟩ := (State.canClaim_atQuota wf active).mp can
      rw [State.stepClaim_of_can can, State.atQuota_lane]
      exact .claimed wf active full claimable room
    · rw [State.stepClaim_of_cannot (Bool.eq_false_iff.mpr can)]
      refine .failed wf active full ?_
      by_cases claimable : s.claimable (s.nextIndex l e) = true
      · exact Or.inr (Nat.not_lt.mp fun room => can ((State.canClaim_atQuota wf active).mpr ⟨claimable, room⟩))
      · exact Or.inl (Bool.eq_false_iff.mpr claimable)
  · rw [counts full]
    exact .counted wf active full

theorem State.activeEntry_status (h : s.activeEntry l = some e) : s.entryStatus e = some .active := by
  unfold State.activeEntry at h
  split at h
  · split at h
    · next active =>
      injection h with h
      rw [← h]
      exact active
    · cases h
  · cases h

end Assign

end Sys2Proof.Machine
end


section
/-!
# PIECE telegrams (R30 to R33)

A working lane assigns and queues the token, through the re-read where it has no ACTIVE entry; a FAULTED lane writes it off.
-/

namespace Sys2Proof.Machine

/-! ## What an assignment leaves of the lane and of page 7 -/

section Lane

variable {s t : State} {l : LaneId} {e : EntryId}

/-- Of the lane only the cursor, the open-entry list and the state differ, and the state only from RUNNING to DRY. -/
theorem Assigned.laneTurns (h : Assigned l e s t) :
    ∃ cursor items mode, t.lane l = { s.lane l with cursor := cursor, openList := items, mode := mode } ∧
      (mode = (s.lane l).mode ∨ ((s.lane l).mode = .running ∧ mode = .dry)) := by
  by_cases full : s.entryWord e 6 + 1 = s.entryWord e 3
  · by_cases claims : s.claimable (s.nextIndex l e) = true ∧ (s.lane l).openList.length < 16
    · exact ⟨_, _, _, (h.claims full claims.1 claims.2).2.2.2, Or.inl rfl⟩
    · have fails : s.claimable (s.nextIndex l e) = false ∨ 16 ≤ (s.lane l).openList.length := by
        rw [← Bool.not_eq_true, ← Nat.not_lt]
        exact not_and_or.mp claims
      refine ⟨_, _, _, h.fails full fails, ?_⟩
      split
      · next running => exact Or.inr ⟨running, rfl⟩
      · exact Or.inl rfl
  · exact ⟨_, _, _, (h.below full).2, Or.inl rfl⟩

theorem Assigned.cursor (h : Assigned l e s t) (full : s.entryWord e 6 + 1 = s.entryWord e 3) : (t.lane l).cursor = s.nextIndex l e := by
  by_cases claims : s.claimable (s.nextIndex l e) = true ∧ (s.lane l).openList.length < 16
  · rw [(h.claims full claims.1 claims.2).2.2.2]
  · rw [h.fails full (by rw [← Bool.not_eq_true, ← Nat.not_lt]; exact not_and_or.mp claims)]

theorem State.counter_setEntryWord (s : State) (e : EntryId) {k : Nat} (hk : k < 12) (w : Word) (o : Nat) :
    (s.setEntryWord e k w).word 7 o = s.word 7 o := State.word_setWord_other s w (entryAddress_ne_counter e hk o)

theorem State.counter_takeEntry (s : State) (l : LaneId) (e : EntryId) (o : Nat) : (s.takeEntry l e).word 7 o = s.word 7 o := by
  have zeroed (ks : List Nat) (range : ∀ k ∈ ks, k < 12) (u : State) :
      (ks.foldl (fun s k => s.setEntryWord e k 0#16) u).word 7 o = u.word 7 o := by
    induction ks generalizing u with
    | nil => rfl
    | cons k ks ih =>
      exact (ih (fun j mem => range j (List.mem_cons_of_mem _ mem)) _).trans (State.counter_setEntryWord u e (range k List.mem_cons_self) _ o)
  refine (zeroed [6, 7, 8, 9, 10, 11] (by decide) _).trans ?_
  exact (State.counter_setEntryWord _ e (by decide) _ o).trans (State.counter_setEntryWord s e (by decide) _ o)

/-- An assignment writes no counter. -/
theorem State.counter_assign (wf : s.memWf) (l : LaneId) (e : EntryId) (o : Nat) : (s.assign l e).word 7 o = s.word 7 o := by
  obtain ⟨counts, steps⟩ := State.assign_cases wf l e
  by_cases full : s.entryWord e 6 + 1 = s.entryWord e 3
  · have before : (s.atQuota l e).word 7 o = s.word 7 o :=
      (State.counter_setEntryWord _ e (by decide) _ o).trans (State.counter_setEntryWord s e (by decide) _ o)
    rw [steps full, ← before]
    by_cases can : (s.atQuota l e).canClaim l = true
    · rw [State.stepClaim_of_can can]
      exact State.counter_takeEntry _ _ _ o
    · rw [State.stepClaim_of_cannot (Bool.eq_false_iff.mpr can)]
      obtain ⟨_, mem, _⟩ := State.turnsDry_leaves (Bool.eq_false_iff.mpr can)
      exact congrArg (fun m : Mem => m.read (pageBase 7 + o)) mem
  · rw [counts full]
    exact State.counter_setEntryWord s e (by decide) _ o

end Lane

/-! ## The token accepted (R30, R31) -/

section Accept

variable {s : State} {a : Announcement} {e : EntryId}

/-- The token as it stands in the queue. -/
def State.queuedToken (s : State) (a : Announcement) (e : EntryId) : QueuedToken :=
  ⟨s.tokenFor a e, s.track.position, s.track.position + posOf (s.tokenTravelLimit a.lane)⟩

theorem State.tokenTravelLimit_assign (s : State) (l m : LaneId) (e : EntryId) : (s.assign l e).tokenTravelLimit m = s.tokenTravelLimit m := by
  have plan := (Inside.assign l s e).beside.plan
  unfold State.tokenTravelLimit State.row
  rw [plan.word (by decide) (by omega)]

theorem State.acceptToken_lane (s : State) (a : Announcement) (e : EntryId) :
    (s.acceptToken a e).lane a.lane =
      { (s.assign a.lane e).lane a.lane with
        tokens := ((s.assign a.lane e).lane a.lane).tokens ++ [s.queuedToken a e]
        mode := ((s.assign a.lane e).lane a.lane).mode.woken } := by
  unfold State.acceptToken State.queueToken State.queuedToken
  rw [State.wakeSuspended_lane, if_pos rfl, State.modLane_lane_same, (Inside.assign a.lane s e).track, State.tokenTravelLimit_assign]

theorem State.acceptToken_rest (s : State) (a : Announcement) (e : EntryId) :
    (s.acceptToken a e).mem = (s.assign a.lane e).mem ∧ (s.acceptToken a e).tables = (s.assign a.lane e).tables := by
  have woken (u : State) : (u.wakeSuspended a.lane).mem = u.mem ∧ (u.wakeSuspended a.lane).tables = u.tables := by
    unfold State.wakeSuspended
    split <;> exact ⟨rfl, rfl⟩
  exact woken _

theorem State.acceptToken_entryWord (s : State) (a : Announcement) (e f : EntryId) (k : Nat) :
    (s.acceptToken a e).entryWord f k = (s.assign a.lane e).entryWord f k :=
  congrArg (fun m : Mem => m.read (pageBase 4 + (12 * f.val + k))) (State.acceptToken_rest s a e).1

theorem State.acceptToken_entryStatus (s : State) (a : Announcement) (e f : EntryId) :
    (s.acceptToken a e).entryStatus f = (s.assign a.lane e).entryStatus f := State.entryStatus_of_word (State.acceptToken_entryWord s a e f 0)

theorem LaneMode.woken_of_ne {m : LaneMode} (h : m ≠ .suspended) : m.woken = m := if_neg h

/-- What the token's lane and its entry hold after a token is accepted for the ACTIVE entry. -/
structure Accepted (a : Announcement) (e : EntryId) (s u : State) : Prop where
  receive : u.ring.receive = s.ring.receive
  tokens : (u.lane a.lane).tokens = (s.lane a.lane).tokens ++ [s.queuedToken a e]
  inFlight : (u.lane a.lane).inFlight = (s.lane a.lane).inFlight
  count : u.entryWord e 6 = s.entryWord e 6 + 1
  owner : u.entryWord e 5 = s.entryWord e 5
  suspending : (s.lane a.lane).mode = .suspended → (u.lane a.lane).mode = .suspending
  below : s.entryWord e 6 + 1 ≠ s.entryWord e 3 →
    u.entryStatus e = some .active ∧ (u.lane a.lane).cursor = (s.lane a.lane).cursor ∧ (u.lane a.lane).openList = (s.lane a.lane).openList ∧
    ((s.lane a.lane).mode ≠ .suspended → (u.lane a.lane).mode = (s.lane a.lane).mode)
  full : s.entryWord e 6 + 1 = s.entryWord e 3 →
    u.entryStatus e = some .closing ∧ (u.lane a.lane).cursor = s.nextIndex a.lane e
  claims : s.entryWord e 6 + 1 = s.entryWord e 3 → s.claimable (s.nextIndex a.lane e) = true → (s.lane a.lane).openList.length < 16 →
    (u.entryStatus (s.nextIndex a.lane e) = some .active ∧ u.entryWord (s.nextIndex a.lane e) 5 = wordOf a.lane.val) ∧
    (∀ k, 6 ≤ k → k ≤ 11 → u.entryWord (s.nextIndex a.lane e) k = 0) ∧
    (u.lane a.lane).openList = (s.lane a.lane).openList ++ [⟨s.nextIndex a.lane e, s.resolvedTarget (s.nextIndex a.lane e)⟩] ∧
    ((s.lane a.lane).mode ≠ .suspended → (u.lane a.lane).mode = (s.lane a.lane).mode)
  fails : s.entryWord e 6 + 1 = s.entryWord e 3 → s.claimable (s.nextIndex a.lane e) = false ∨ 16 ≤ (s.lane a.lane).openList.length →
    (u.lane a.lane).openList = (s.lane a.lane).openList ∧
    ((s.lane a.lane).mode ≠ .suspended →
      (u.lane a.lane).mode = if (s.lane a.lane).mode = .running then .dry else (s.lane a.lane).mode)
  badEntry : s.entryWord e 6 + 1 = s.entryWord e 3 → s.entryWaits (s.nextIndex a.lane e) = true → s.planValid (s.nextIndex a.lane e) = false →
    u.tables.warnings.badEntry = true

/-- The assignment gives the entries, the lane's cursor, list and state; the token at the tail and the waking give the rest. -/
theorem Accepted.ofAssigned {t v : State} (assigned : Assigned a.lane e s t)
    (lane : v.lane a.lane =
      { t.lane a.lane with tokens := (t.lane a.lane).tokens ++ [s.queuedToken a e], mode := (t.lane a.lane).mode.woken })
    (mem : v.mem = t.mem) (tables : v.tables = t.tables) (receive : v.ring.receive = s.ring.receive) : Accepted a e s v.settle := by
  have lane := (State.settle_lane v a.lane).trans (congrArg Lane.settle lane)
  have word (f : EntryId) (k : Nat) : v.settle.entryWord f k = t.entryWord f k :=
    congrArg (fun m : Mem => m.read (pageBase 4 + (12 * f.val + k))) mem
  have status (f : EntryId) : v.settle.entryStatus f = t.entryStatus f := State.entryStatus_of_word (word f 0)
  have warnings : v.settle.tables.warnings = t.tables.warnings := by rw [State.settle_tables, tables]
  obtain ⟨cursor, items, mode, turns, modes⟩ := assigned.laneTurns
  refine {
    receive := by rw [State.settle_ring]; exact receive
    tokens := by rw [lane, turns]; rfl
    inFlight := by rw [lane, turns]; rfl
    count := (word e 6).trans assigned.count
    owner := (word e 5).trans assigned.owner
    suspending := fun suspended => ?suspending
    below := fun below => ?below
    full := fun full => ⟨(status e).trans (assigned.status full), by rw [lane]; exact assigned.cursor full⟩
    claims := fun full can room => ?claims
    fails := fun full cannot => ?fails
    badEntry := fun full waits unfit => by rw [warnings]; exact assigned.badEntry full waits unfit }
  case suspending =>
    rw [suspended] at modes
    have same : mode = .suspended := modes.resolve_right fun h => nomatch h.1
    rw [lane, turns, same]
    rfl
  case below =>
    obtain ⟨active', same⟩ := assigned.below below
    rw [lane, same]
    exact ⟨(status e).trans active', rfl, rfl, LaneMode.woken_of_ne⟩
  case claims =>
    obtain ⟨claimed, owner, zero, same⟩ := assigned.claims full can room
    rw [lane, same]
    exact ⟨⟨(status _).trans claimed, (word _ 5).trans owner⟩, fun k low high => (word _ k).trans (zero k low high), rfl, LaneMode.woken_of_ne⟩
  case fails =>
    rw [lane, assigned.fails full cannot]
    refine ⟨rfl, fun awake => LaneMode.woken_of_ne ?_⟩
    dsimp only
    split
    · nofun
    · exact awake

theorem State.accepted (wf : s.memWf) (active : s.entryStatus e = some .active) : Accepted a e s (s.acceptToken a e).settle := by
  obtain ⟨mem, tables⟩ := State.acceptToken_rest s a e
  obtain ⟨_, ring⟩ := (Inside.acceptToken s a e).ring
  have receive := congrArg Ring.receive ring
  have lane := State.acceptToken_lane s a e
  generalize s.acceptToken a e = v at *
  exact .ofAssigned (State.assigned wf active) lane mem tables receive

end Accept

end Sys2Proof.Machine
end


section
/-!
# The re-read for a token, and the token of a FAULTED lane (R32, R33)
-/

namespace Sys2Proof.Machine

/-! ## The re-read claims (R32) -/

section Reread

variable {s : State} {a : Announcement}

/-- The claim made for a token, with the waking of a DRY lane. -/
def State.claimedFor (s : State) (a : Announcement) : State := (s.takeEntry a.lane (s.lane a.lane).cursor).wakeDry a.lane

theorem State.wakeDry_lane (s : State) (l : LaneId) :
    (s.wakeDry l).lane l = { s.lane l with mode := if (s.lane l).mode = .dry then .running else (s.lane l).mode } := by
  unfold State.wakeDry
  split
  · unfold State.setMode
    rw [State.modLane_lane_same]
  · rfl

theorem State.wakeDry_mem (s : State) (l : LaneId) : (s.wakeDry l).mem = s.mem := by
  unfold State.wakeDry
  split <;> rfl

theorem State.wakeDry_track (s : State) (l : LaneId) : (s.wakeDry l).track = s.track := by
  unfold State.wakeDry
  split <;> rfl

theorem State.wakeDry_ring (s : State) (l : LaneId) : (s.wakeDry l).ring = s.ring := by
  unfold State.wakeDry
  split <;> rfl

theorem State.canClaim_iff {l : LaneId} :
    s.canClaim l = true ↔ s.claimable (s.lane l).cursor = true ∧ (s.lane l).openList.length < 16 := by
  unfold State.canClaim
  rw [Bool.and_eq_true]
  exact and_congr_right fun _ => decide_eq_true_iff

theorem State.rereadForToken_of_can (can : s.canClaim a.lane = true) :
    s.rereadForToken a = (s.claimedFor a).acceptToken a (s.lane a.lane).cursor := by
  rw [State.rereadForToken, if_pos can, State.claim_of_can can]
  rfl

theorem State.claimedFor_lane (s : State) (a : Announcement) :
    (s.claimedFor a).lane a.lane =
      { s.lane a.lane with
        openList := (s.lane a.lane).openList ++ [⟨(s.lane a.lane).cursor, s.resolvedTarget (s.lane a.lane).cursor⟩]
        mode := if (s.lane a.lane).mode = .dry then .running else (s.lane a.lane).mode } := by
  unfold State.claimedFor
  rw [State.wakeDry_lane, State.takeEntry_lane_same]

theorem State.claimedFor_mem (s : State) (a : Announcement) : (s.claimedFor a).mem = (s.takeEntry a.lane (s.lane a.lane).cursor).mem :=
  State.wakeDry_mem _ _

theorem State.claimedFor_memWf (wf : s.memWf) (a : Announcement) : (s.claimedFor a).memWf := by
  unfold State.memWf
  rw [State.claimedFor_mem]
  exact (Inside.takeEntry a.lane s _).wf wf

/-- The words of the entry at the cursor. -/
theorem State.claimedFor_entryWord (wf : s.memWf) (a : Announcement) {k : Nat} (hk : k < 12) :
    (s.claimedFor a).entryWord (s.lane a.lane).cursor k =
      if k = 0 then withStatus (s.entryWord (s.lane a.lane).cursor 0) .active else if k = 5 then wordOf a.lane.val
      else if 6 ≤ k then 0 else s.entryWord (s.lane a.lane).cursor k := by
  have word : (s.claimedFor a).entryWord (s.lane a.lane).cursor k =
      (s.takeEntry a.lane (s.lane a.lane).cursor).entryWord (s.lane a.lane).cursor k :=
    congrArg (fun m : Mem => m.read (pageBase 4 + (12 * (s.lane a.lane).cursor.val + k))) (State.claimedFor_mem s a)
  rw [word, State.entryWord_takeEntry wf _ _ _ hk, if_pos rfl]

theorem State.claimedFor_entryStatus (wf : s.memWf) (a : Announcement) : (s.claimedFor a).entryStatus (s.lane a.lane).cursor = some .active := by
  unfold State.entryStatus
  rw [State.claimedFor_entryWord wf a (by decide), if_pos rfl, statusField_withStatus]

/-- The status does not reach the WRAP bit. -/
theorem State.claimedFor_nextIndex (wf : s.memWf) (a : Announcement) :
    (s.claimedFor a).nextIndex a.lane (s.lane a.lane).cursor = s.nextIndex a.lane (s.lane a.lane).cursor := by
  have wrap : (s.claimedFor a).entryWrap (s.lane a.lane).cursor = s.entryWrap (s.lane a.lane).cursor := by
    unfold State.entryWrap
    rw [State.claimedFor_entryWord wf a (by decide), if_pos rfl]
    exact (getLsbD_withStatus _ _ 9).trans rfl
  unfold State.nextIndex
  rw [wrap, State.claimedFor_lane]

/-- A token is queued the same: it needs the plan and the Track Monitor. -/
theorem State.claimedFor_queuedToken (s : State) (a : Announcement) (e : EntryId) : (s.claimedFor a).queuedToken a e = s.queuedToken a e := by
  have plan : PlanKept s (s.claimedFor a) := by
    intro b planned
    rw [State.claimedFor_mem]
    exact (Inside.takeEntry a.lane s _).beside.plan b planned
  have track : (s.claimedFor a).track = s.track := (State.wakeDry_track _ _).trans (Inside.takeEntry a.lane s _).track
  have limit : (s.claimedFor a).tokenTravelLimit a.lane = s.tokenTravelLimit a.lane := by
    unfold State.tokenTravelLimit State.row
    rw [plan.word (by decide) (by omega)]
  unfold State.queuedToken State.tokenFor
  rw [plan.entryArticle, track, limit]

/-- What the token's lane and the entry at the cursor hold after the re-read claimed it for the token. -/
structure Adopted (a : Announcement) (c : EntryId) (s u : State) : Prop where
  tokens : (u.lane a.lane).tokens = (s.lane a.lane).tokens ++ [s.queuedToken a c]
  inFlight : (u.lane a.lane).inFlight = (s.lane a.lane).inFlight
  count : u.entryWord c 6 = 1
  owner : u.entryWord c 5 = wordOf a.lane.val
  suspending : (s.lane a.lane).mode = .suspended → (u.lane a.lane).mode = .suspending
  below : s.entryQuota c ≠ 1 →
    u.entryStatus c = some .active ∧ (u.lane a.lane).cursor = c ∧
    (u.lane a.lane).openList = (s.lane a.lane).openList ++ [⟨c, s.resolvedTarget c⟩] ∧
    ((s.lane a.lane).mode = .dry → (u.lane a.lane).mode = .running) ∧
    ((s.lane a.lane).mode = .wait ∨ (s.lane a.lane).mode = .suspending → (u.lane a.lane).mode = (s.lane a.lane).mode)
  full : s.entryQuota c = 1 → u.entryStatus c = some .closing ∧ (u.lane a.lane).cursor = s.nextIndex a.lane c

theorem State.adopted (wf : s.memWf) (a : Announcement) :
    Adopted a (s.lane a.lane).cursor s ((s.claimedFor a).acceptToken a (s.lane a.lane).cursor).settle := by
  have accepted := State.accepted (a := a) (State.claimedFor_memWf wf a) (State.claimedFor_entryStatus wf a)
  have lane := State.claimedFor_lane s a
  have count : (s.claimedFor a).entryWord (s.lane a.lane).cursor 6 = 0 := State.claimedFor_entryWord wf a (by decide)
  have owner : (s.claimedFor a).entryWord (s.lane a.lane).cursor 5 = wordOf a.lane.val := State.claimedFor_entryWord wf a (by decide)
  have planned : (s.claimedFor a).entryWord (s.lane a.lane).cursor 3 = s.entryWord (s.lane a.lane).cursor 3 :=
    State.claimedFor_entryWord wf a (by decide)
  have atQuota : (s.claimedFor a).entryWord (s.lane a.lane).cursor 6 + 1 = (s.claimedFor a).entryWord (s.lane a.lane).cursor 3 ↔
      s.entryQuota (s.lane a.lane).cursor = 1 := by
    rw [count, planned]
    exact ⟨fun same => congrArg BitVec.toNat same.symm, fun same => (BitVec.eq_of_toNat_eq (y := 1#16) same).symm⟩
  have token := State.claimedFor_queuedToken s a (s.lane a.lane).cursor
  have next := State.claimedFor_nextIndex wf a
  generalize ((s.claimedFor a).acceptToken a (s.lane a.lane).cursor).settle = u at *
  generalize s.claimedFor a = y at *
  refine {
    tokens := by rw [accepted.tokens, lane, token]
    inFlight := by rw [accepted.inFlight, lane]
    count := by rw [accepted.count, count]; rfl
    owner := accepted.owner.trans owner
    suspending := fun suspended => accepted.suspending ?_
    below := fun below => ?below
    full := fun full => ?full }
  · rw [lane]
    exact (if_neg (by rw [suspended]; decide)).trans suspended
  case below =>
    obtain ⟨active, cursor, items, mode⟩ := accepted.below fun full => below (atQuota.mp full)
    rw [lane] at cursor items mode
    refine ⟨active, cursor, items, fun dry => ?_, fun rests => ?_⟩
    · have running : (if (s.lane a.lane).mode = .dry then LaneMode.running else (s.lane a.lane).mode) = .running := if_pos dry
      exact (mode fun same => nomatch running.symm.trans same).trans running
    · have same : (if (s.lane a.lane).mode = .dry then LaneMode.running else (s.lane a.lane).mode) = (s.lane a.lane).mode :=
        if_neg fun dry => by rw [dry] at rests; exact rests.elim nofun nofun
      refine (mode fun suspended => ?_).trans same
      rw [same.symm.trans suspended] at rests
      exact rests.elim nofun nofun
  case full =>
    obtain ⟨closing, cursor⟩ := accepted.full (atQuota.mpr full)
    exact ⟨closing, cursor.trans next⟩

/-- What is left of a token that finds no entry (R32). -/
theorem State.rereadForToken_discards (cannot : s.canClaim a.lane = false) :
    ((s.rereadForToken a).settle.lane a.lane).tokens = (s.lane a.lane).tokens ∧
    ((s.rereadForToken a).settle.lane a.lane).mode = (s.lane a.lane).mode ∧
    ((s.rereadForToken a).settle.lane a.lane).cursor = (s.lane a.lane).cursor ∧
    ((s.rereadForToken a).settle.lane a.lane).openList = (s.lane a.lane).openList ∧
    (s.rereadForToken a).settle.mem = s.mem ∧ (s.rereadForToken a).settle.tables.warnings.unplannedToken = true ∧
    (s.entryWaits (s.lane a.lane).cursor = true → s.planValid (s.lane a.lane).cursor = false →
      (s.rereadForToken a).settle.tables.warnings.badEntry = true) := by
  have claimed := State.claim_reports cannot
  have discarded := Reports.raise (s.claim a.lane) .unplannedToken (some a.lane)
  have latched := Reports.raised (s.claim a.lane) .unplannedToken (some a.lane)
  have badEntry (waits : s.entryWaits (s.lane a.lane).cursor = true) (unfit : s.planValid (s.lane a.lane).cursor = false) :
      (s.claim a.lane).tables.warnings.has .badEntry = true := by
    rw [State.claim_warns waits unfit]
    exact Reports.raised _ _ _
  rw [State.rereadForToken, if_neg (by simp [cannot]), State.discardToken]
  generalize s.claim a.lane = t at *
  generalize t.raise .unplannedToken (some a.lane) = u at *
  rw [State.settle_lane, discarded.lane, claimed.lane, State.settle_tables]
  exact ⟨rfl, rfl, rfl, rfl, discarded.mem.trans claimed.mem, latched, fun waits unfit => discarded.warnings (badEntry waits unfit)⟩

end Reread

/-! ## The token of a FAULTED lane (R33) -/

section WriteOff

variable {s : State} {a : Announcement} {e : EntryId}

/-- The loss of a token leaves the assigned counts. -/
theorem State.entryAssigned_loseToken (s : State) (l : LaneId) (t : Token) (f : EntryId) :
    (s.loseToken l t).entryWord f 6 = s.entryWord f 6 := by
  have booked : CountsKept (s.bumpEntry t.entry Retirement.lost.entryIndex) (s.book l .lost t.entry) := CountsKept.book s l .lost t.entry
  have counted : CountsKept (s.book l .lost t.entry) (s.loseToken l t) :=
    (CountsKept.addLaneCounter _ l 3 1).trans (CountsKept.examineSuspending _ l)
  exact ((booked.trans counted) f 6 (by decide) (by decide)).trans (State.entryWord_bumpEntry_other (by decide) (by decide) (Or.inr (by decide)))

/-- The loss of a token latches nothing on its own: TOKEN_LOST is raised for expired tokens alone. -/
theorem Warned.same (h : Warned s u) {w : Warning} (other : w ≠ .reportDropped) : u.tables.warnings.has w = s.tables.warnings.has w :=
  Bool.eq_iff_iff.mpr ⟨h.only w other, h.keeps w⟩

theorem State.wroteOff (wf : s.memWf) (faulted : (s.lane a.lane).mode = .faulted) (active : s.activeEntry a.lane = some e) :
    ((s.writeOffToken a).settle.lane a.lane).tokens = (s.lane a.lane).tokens ∧ ((s.writeOffToken a).settle.lane a.lane).mode = .faulted ∧
    (s.writeOffToken a).settle.entryWord e 6 = s.entryWord e 6 + 1 ∧ (s.writeOffToken a).settle.entryWord e 10 = s.entryWord e 10 + 1 ∧
    (s.writeOffToken a).settle.word 7 (32 * a.lane.val + 3) = s.word 7 (32 * a.lane.val + 3) + 1 ∧
    (s.writeOffToken a).settle.tables.warnings.tokenLost = s.tables.warnings.tokenLost := by
  have assigned : Assigned a.lane e s (s.assign a.lane e) := State.assigned wf (State.activeEntry_status active)
  have books := (s.assign_books a.lane a.lane e).trans ((BooksAll.loseToken (s.assign a.lane e) a.lane (s.tokenFor a e)).lanes a.lane)
  have counter := State.counter_assign wf a.lane e (32 * a.lane.val + 3)
  rw [State.writeOffToken, active]
  dsimp only
  generalize s.assign a.lane e = t at *
  obtain ⟨lost, entry⟩ := State.words_loseToken assigned.wf a.lane (s.tokenFor a e)
  have count := State.entryAssigned_loseToken t a.lane (s.tokenFor a e) e
  have warned := Warned.same (Warned.loseToken t a.lane (s.tokenFor a e)) (w := .tokenLost) (by decide)
  generalize t.loseToken a.lane (s.tokenFor a e) = u at *
  rw [State.settle_lane, State.settle_tables]
  exact ⟨books.tokens, (books.mode_iff (Or.inl rfl)).mpr faulted, count.trans assigned.count, entry.trans (congrArg (· + 1) assigned.lost),
    lost.trans (congrArg (· + 1) counter), warned.trans assigned.tokenLost⟩

end WriteOff

/-! ## The telegram -/

/-- An announcement for a lane with room, to its end. -/
theorem exec_telegramReceived_announced {s : State} {t : Telegram} {a : Announcement} (slot : s.ring.receive = .withSlot)
    (passes : passesChecks t = true) (address : s.ring.isRepeater = false) (source : t.src.toNat ≤ 31)
    (foreign : t.src ≠ addressByte s.ring.address) (dest : t.dest = addressByte s.ring.address) (whole : isBounced t = false)
    (kind : t.kind = 0x01#8) (announced : announcementOf t.body = some a) (room : (s.lane a.lane).tokens.length < 8) :
    exec (.telegramReceived t) s = .next ((s.setReceive .none).intake a).settle := by
  have address : (s.setReceive .none).ring.isRepeater = false := address
  have notFull : (s.setReceive .none).tokensFull a.lane = false := decide_eq_false (Nat.not_le.mpr room)
  rw [exec_telegramReceived slot passes, State.classify_own address source foreign dest, State.handleTelegram_piece whole kind, State.takePiece,
    announced]
  dsimp only
  rw [State.takeAnnouncement, if_neg (by simp [notFull])]

theorem State.intake_passes {s : State} {a : Announcement} (passes : (s.lane a.lane).mode.passes = true) : s.intake a = s.takeToken a := by
  unfold State.intake
  revert passes
  cases (s.lane a.lane).mode <;> intro passes
  case idle => cases passes
  case faulted => cases passes
  all_goals rfl

theorem State.intake_faulted {s : State} {a : Announcement} (faulted : (s.lane a.lane).mode = .faulted) : s.intake a = s.writeOffToken a := by
  rw [State.intake, faulted]

/-- Settles O28: the token accepted for the ACTIVE entry, through the re-read, discarded, or written off. -/
theorem pieceTelegramQueuesToken : Obligations.PieceTelegramQueuesToken := by
  intro s t a wf slot passes address source foreign dest whole kind announced room
  have received := exec_telegramReceived_announced slot passes address source foreign dest whole kind announced room
  intro L queued claimed
  refine ⟨fun e works active => ?accept, fun works inactive => ?reread, fun faulted => ⟨fun e active => ?writeOff, fun inactive => ?discard⟩⟩
  case accept =>
    have outcome : (s.setReceive .none).intake a = (s.setReceive .none).acceptToken a e := by
      have active' : (s.setReceive .none).activeEntry a.lane = some e := active
      rw [State.intake_passes (s := s.setReceive .none) works, State.takeToken, active']
    have accepted : Accepted a e (s.setReceive .none) ((s.setReceive .none).acceptToken a e).settle :=
      State.accepted wf (State.activeEntry_status (s := s) active)
    rw [received, outcome]
    generalize ((s.setReceive .none).acceptToken a e).settle = u at *
    refine ⟨u, rfl, accepted.receive, accepted.tokens, accepted.inFlight, accepted.count, accepted.suspending, accepted.below, fun full => ?_⟩
    obtain ⟨closing, cursor⟩ := accepted.full full
    exact ⟨closing, cursor, accepted.claims full, accepted.fails full, accepted.badEntry full⟩
  case reread =>
    have outcome : (s.setReceive .none).intake a = (s.setReceive .none).rereadForToken a := by
      have inactive' : (s.setReceive .none).activeEntry a.lane = none := inactive
      rw [State.intake_passes (s := s.setReceive .none) works, State.takeToken, inactive']
    rw [received, outcome]
    refine ⟨fun claimable few => ?_, fun unfit => ?_⟩
    · have adopted : Adopted a L.cursor (s.setReceive .none) (((s.setReceive .none).claimedFor a).acceptToken a L.cursor).settle :=
        State.adopted (s := s.setReceive .none) wf a
      rw [State.rereadForToken_of_can (s := s.setReceive .none) (State.canClaim_iff.mpr ⟨claimable, few⟩)]
      refine ⟨_, rfl, ?_⟩
      generalize heq : (((s.setReceive .none).claimedFor a).acceptToken a L.cursor).settle = u at adopted
      have same : (((s.setReceive .none).claimedFor a).acceptToken a ((s.setReceive .none).lane a.lane).cursor).settle = u := heq
      rw [same]
      refine ⟨adopted.tokens, adopted.inFlight, adopted.count, adopted.owner, adopted.suspending, fun below => ?_, adopted.full⟩
      obtain ⟨active, rest⟩ := adopted.below below
      exact ⟨⟨active, adopted.owner⟩, rest⟩
    · have cannot : (s.setReceive .none).canClaim a.lane = false := by
        rw [← Bool.not_eq_true, State.canClaim_iff]
        rintro ⟨claimable, few⟩
        rcases unfit with no | long
        · exact absurd claimable (Bool.eq_false_iff.mp no)
        · exact absurd few (Nat.not_lt.mpr long)
      exact ⟨_, rfl, State.rereadForToken_discards cannot⟩
  case writeOff =>
    rw [received, State.intake_faulted (s := s.setReceive .none) faulted]
    exact ⟨_, rfl, State.wroteOff (s := s.setReceive .none) wf faulted active⟩
  case discard =>
    have inactive' : (s.setReceive .none).activeEntry a.lane = none := inactive
    rw [received, State.intake_faulted (s := s.setReceive .none) faulted, State.writeOffToken, inactive']
    rfl

end Sys2Proof.Machine
end


section
/-!
# A record tried by the Fold Scheduler (R66 to R75)

What the merge of gate windows leaves (`Merged`), and what trying the last record of a lane for its fire windows or for its reject window
leaves of a state in which that record stands (`Stands`).
-/

namespace Sys2Proof.Machine

/-! ## The merge of gate windows (R74) -/

section Merge

variable {now : Pos} {w : Window}

/-- As many merges as there are windows leave none that the window made overlaps. -/
theorem absorb_clear (now : Pos) (n : Nat) (w : Window) (ws : List Window) (enough : ws.length ≤ n) :
    ∀ y ∈ (absorb now n w ws).2, y.output = .gate → (absorb now n w ws).1.overlaps y = false := by
  induction n generalizing w ws with
  | zero =>
    rw [List.length_eq_zero_iff.mp (Nat.le_zero.mp enough)]
    exact fun y listed => absurd listed List.not_mem_nil
  | succ n ih =>
    unfold absorb
    split
    · next none =>
      intro y listed gate
      have apart := List.find?_eq_none.mp none y listed
      simpa [Window.isGate, gate] using apart
    · next x found =>
      obtain ⟨front, back, split, -, -, erased⟩ := split_of_find? found
      refine ih _ _ ?_
      rw [erased, List.length_append]
      rw [split, List.length_append, List.length_cons] at enough
      omega

/-- With no gate window to meet, nothing is merged. -/
theorem absorb_idle {ws : List Window} (apart : ∀ y ∈ ws, y.output = .gate → w.overlaps y = false) (n : Nat) :
    absorb now n w ws = (w, ws) := by
  cases n with
  | zero => rfl
  | succ n =>
    have none : ws.find? (fun x => x.isGate && w.overlaps x) = none := List.find?_eq_none.mpr fun y listed => by
      by_cases gate : y.output = .gate
      · simp [apart y listed gate]
      · simp [Window.isGate, gate]
    rw [absorb, none]

/-- The gate windows of the schedule that the window meets. -/
def Window.meets (w g : Window) : Prop := g.output = .gate ∧ w.overlaps g = true

theorem FoldLane.mem_gatesOver {fl : FoldLane} {g : Window} : g ∈ fl.gatesOver w ↔ g ∈ fl.windows ∧ w.meets g := by
  rw [FoldLane.gatesOver, List.mem_filter, Bool.and_eq_true]
  exact and_congr_right fun _ => and_congr_left fun _ => decide_eq_true_iff

theorem FoldLane.gatesOver_nil {fl : FoldLane} (apart : ∀ g ∈ fl.windows, ¬ w.meets g) : fl.gatesOver w = [] :=
  List.eq_nil_iff_forall_not_mem.mpr fun g listed => apart g (FoldLane.mem_gatesOver.mp listed).1 (FoldLane.mem_gatesOver.mp listed).2

theorem FoldLane.gatesOver_cons {fl : FoldLane} (met : ∃ g ∈ fl.windows, w.meets g) : ∃ first more, fl.gatesOver w = first :: more := by
  obtain ⟨g, listed, meets⟩ := met
  exact List.exists_cons_of_ne_nil (List.ne_nil_of_mem (FoldLane.mem_gatesOver.mpr ⟨listed, meets⟩))

/-- One gate window over two: the earlier start and the later end. -/
def Window.both (g w : Window) : Window := { g with start := earlier g.start w.start, stop := later g.stop w.stop }

/-- What the merge of `w` into the windows `ws` leaves: `m` last, after those of `ws` that it met not. -/
structure Merged (now : Pos) (w : Window) (ws : List Window) (m : Window) (rest : List Window) : Prop where
  gate : m.output = .gate
  sublist : rest.Sublist ws
  fewer : rest.length < ws.length
  spared : spareGates rest = spareGates ws
  clear : ∀ y ∈ rest, y.output = .gate → m.overlaps y = false
  single : ∀ first g last, ws = first ++ g :: last → w.meets g → (∀ y ∈ first ++ last, ¬ w.meets y) →
    (∀ y ∈ first ++ last, y.output = .gate → (g.both w).overlaps y = false) → rest = first ++ last ∧ m = mergeWindows now g w

theorem FoldLane.mergeGate_merged {fl : FoldLane} {first : Window} {more : List Window} (met : fl.gatesOver w = first :: more) (now : Pos) :
    ∃ m rest, fl.mergeGate now w first more = { fl with windows := rest ++ [m], gate := fl.gate || m.isOpen } ∧
      Merged now w fl.windows m rest := by
  obtain ⟨listed, gate, -⟩ := FoldLane.earliest_gatesOver met
  have absorbed := absorb_absorbed now fl.windows.length (mergeWindows now (earliestOf first more) w) (fl.windows.erase (earliestOf first more))
  have shorter : (fl.windows.erase (earliestOf first more)).length = fl.windows.length - 1 := List.length_erase_of_mem listed
  refine ⟨_, _, rfl, {
    gate := absorbed.output.trans gate
    sublist := absorbed.sublist.trans List.erase_sublist
    fewer := ?fewer
    spared := absorbed.spared.trans ?spared
    clear := absorb_clear now _ _ _ (by omega)
    single := ?single }⟩
  case fewer =>
    have := absorbed.sublist.length_le
    have := List.length_pos_of_mem listed
    omega
  case spared =>
    rw [List.erase_eq_eraseP]
    exact spareGates_eraseP fun y _ same => by rw [← eq_of_beq same]; exact gate
  case single =>
    intro before g after split meets others apart
    have one : fl.gatesOver w = [g] := by
      have none (ys : List Window) (sub : ∀ y ∈ ys, y ∈ before ++ after) : ys.filter (fun x => x.isGate && w.overlaps x) = [] :=
        List.filter_eq_nil_iff.mpr fun y mem taken =>
          others y (sub y mem) ⟨of_decide_eq_true (Bool.and_eq_true _ _ ▸ taken).1, (Bool.and_eq_true _ _ ▸ taken).2⟩
      have takes : (g.isGate && w.overlaps g) = true := by rw [Window.isGate, decide_eq_true meets.1, meets.2]; rfl
      rw [FoldLane.gatesOver, split, List.filter_append, List.filter_cons_of_pos (p := fun x : Window => x.isGate && w.overlaps x) takes,
        none before fun y => List.mem_append_left _, none after fun y => List.mem_append_right _]
      rfl
    obtain ⟨rfl, rfl⟩ := List.cons.inj (met.symm.trans one)
    have erased : fl.windows.erase first = before ++ after := by
      rw [split, List.erase_append_right _ fun mem => others first (List.mem_append_left _ mem) meets, List.erase_cons_head]
    have only : earliestOf first [] = first := rfl
    rw [only, erased, absorb_idle (w := mergeWindows now first w) apart]
    exact ⟨rfl, rfl⟩

theorem mergeWindows_state (now : Pos) (g w : Window) :
    (g.state = .opened ∨ reached now (g.both w).start = true → (mergeWindows now g w).state = .opened) ∧
    (g.state = .waiting → reached now (g.both w).start = false → w.state = .waiting → (mergeWindows now g w).state = .waiting) := by
  refine ⟨?_, fun waits ahead waits' => ?_⟩
  · rintro (opened | reach)
    · exact mergeWindows_opened now (Or.inl opened)
    · have reach : reached now (earlier g.start w.start) = true := reach
      simp [mergeWindows, stateAt, reach]
  · have ahead : reached now (earlier g.start w.start) = false := ahead
    simp [mergeWindows, Window.isOpen, waits, waits', stateAt, ahead]

end Merge

/-! ## The last record of a lane -/

/-- `x` is the last record of the lane after `front`, `left` are its tokens that wait and `fl` its schedule; `t` differs from `s` in the lanes
alone. -/
structure Stands (l : LaneId) (front : List PieceRecord) (x : PieceRecord) (left : List QueuedToken) (fl : FoldLane) (s t : State) : Prop where
  same : t = { s with lanes := t.lanes }
  inFlight : (t.lane l).inFlight = front ++ [x]
  tokens : (t.lane l).tokens = left
  sched : (t.lane l).sched = fl
  mode : (t.lane l).mode = (s.lane l).mode
  fresh : ∀ y ∈ front, y.number ≠ x.number

namespace Stands

variable {s t : State} {l : LaneId} {front : List PieceRecord} {x : PieceRecord} {left : List QueuedToken} {fl : FoldLane} {now : Pos}

theorem found (h : Stands l front x left fl s t) : t.findRecord l x.number = some x := by
  rw [State.findRecord, h.inFlight, List.find?_append,
    List.find?_eq_none.mpr fun y listed => by simp [h.fresh y listed]]
  simp

/-- A change of the lane's other parts. -/
theorem modLane (h : Stands l front x left fl s t) (f : Lane → Lane) (inFlight : (f (t.lane l)).inFlight = front ++ [x])
    (mode : (f (t.lane l)).mode = (t.lane l).mode) : Stands l front x (f (t.lane l)).tokens (f (t.lane l)).sched s (t.modLane l f) where
  same := (congrArg (fun u : State => ({ u with lanes := (t.modLane l f).lanes } : State)) h.same).trans rfl
  inFlight := by rw [State.modLane_lane_same]; exact inFlight
  tokens := by rw [State.modLane_lane_same]
  sched := by rw [State.modLane_lane_same]
  mode := by rw [State.modLane_lane_same, mode]; exact h.mode
  fresh := h.fresh

theorem modRecord (h : Stands l front x left fl s t) {n : RecordNo} (own : x.number = n) (f : PieceRecord → PieceRecord)
    (number : (f x).number = x.number) : Stands l front (f x) left fl s (t.modRecord l n f) where
  same := (congrArg (fun u : State => ({ u with lanes := (t.modRecord l n f).lanes } : State)) h.same).trans rfl
  inFlight := by
    rw [State.modRecord_inFlight, h.inFlight, List.map_append, List.map_singleton, if_pos own]
    refine congrArg (· ++ [f x]) ((List.map_congr_left fun y listed => if_neg ?_).trans (List.map_id _))
    rw [← own]
    exact h.fresh y listed
  tokens := by rw [State.modRecord, State.modLane_lane_same]; exact h.tokens
  sched := by rw [State.modRecord, State.modLane_lane_same]; exact h.sched
  mode := by rw [State.modRecord, State.modLane_lane_same]; exact h.mode
  fresh := by rw [number]; exact h.fresh

theorem modSched (h : Stands l front x left fl s t) (f : FoldLane → FoldLane) : Stands l front x left (f fl) s (t.modSched l f) := by
  have changed := h.modLane (fun L => { L with sched := f L.sched }) h.inFlight rfl
  dsimp only at changed
  rw [h.tokens, h.sched] at changed
  exact changed

theorem listed (h : Stands l front x left fl s t) :
    (t.settle.lane l).inFlight = front ++ [x] ∧ (t.settle.lane l).tokens = left ∧ t.settle.free = s.free := by
  rw [State.settle_lane]
  exact ⟨h.inFlight, h.tokens, (congrArg State.free h.same).trans rfl⟩

theorem settled (h : Stands l front x left fl s t) : (t.settle.lane l).sched = fl := by
  rw [State.settle_lane]
  exact h.sched

/-! ### The reject window (R71 to R75) -/

theorem gateRecord (h : Stands l front x left fl s t) {p : Pos} (ahead : reached s.track.position p = false) :
    Stands l front { x with retirePosition := some p } left fl s (t.gateRecord l x.number p) := by
  have ahead : reached t.track.position p = false := by rw [h.same]; exact ahead
  rw [State.gateRecord]
  rw [if_neg (by simp [ahead])]
  exact h.modRecord rfl (fun r => { r with retirePosition := some p }) rfl

theorem giveReject_eq (h : Stands l front x left fl s t) (now : Pos) :
    t.giveReject l x.number now = t.tryReject l x.number now (s.rejectWindow l x now) := by
  have window : t.rejectWindow l x now = s.rejectWindow l x now := by rw [h.same]; rfl
  rw [State.giveReject, h.found]
  dsimp only
  rw [window]

theorem margin (h : Stands l front x left fl s t) (now : Pos) : t.earliestStart now = s.earliestStart now := by rw [h.same]; rfl

/-- The reject window tried, case by case. -/
theorem rejectTried (h : Stands l front x left (s.lane l).sched s t) (passes : (s.lane l).mode.passes = true) (now : Pos) :
    RejectTried l front x left now s (t.giveReject l x.number now).settle := by
  rw [h.giveReject_eq]
  unfold RejectTried
  intro fl gl start stop w late meets listed
  have window : s.rejectWindow l x now = w := rfl
  have margin := h.margin now
  have tried (inTime : late = false) : t.tryReject l x.number now (s.rejectWindow l x now) =
      (match fl.gatesOver w with
      | first :: more => (t.modSched l fun fl => fl.mergeGate now w first more).gateRecord l x.number w.stop
      | [] =>
        if fl.windows.length < Config.windowSlots then (t.modSched l fun fl => fl.placeGate w).gateRecord l x.number w.stop
        else t.reportFault l .gateFull) := by
    rw [window, State.tryReject, margin, h.sched]
    exact if_neg (by rw [show before w.start (s.earliestStart now) = false from inTime]; decide)
  refine ⟨fun tooLate => ?late, fun inTime apart room ahead => ?slot, fun inTime apart full => ?full, fun inTime met ahead => ?merge⟩
  case late =>
    have forced := h.modRecord rfl (fun r => { r with forceOverflow := true }) rfl
    have outcome : t.tryReject l x.number now (s.rejectWindow l x now) = t.modRecord l x.number fun r => { r with forceOverflow := true } := by
      rw [window, State.tryReject, margin]
      exact if_pos tooLate
    rw [← outcome] at forced
    exact ⟨forced.listed, forced.settled⟩
  case slot =>
    have placed := (h.modSched fun fl => fl.placeGate w).gateRecord (p := w.stop) ahead
    have outcome := tried inTime
    rw [FoldLane.gatesOver_nil (w := w) apart] at outcome
    rw [← outcome.trans (if_pos room)] at placed
    refine ⟨placed.listed, placed.settled.trans ?_⟩
    have opens : w.isOpen = reached now start := by
      show decide ((if reached now start then WindowState.opened else .waiting) = .opened) = _
      cases reached now start <;> rfl
    rw [FoldLane.placeGate, opens]
  case full =>
    have outcome := tried inTime
    rw [FoldLane.gatesOver_nil (w := w) apart] at outcome
    have outcome := outcome.trans (if_neg (Nat.not_lt.mpr full))
    have faulted := State.reportFault_faulted (s := t) (l := l) .gateFull (by rw [h.mode]; exact passes)
    rw [← outcome] at faulted
    exact ⟨faulted.mode, faulted.faultCode, faulted.inFlight, faulted.tokens, (congrArg FoldLane.windows faulted.sched).trans rfl,
      (congrArg FoldLane.gate faulted.sched).trans rfl⟩
  case merge =>
    obtain ⟨first, more, gates⟩ := FoldLane.gatesOver_cons (w := w) met
    obtain ⟨m, rest, made, merged⟩ := FoldLane.mergeGate_merged gates now
    have outcome := tried inTime
    rw [gates] at outcome
    have gated := (h.modSched fun fl => fl.mergeGate now w first more).gateRecord (p := w.stop) ahead
    dsimp only at outcome
    rw [← outcome] at gated
    have sched : gl = _ := gated.settled.trans made
    refine ⟨gated.listed, by rw [sched], rest, m, by rw [sched], merged.gate, merged.sublist, merged.fewer, merged.spared, merged.clear,
      by rw [sched]; rfl, ?_⟩
    intro before g after split meets' others both apart
    obtain ⟨kept, made'⟩ := merged.single before g after split meets' others apart
    obtain ⟨opens, waits⟩ := mergeWindows_state now g w
    rw [← made'] at opens waits
    refine ⟨kept, by rw [made']; rfl, opens, fun waiting ahead notYet => waits waiting ahead ?_⟩
    exact if_neg (by simp [notYet])

/-! ### The fire windows (R66 to R70) -/

theorem selfCrowded_false_iff {ws : List Window} : selfCrowded ws = false ↔ ws.Pairwise fun a b => ¬ (a.output = b.output ∧ a.overlaps b = true) := by
  induction ws with
  | nil => simp [selfCrowded]
  | cons w ws ih =>
    rw [selfCrowded, Bool.or_eq_false_iff, ih, List.pairwise_cons, List.any_eq_false]
    simp only [Window.clashes, Bool.and_eq_true, decide_eq_true_eq]

/-- The record with another reject reason. -/
theorem setVerdict (h : Stands l front x left fl s t) (v : Verdict) :
    Stands l front { x with verdict := some v } left fl s (t.setVerdict l x.number v) :=
  h.modRecord rfl (fun r => { r with verdict := some v }) rfl

/-- The fire windows tried: LATE, then CROWD for an overlap or for the room, and else placed. -/
theorem foldsTried (h : Stands l front x left (s.lane l).sched s t) (passes : (s.lane l).mode.passes = true) (now : Pos) :
    FoldsTried l front x left now s (t.scheduleFolds l x now).settle := by
  unfold FoldsTried
  intro fl folds clash late crowded
  have windows : t.foldWindows l x now = folds := by rw [h.same]; rfl
  have margin := h.margin now
  have isLate : t.isLate now folds = true ↔ late := by
    rw [State.isLate, margin, List.any_eq_true]
    rfl
  have crowds : crowded ↔ fl.crowded folds = true ∨ fl.noRoom folds = true := by
    have room : fl.noRoom folds = true ↔ 16 < fl.windows.length + folds.length := decide_eq_true_iff
    have between : folds.any (fun w => fl.windows.any (w.clashes ·)) = true ↔ ∃ w ∈ folds, ∃ y ∈ fl.windows, clash w y := by
      simp only [List.any_eq_true, Window.clashes, Bool.and_eq_true, decide_eq_true_eq]
      rfl
    have among : selfCrowded folds = true ↔ ¬ folds.Pairwise fun a b => ¬ clash a b := by
      rw [← Bool.not_eq_false]
      exact not_congr selfCrowded_false_iff
    rw [room, FoldLane.crowded, Bool.or_eq_true, between, among, or_assoc]
  have rejects (why : RejectReason) (refusal : t.foldRefusal l now folds = some why) :
      RejectTried l front { x with verdict := some (.reject why) } left now s (t.scheduleFolds l x now).settle := by
    have outcome : t.scheduleFolds l x now = (t.setVerdict l x.number (.reject why)).giveReject l x.number now := by
      rw [State.scheduleFolds, windows, refusal]
    rw [outcome]
    exact (h.setVerdict (.reject why)).rejectTried passes now
  refine ⟨fun tooLate => rejects .late ?_, fun inTime crowd => rejects .crowd ?_, fun inTime free => ?_⟩
  · rw [State.foldRefusal, if_pos (isLate.mpr tooLate)]
  · rw [State.foldRefusal, if_neg (mt isLate.mp inTime), h.sched]
    rcases crowds.mp crowd with clashes | noRoom
    · rw [if_pos clashes]
    · rw [if_pos noRoom, ite_self]
  · rw [crowds, not_or] at free
    have outcome : t.scheduleFolds l x now = t.modSched l fun fl => fl.placeAll folds := by
      rw [State.scheduleFolds, windows, State.foldRefusal, if_neg (mt isLate.mp inTime), h.sched, if_neg free.1, if_neg free.2]
    have placed := h.modSched fun fl => fl.placeAll folds
    rw [← outcome] at placed
    obtain ⟨inFlight, tokens, free⟩ := placed.listed
    exact ⟨inFlight, tokens, free, by rw [placed.settled]; rfl, by rw [placed.settled]; rfl⟩

/-! ### The verdict (R55) -/

/-- A record judged and handed to the Fold Scheduler. -/
theorem trailingTried (h : Stands l front x left (s.lane l).sched s t) (passes : (s.lane l).mode.passes = true) (now : Pos) :
    TrailingTried l front x left now s ((t.judge l x.number).scheduleRecord l x.number now).settle := by
  have judged : Stands l front { x with verdict := some (verdictOf x) } left (s.lane l).sched s (t.judge l x.number) :=
    h.modRecord rfl (fun r => { r with verdict := some (verdictOf r) }) rfl
  have found : (t.judge l x.number).findRecord l x.number = some { x with verdict := some (verdictOf x) } := judged.found
  refine ⟨fun why rejected => ?_, fun accepted => ?_⟩
  · rw [State.scheduleRecord, found]
    rw [rejected] at judged ⊢
    exact judged.rejectTried passes now
  · have folds := judged.foldsTried passes now
    rw [State.scheduleRecord, found]
    dsimp only
    cases verdict : verdictOf x with
    | accept => rw [verdict] at folds; exact folds
    | acceptOverflow => rw [verdict] at folds; exact folds
    | reject why => exact absurd verdict (accepted why)

end Stands

end Sys2Proof.Machine
end


section
/-!
# The trailing edge at the Piece Tracker (R40 to R42, R54)
-/

namespace Sys2Proof.Machine

/-! ## The snapshot of a stray (R40, R41) -/

/-- An article whose windows hold the size, with IDENT set, of the codes 1 to 63. -/
def State.Fits (s : State) (length width a : Nat) : Prop :=
  1 ≤ a ∧ a ≤ 63 ∧ s.articleValid a = true ∧ s.articleIdent a = true ∧ s.articleWord a 2 ≤ length ∧ length ≤ s.articleWord a 3 ∧
  s.articleWord a 4 ≤ width ∧ width ≤ s.articleWord a 5

theorem State.mem_candidates {s : State} {length width a : Nat} : a ∈ s.candidates length width ↔ s.Fits length width a := by
  rw [State.candidates, List.mem_filter, List.mem_range'_1, State.identifies, State.Fits]
  simp only [Bool.and_eq_true, decide_eq_true_eq, and_assoc]
  refine and_congr_right fun _ => and_congr_left fun _ => ?_
  omega

theorem State.candidates_nodup (s : State) (length width : Nat) : (s.candidates length width).Nodup := List.Nodup.filter _ List.nodup_range'

theorem State.straySnapshot_of_unique {s : State} {length width a : Nat} (identify : s.identifyStrays = true) (fits : s.Fits length width a)
    (unique : ∀ b, s.Fits length width b → b = a) : s.straySnapshot length width = some (s.snapshotOf a) := by
  have single : s.candidates length width = [a] := by
    refine List.perm_singleton.mp ((List.perm_ext_iff_of_nodup (s.candidates_nodup length width) (List.nodup_singleton a)).mpr fun b => ?_)
    rw [State.mem_candidates, List.mem_singleton]
    exact ⟨unique b, fun same => same ▸ fits⟩
  rw [State.straySnapshot, if_pos identify, single]

theorem State.straySnapshot_none {s : State} {length width : Nat}
    (unfit : s.identifyStrays = false ∨ ¬ ∃ a, s.Fits length width a ∧ ∀ b, s.Fits length width b → b = a) :
    s.straySnapshot length width = none := by
  unfold State.straySnapshot
  split
  · next identify =>
    split
    · next a single =>
      refine absurd ⟨a, ?_, fun b => ?_⟩ (unfit.resolve_left (by simp [identify]))
      · rw [← State.mem_candidates, single]
        exact List.mem_singleton_self a
      · rw [← State.mem_candidates, single]
        exact List.mem_singleton.mp
    · rfl
  · rfl

/-! ## The steps of R54 -/

namespace Stands

variable {s t : State} {l : LaneId} {front : List PieceRecord} {x : PieceRecord} {left : List QueuedToken} {fl : FoldLane}

theorem withRecord (h : Stands l front x left fl s t) {n : RecordNo} (own : x.number = n) (f : State → PieceRecord → State) :
    t.withRecord l n f = f t x := by
  rw [State.withRecord, ← own, h.found]

theorem tryStray (h : Stands l front x left fl s t) (stray : x.tokens = []) :
    Stands l front { x with snapshot := s.straySnapshot x.lengthOf x.widthOf } left fl s (t.tryStray l x) := by
  have snapshot : t.straySnapshot x.lengthOf x.widthOf = s.straySnapshot x.lengthOf x.widthOf := by rw [h.same]; rfl
  rw [State.tryStray, if_pos (by simp [stray]), snapshot]
  exact h.modRecord rfl (fun r => { r with snapshot := s.straySnapshot x.lengthOf x.widthOf }) rfl

theorem headToken (h : Stands l front x left fl s t) : t.headToken l = left.head?.map QueuedToken.token := by
  rw [State.headToken, h.tokens]

theorem takeDouble (h : Stands l front x left fl s t) {head : QueuedToken} {rest : List QueuedToken} (waits : left = head :: rest)
    (double : t.isDouble l x = true) : Stands l front { x with tokens := x.tokens ++ [head.token] } rest fl s (t.takeDouble l x) := by
  have token : t.headToken l = some head.token := by rw [h.headToken, waits]; rfl
  have given := h.modRecord rfl (fun r => { r with tokens := r.tokens ++ (t.headToken l).toList }) rfl
  have popped := given.modLane (fun L => { L with tokens := L.tokens.tail }) given.inFlight rfl
  dsimp only at popped
  rw [given.tokens, given.sched, waits, token] at popped
  rw [State.takeDouble, if_pos double, token]
  exact popped

end Stands

/-- The second token of a piece that is twice as long as its article (R42). -/
def Doubles (r : PieceRecord) (k : Token) (sn : Snapshot) (head : QueuedToken) : Prop :=
  sn.maxLength < r.lengthOf ∧ 2 * sn.minLength ≤ r.lengthOf ∧ head.token.article = k.article

theorem State.isDouble_iff {t : State} {l : LaneId} {x : PieceRecord} {k : Token} (tokens : x.tokens = [k]) :
    t.isDouble l x = true ↔ ∃ sn head rest, x.snapshot = some sn ∧ (t.lane l).tokens = head :: rest ∧ Doubles x k sn head := by
  unfold State.isDouble State.headTokenIs State.headToken Doubles
  rw [tokens]
  cases x.snapshot with
  | none => simp
  | some sn =>
    cases (t.lane l).tokens with
    | nil => simp
    | cons head rest => simp [and_assoc]

/-! ## The edge -/

section Edge

variable {s : State} {l : LaneId} {c : PendingChange} {lead : Pos} {front : List PieceRecord} {r : PieceRecord}

/-- The record at its trailing edge (R54 step 1). -/
def PieceRecord.measured (r : PieceRecord) (length width : Nat) : PieceRecord :=
  { r with length := some length, widthClass := some width, phase := .travelling }

/-- The state in which the Piece Tracker finds the record, measured. -/
def State.trailed (s : State) (l : LaneId) (c : PendingChange) (n : RecordNo) (length : Nat) : State :=
  (s.modEntry l fun e => { e.accept.clearWidth with lastTrailing := some c.start, openPiece := none, blockedTarget := none }).measure l n length
    (s.lane l).entry.widthMax

/-- The edge, up to the measure. -/
theorem exec_trailing (pending : (s.lane l).entry.pendingChange = some c) (raw : (s.lane l).entry.rawLevel = .clear)
    (level : (s.lane l).entry.level = .covered) (reach : reached s.track.position c.confirm = true) (passes : (s.lane l).mode.passes = true)
    (opened : (s.lane l).entry.openPiece = some lead) (inFlight : (s.lane l).inFlight = front ++ [r]) (entering : r.phase = .entering) :
    exec (.entryEyeConfirm l) s =
      .next
        (((((s.trailed l c r.number (c.start - lead).toNat).withRecord l r.number fun t x => t.tryStray l x).withRecord l r.number
          fun t x => t.takeDouble l x).judge l r.number).scheduleRecord l r.number c.confirm).settle := by
  have confirmed := exec_entryEyeConfirm pending (by rw [raw, level]; decide) reach
  have trailing : s.confirmEntry l c =
      (s.modEntry l fun e => e.accept.clearWidth).entryTrailing l c (s.lane l).entry.widthMax := by rw [State.confirmEntry, raw]
  have entry : ((s.modEntry l fun e => e.accept.clearWidth).lane l).entry = (s.lane l).entry.accept.clearWidth := State.modEntry_entry s l _
  have opened' : (s.lane l).entry.accept.clearWidth.openPiece = some lead := opened
  have record (f : EntrySensor → EntrySensor) : (s.modEntry l f).enteringRecord l = some r.number := by
    have same : ((s.modEntry l f).lane l).inFlight = front ++ [r] := by rw [State.modEntry, State.modLane_lane_same]; exact inFlight
    rw [State.enteringRecord, same, List.getLast?_concat]
    exact if_pos entering
  rw [confirmed, trailing, State.entryTrailing, LaneMoves.State.modEntry_mode, if_pos passes, entry, opened']
  dsimp only
  rw [State.modEntry_modEntry, State.trailingEdge, record]
  rfl

theorem Stands.trailed (whole : s.poolWhole) (inFlight : (s.lane l).inFlight = front ++ [r]) (c : PendingChange) (length : Nat) :
    Stands l front (r.measured length (s.lane l).entry.widthMax) (s.lane l).tokens (s.lane l).sched s (s.trailed l c r.number length) := by
  have fresh : ∀ y ∈ front, y.number ≠ r.number := by
    have nodup := whole.numbers_nodup l
    rw [Lane.numbers, inFlight, List.map_append, List.nodup_append] at nodup
    intro y listed
    exact nodup.2.2 _ (List.mem_map_of_mem listed) _ (by simp)
  have rests : Stands l front r (s.lane l).tokens (s.lane l).sched s s := ⟨rfl, inFlight, rfl, rfl, rfl, fresh⟩
  have entered := rests.modLane (fun L => { L with entry :=
    { L.entry.accept.clearWidth with lastTrailing := some c.start, openPiece := none, blockedTarget := none } }) inFlight rfl
  exact entered.modRecord rfl (fun r => { r with length := some length, widthClass := some (s.lane l).entry.widthMax, phase := .travelling }) rfl

variable (whole : s.poolWhole) (inFlight : (s.lane l).inFlight = front ++ [r]) (passes : (s.lane l).mode.passes = true)
include whole inFlight passes

/-- A stray, with the snapshot that its size gives. -/
theorem trailingTried_stray (stray : r.tokens = []) (length : Nat) :
    TrailingTried l front { r.measured length (s.lane l).entry.widthMax with snapshot := s.straySnapshot length (s.lane l).entry.widthMax }
      (s.lane l).tokens c.confirm s
      (((((s.trailed l c r.number length).withRecord l r.number fun t x => t.tryStray l x).withRecord l r.number
        fun t x => t.takeDouble l x).judge l r.number).scheduleRecord l r.number c.confirm).settle := by
  have stands := Stands.trailed whole inFlight c length
  have identified := stands.tryStray stray
  rw [stands.withRecord (n := r.number) rfl, identified.withRecord (n := r.number) rfl, State.takeDouble, if_neg]
  · exact identified.trailingTried passes c.confirm
  · simp [State.isDouble, PieceRecord.measured, stray]

omit passes in
theorem withRecord_tryStray_of_token {k : Token} (tokens : r.tokens = [k]) (length : Nat) :
    ((s.trailed l c r.number length).withRecord l r.number fun t x => t.tryStray l x) = s.trailed l c r.number length := by
  have stands := Stands.trailed whole inFlight c length
  rw [stands.withRecord (n := r.number) rfl, State.tryStray, if_neg (by simp [PieceRecord.measured, tokens])]

/-- A record with a token that is no double. -/
theorem trailingTried_single {k : Token} (tokens : r.tokens = [k]) (length : Nat)
    (single : ∀ sn head rest, r.snapshot = some sn → (s.lane l).tokens = head :: rest →
      ¬ Doubles (r.measured length (s.lane l).entry.widthMax) k sn head) :
    TrailingTried l front (r.measured length (s.lane l).entry.widthMax) (s.lane l).tokens c.confirm s
      (((((s.trailed l c r.number length).withRecord l r.number fun t x => t.tryStray l x).withRecord l r.number
        fun t x => t.takeDouble l x).judge l r.number).scheduleRecord l r.number c.confirm).settle := by
  have stands := Stands.trailed whole inFlight c length
  rw [withRecord_tryStray_of_token whole inFlight tokens, stands.withRecord (n := r.number) rfl, State.takeDouble, if_neg]
  · exact stands.trailingTried passes c.confirm
  · rw [State.isDouble_iff (x := r.measured length (s.lane l).entry.widthMax) tokens, stands.tokens]
    rintro ⟨sn, head, rest, snapshot, waits, doubles⟩
    exact single sn head rest snapshot waits doubles

/-- A double takes the head token. -/
theorem trailingTried_double {k : Token} {sn : Snapshot} {head : QueuedToken} {rest : List QueuedToken} (tokens : r.tokens = [k]) (length : Nat)
    (snapshot : r.snapshot = some sn) (waits : (s.lane l).tokens = head :: rest)
    (doubles : Doubles (r.measured length (s.lane l).entry.widthMax) k sn head) :
    TrailingTried l front { r.measured length (s.lane l).entry.widthMax with tokens := r.tokens ++ [head.token] } rest c.confirm s
      (((((s.trailed l c r.number length).withRecord l r.number fun t x => t.tryStray l x).withRecord l r.number
        fun t x => t.takeDouble l x).judge l r.number).scheduleRecord l r.number c.confirm).settle := by
  have stands := Stands.trailed whole inFlight c length
  have double : (s.trailed l c r.number length).isDouble l (r.measured length (s.lane l).entry.widthMax) = true :=
    (State.isDouble_iff (x := r.measured length (s.lane l).entry.widthMax) tokens).mpr ⟨sn, head, rest, snapshot, stands.tokens.trans waits, doubles⟩
  rw [withRecord_tryStray_of_token whole inFlight tokens, stands.withRecord (n := r.number) rfl]
  exact (stands.takeDouble waits double).trailingTried passes c.confirm

end Edge

/-! ## The obligation -/

/-- A piece of a length within its windows is no double, and one too short is none either. -/
theorem not_doubles {r : PieceRecord} {k : Token} {sn : Snapshot} {head : QueuedToken}
    (size : r.lengthOf ≤ sn.maxLength ∨ r.lengthOf < sn.minLength) : ¬ Doubles r k sn head := by
  rintro ⟨long, twice, -⟩
  omega

/-- The verdict on a record with one unmarked, matching token and a snapshot: its size decides (R55). -/
theorem verdictOf_sized {r : PieceRecord} {k : Token} {sn : Snapshot} (tokens : r.tokens = [k]) (marked : k.marked = false)
    (mismatch : k.mismatch = false) (snapshot : r.snapshot = some sn) :
    (r.lengthOf < sn.minLength → verdictOf r = .reject .short) ∧
    (sn.minLength ≤ r.lengthOf → r.lengthOf ≤ sn.maxLength → sn.minWidth ≤ r.widthOf → r.widthOf ≤ sn.maxWidth → verdictOf r = .accept) := by
  obtain ⟨-, -, -, -, sized⟩ := verdictFollowsOrder r
  have verdict := sized sn snapshot fun t rest split => by
    obtain ⟨rfl, -⟩ := List.cons.inj (tokens.symm.trans split)
    exact ⟨marked, mismatch⟩
  rw [if_neg (by rw [tokens]; exact nofun)] at verdict
  refine ⟨fun short => verdict.trans (if_pos short), fun long short wide narrow => ?_⟩
  rw [if_neg (Nat.not_lt.mpr long), if_neg (Nat.not_lt.mpr short), if_neg (not_or.mpr ⟨Nat.not_lt.mpr wide, Nat.not_lt.mpr narrow⟩),
    if_neg (by rw [tokens]; exact nofun)] at verdict
  exact verdict

/-- Settles O26: R54 step by step up to the verdict, and then the record tried. -/
theorem trailingEdgeSchedules : Obligations.TrailingEdgeSchedules := by
  refine ⟨?one, ?every⟩
  case one =>
    intro s l c lead front r k sn whole pending raw level reach passes opened inFlight entering tokens marked mismatch
      snapshot length width measured fl folds
    have edge := exec_trailing pending raw level reach passes opened inFlight entering
    have tried (size : length ≤ sn.maxLength ∨ length < sn.minLength) :
        ∃ t, exec (.entryEyeConfirm l) s = .next t ∧ TrailingTried l front measured (s.lane l).tokens c.confirm s t :=
      ⟨_, edge, trailingTried_single whole inFlight passes tokens length fun sn' head rest snapshot' _ => by
        rw [snapshot] at snapshot'
        cases snapshot'
        exact not_doubles size⟩
    obtain ⟨tooShort, fine⟩ := verdictOf_sized (r := measured) tokens marked mismatch snapshot
    refine ⟨fun longEnough shortEnough wideEnough narrowEnough inTime free room => ?accept, fun short => ?short⟩
    case accept =>
      obtain ⟨t, step, -, accepted⟩ := tried (Or.inl shortEnough)
      rw [fine longEnough shortEnough wideEnough narrowEnough] at accepted
      obtain ⟨-, -, placed⟩ := accepted nofun
      obtain ⟨inFlight', -, free', windows, gate⟩ := placed (by
        rintro ⟨w, listed, late⟩
        have ahead := inTime w listed
        exact Bool.eq_false_iff.mp ahead late) (by
        rw [FoldLane.crowded, Bool.or_eq_false_iff] at free
        rintro (⟨w, listed, y, scheduled, clash⟩ | among | full)
        · have apart := List.any_eq_false.mp (Bool.eq_false_iff.mpr (List.any_eq_false.mp free.1 w listed)) y scheduled
          simp only [Window.clashes, Bool.and_eq_true, decide_eq_true_eq] at apart
          exact apart clash
        · exact among (Stands.selfCrowded_false_iff.mp free.2)
        · exact absurd full (Nat.not_lt.mpr room))
      exact ⟨t, step, inFlight', windows, gate, free'⟩
    case short =>
      intro start stop gateOpens w
      obtain ⟨t, step, rejected, -⟩ := tried (Or.inr short)
      obtain ⟨late, slot, -, -⟩ := rejected .short (tooShort short)
      refine ⟨fun inTime apart room ahead => ?_, fun tooLate => ?_⟩
      · obtain ⟨⟨inFlight', -, -⟩, sched⟩ := slot inTime (fun g listed met => by
          have clear := apart g listed met.1
          have meets : w.overlaps g = true := met.2
          rw [clear] at meets
          cases meets) room ahead
        exact ⟨t, step, inFlight', (congrArg FoldLane.windows sched).trans rfl, (congrArg FoldLane.gate sched).trans rfl,
          (congrArg FoldLane.folds sched).trans rfl⟩
      · obtain ⟨⟨inFlight', -, -⟩, sched⟩ := late tooLate
        exact ⟨t, step, inFlight', sched⟩
  case every =>
    intro s l c lead front r whole pending raw level reach passes opened inFlight entering length width queue seen tried fits double
    have edge := exec_trailing pending raw level reach passes opened inFlight entering
    refine ⟨fun stray => ⟨fun a identify fit unique => ?_, fun unfit => ?_⟩, fun k tokens => ⟨fun sn h rest snapshot waits doubles => ?_, fun single => ?_⟩⟩
    · have outcome := trailingTried_stray (c := c) whole inFlight passes stray length
      rw [State.straySnapshot_of_unique identify fit unique] at outcome
      have same : seen [] (some (s.snapshotOf a)) = { r.measured length width with snapshot := some (s.snapshotOf a) } := by
        rw [← stray]
        rfl
      exact ⟨_, edge, by rw [same]; exact outcome⟩
    · have outcome := trailingTried_stray (c := c) whole inFlight passes stray length
      rw [State.straySnapshot_none unfit] at outcome
      have same : seen [] none = { r.measured length width with snapshot := none } := by
        rw [← stray]
        rfl
      exact ⟨_, edge, by rw [same]; exact outcome⟩
    · have outcome := trailingTried_double (c := c) whole inFlight passes tokens length snapshot waits doubles
      have same : seen [k, h.token] (some sn) = { r.measured length width with tokens := r.tokens ++ [h.token] } := by
        rw [← snapshot, tokens]
        rfl
      exact ⟨_, edge, by rw [same]; exact outcome⟩
    · have outcome := trailingTried_single (c := c) whole inFlight passes tokens length single
      have same : seen [k] r.snapshot = r.measured length width := by
        rw [← tokens]
        rfl
      exact ⟨_, edge, by rw [same]; exact outcome⟩

end Sys2Proof.Machine
end


section
/-!
# The completion of an item (R132 to R138)

What `completeHead` leaves (`Completed`): the list, the entry, the state of the lane and its lot, with the reports it makes.
-/

namespace Sys2Proof.Machine

/-! ## Stacks and the lots -/

/-- Of every lot only the stacks-closed count may differ. -/
def LotsKept (s t : State) : Prop := ∀ l, ∃ n, (t.lane l).lot = { (s.lane l).lot with stacksClosed := n }

namespace LotsKept

variable {s t u : State}

theorem ofLots (same : ∀ l, (t.lane l).lot = (s.lane l).lot) : LotsKept s t := fun l => ⟨_, same l⟩

theorem refl (s : State) : LotsKept s s := ofLots fun _ => rfl

theorem trans (h : LotsKept s t) (k : LotsKept t u) : LotsKept s u := fun l => by
  obtain ⟨n, first⟩ := h l
  obtain ⟨m, second⟩ := k l
  exact ⟨m, by rw [second, first]⟩

theorem stackClosed (s : State) (l : LaneId) (customer : Word) (last : EntryId) : LotsKept s (s.stackClosed l customer last) := by
  unfold State.stackClosed
  repeat' split
  · exact refl s
  · intro m
    rw [State.modLane_lane]
    split
    · next same => rw [same]; exact ⟨_, rfl⟩
    · exact ⟨_, rfl⟩
  · exact refl s

theorem tryDischarge (s : State) : LotsKept s s.tryDischarge := by
  unfold State.tryDischarge State.startDischarge
  repeat' split
  all_goals exact refl s

theorem makeFull (s : State) (p : PlaceId) (short : Bool) : LotsKept s (s.makeFull p short) := by
  have told (u : State) : LotsKept u (u.tellStackClosed p) := by
    unfold State.tellStackClosed
    split
    · exact stackClosed u _ _ _
    · exact refl u
  rw [State.makeFull_eq]
  exact trans (t := s.joinQueue p short) (refl s) ((told _).trans (tryDischarge _))

theorem shortClose (s : State) (p : PlaceId) : LotsKept s (s.shortClose p) := by
  have freed : LotsKept s (s.freePlace p) := ofLots fun l => by
    unfold State.freePlace State.unstarve
    rw [State.mapLanes_lane]
    split <;> rfl
  unfold State.shortClose
  repeat' split
  · exact refl s
  · exact makeFull s p true
  · exact freed
  · exact refl s

theorem closeIdentity (s : State) (l : LaneId) (customer : Word) (article : Nat) : LotsKept s (s.closeIdentity l customer article) := by
  unfold State.closeIdentity
  repeat' split
  · exact shortClose s _
  · exact refl s
  · exact refl s

end LotsKept

/-! ## The accumulator (R136, R137) -/

section Lots

variable {s : State} {l : LaneId} {e : EntryId}

/-- The accumulator that an entry is added to: the open lot, unless LOT_START cuts it off, or a new one. -/
def State.lotBase (s : State) (l : LaneId) (e : EntryId) : Lot :=
  if (s.lane l).lot.inProgress = true ∧ s.entryLotStart e = false then (s.lane l).lot
  else Lot.opened (s.entryCustomer e) e (s.entryLotStart e)

theorem State.lotBase_inProgress (s : State) (l : LaneId) (e : EntryId) : (s.lotBase l e).inProgress = true := by
  unfold State.lotBase
  split
  · next kept => exact kept.1
  · rfl

/-- The words of the entries that a lot reads are words of table memory. -/
theorem State.lotWith_congr {t : State} (mem : t.mem = s.mem) (lot : Lot) (e : EntryId) : t.lotWith lot e = s.lotWith lot e := by
  unfold State.lotWith State.entryWord State.word
  rw [mem]

theorem State.reportLot_leaves (s : State) (l : LaneId) (mark : Lot → Lot) :
    ((s.reportLot l mark).lane l).lot = { (s.lane l).lot with inProgress := false } ∧ (s.reportLot l mark).mem = s.mem ∧
    (s.reportLot l mark).ring = (s.produce (.lot l (mark (s.lane l).lot))).ring := by
  have reports := Reports.produce s (.lot l (mark (s.lane l).lot))
  refine ⟨?_, reports.mem, rfl⟩
  unfold State.reportLot State.modLot
  rw [State.modLane_lane_same, reports.lane]

theorem State.cutLot_leaves (s : State) (l : LaneId) (e : EntryId) :
    ((s.cutLot l e).lane l).lot =
      (if s.entryLotStart e = true ∧ (s.lane l).lot.inProgress = true then { (s.lane l).lot with inProgress := false } else (s.lane l).lot) ∧
    (s.cutLot l e).mem = s.mem ∧
    (s.cutLot l e).ring =
      (if s.entryLotStart e = true ∧ (s.lane l).lot.inProgress = true then
        (s.produce (.lot l { (s.lane l).lot with unterminated := true })).ring else s.ring) := by
  unfold State.cutLot
  simp only [Bool.and_eq_true]
  split
  · exact State.reportLot_leaves s l _
  · exact ⟨rfl, rfl, rfl⟩

theorem State.openLot_leaves (s : State) (l : LaneId) (e : EntryId) :
    ((s.openLot l e).lane l).lot =
      (if (s.lane l).lot.inProgress = true then (s.lane l).lot else Lot.opened (s.entryCustomer e) e (s.entryLotStart e)) ∧
    (s.openLot l e).mem = s.mem ∧ (s.openLot l e).ring = s.ring := by
  unfold State.openLot
  split
  · exact ⟨rfl, rfl, rfl⟩
  · refine ⟨?_, rfl, rfl⟩
    rw [State.modLot, State.modLane_lane_same]

theorem State.addToLot_leaves (s : State) (l : LaneId) (e : EntryId) :
    ((s.addToLot l e).lane l).lot = s.lotWith (s.lotBase l e) e ∧ (s.addToLot l e).mem = s.mem ∧
    (s.addToLot l e).ring = (s.cutLot l e).ring := by
  obtain ⟨lot, mem, -⟩ := State.cutLot_leaves s l e
  have customer : (s.cutLot l e).entryCustomer e = s.entryCustomer e := congrArg (fun m : Mem => m.read _) mem
  have start : (s.cutLot l e).entryLotStart e = s.entryLotStart e := congrArg (fun m : Mem => (m.read _).getLsbD 10) mem
  obtain ⟨opened, opened_mem, opened_ring⟩ := State.openLot_leaves (s.cutLot l e) l e
  have base : (((s.cutLot l e).openLot l e).lane l).lot = s.lotBase l e := by
    rw [opened, lot, customer, start, State.lotBase]
    cases s.entryLotStart e <;> cases inProgress : (s.lane l).lot.inProgress <;> simp [inProgress]
  refine ⟨?_, opened_mem.trans mem, opened_ring⟩
  unfold State.addToLot
  dsimp only
  rw [State.modLot, State.modLane_lane_same, base]
  exact State.lotWith_congr (opened_mem.trans mem) _ e

end Lots

end Sys2Proof.Machine
end


section
/-!
# The completion of an item and the cascade (R131 to R138)

`Completed` says what the completion of the head leaves. A cascade completes the DRAINED items at the head one by one.
-/

namespace Sys2Proof.Machine

section Complete

variable {s : State} {l : LaneId} {it : OpenItem}

/-- The flags of an entry written back are those that it was planned with. -/
theorem State.entryFlag_writeBackEntry (wf : s.memWf) (e : EntryId) (st : EntryStatus) {i : Nat} (flag : 9 ≤ i) :
    ((s.writeBackEntry e st).entryWord e 0).getLsbD i = (s.entryWord e 0).getLsbD i := by
  rw [State.writeBackEntry, State.entryWord_setEntryWord_same wf, getLsbD_clearValid, getLsbD_withStatus, if_neg (by omega),
    decide_eq_true (by omega), Bool.and_true]

theorem Reports.notifyEntry (s : State) (l : LaneId) (it : OpenItem) (st : EntryStatus) : Reports s (s.notifyEntry l it st) := by
  unfold State.notifyEntry
  split
  · exact Reports.produce s _
  · exact Reports.refl s

/-- The lot of the lane after an item is closed. -/
theorem State.closeItem_lot (wf : s.memWf) (st : EntryStatus) :
    ((s.closeItem l it st).lane l).lot = s.lotWith (s.lotBase l it.entry) it.entry := by
  have reports := Reports.notifyEntry (s.writeBackEntry it.entry st) l it st
  have word {k : Nat} (hk : k < 12) (count : k ≠ 0) :
      ((s.writeBackEntry it.entry st).notifyEntry l it st).entryWord it.entry k = s.entryWord it.entry k :=
    (congrArg (fun m : Mem => m.read (pageBase 4 + (12 * it.entry.val + k))) reports.mem).trans
      (State.entryWord_writeBackEntry_other st hk (Or.inr count))
  have lane : ((s.writeBackEntry it.entry st).notifyEntry l it st).lane l = s.lane l := (reports.lane l).trans rfl
  have start : ((s.writeBackEntry it.entry st).notifyEntry l it st).entryLotStart it.entry = s.entryLotStart it.entry :=
    (congrArg (fun m : Mem => (m.read (pageBase 4 + (12 * it.entry.val + 0))).getLsbD 10) reports.mem).trans
      (State.entryFlag_writeBackEntry wf it.entry st (by decide))
  obtain ⟨lot, -, -⟩ := State.addToLot_leaves ((s.writeBackEntry it.entry st).notifyEntry l it st) l it.entry
  refine Eq.trans lot ?_
  generalize (s.writeBackEntry it.entry st).notifyEntry l it st = n at *
  unfold State.lotBase State.entryCustomer State.lotWith
  rw [lane, start, word (by decide) (by decide), word (by decide) (by decide), word (by decide) (by decide), word (by decide) (by decide),
    word (by decide) (by decide), word (by decide) (by decide)]

/-- LOT_END closes the lot; of its sums only the stacks closed may rise by the stack that it closes. -/
theorem State.endLot_lot (s : State) (l : LaneId) (e : EntryId) :
    ∃ n, ((s.endLot l e).lane l).lot =
      { (s.lane l).lot with stacksClosed := n, inProgress := (s.lane l).lot.inProgress && !s.entryLotEnd e } := by
  unfold State.endLot
  split
  · next ends =>
    obtain ⟨n, closed⟩ := LotsKept.closeIdentity s l (s.entryCustomer e) (s.entryArticle e) l
    refine ⟨n, ?_⟩
    rw [(State.reportLot_leaves _ l id).1, closed, ends]
    simp
  · next goesOn => exact ⟨(s.lane l).lot.stacksClosed, by simp [goesOn]⟩

/-- What the completion of the head item leaves of the lane and of the entries. -/
structure Completed (l : LaneId) (it : OpenItem) (s t : State) : Prop where
  inside : Inside l s t
  openList : (t.lane l).openList = (s.lane l).openList.tail
  status : t.entryStatus it.entry = some .complete
  valid : t.entryValid it.entry = false
  word : ∀ f k, k < 11 → f ≠ it.entry ∨ k ≠ 0 → t.entryWord f k = s.entryWord f k
  mode : (t.lane l).mode =
    if s.entryHoldAfter it.entry = true ∧ ((s.lane l).mode = .running ∨ (s.lane l).mode = .dry) then .wait else (s.lane l).mode
  waitPending : (t.lane l).waitPending =
    ((s.lane l).waitPending || (s.entryHoldAfter it.entry && decide (¬ ((s.lane l).mode = .running ∨ (s.lane l).mode = .dry))))
  lot : ∃ n, (t.lane l).lot =
    { s.lotWith (s.lotBase l it.entry) it.entry with stacksClosed := n, inProgress := !s.entryLotEnd it.entry }

/-- HOLD_AFTER changes the lane's state and its wait-pending alone (R138). -/
theorem State.holdAfter_lane (s : State) (l : LaneId) (e : EntryId) :
    (s.holdAfter l e).lane l = { s.lane l with
      mode := if s.entryHoldAfter e = true ∧ ((s.lane l).mode = .running ∨ (s.lane l).mode = .dry) then .wait else (s.lane l).mode
      waitPending := (s.lane l).waitPending || (s.entryHoldAfter e && decide (¬ ((s.lane l).mode = .running ∨ (s.lane l).mode = .dry))) } := by
  unfold State.holdAfter
  split
  · next holds =>
    split
    · next works =>
      unfold State.setMode
      rw [State.modLane_lane_same, if_pos ⟨holds, works⟩, decide_eq_false (not_not.mpr works)]
      simp
    · next rests =>
      unfold State.setWaitPending
      rw [State.modLane_lane_same, if_neg (fun both => rests both.2), decide_eq_true rests, holds]
      simp
  · next none =>
    rw [if_neg (fun both => none both.1), Bool.eq_false_iff.mpr none]
    simp

theorem State.holdAfter_mem (s : State) (l : LaneId) (e : EntryId) : (s.holdAfter l e).mem = s.mem := by
  unfold State.holdAfter
  repeat' split
  all_goals rfl

theorem State.completed (wf : s.memWf) (l : LaneId) (it : OpenItem) : Completed l it s (s.completeHead l it) := by
  have quiet : Quiet (s.writeBackEntry it.entry .complete) ((s.closeItem l it .complete).endLot l it.entry) :=
    (s.closeItem_quiet l it .complete).trans (Quiet.endLot _ l it.entry)
  have closed := s.closeItem_quiet l it .complete
  have lot := State.closeItem_lot (l := l) (it := it) wf .complete
  obtain ⟨n, ended⟩ := State.endLot_lot (s.closeItem l it .complete) l it.entry
  have flag {i : Nat} (high : 9 ≤ i) {u : State} (h : Quiet (s.writeBackEntry it.entry .complete) u) :
      (u.entryWord it.entry 0).getLsbD i = (s.entryWord it.entry 0).getLsbD i := by
    rw [h.entryWord it.entry (by decide), State.entryFlag_writeBackEntry wf it.entry .complete high]
  have ends : (s.closeItem l it .complete).entryLotEnd it.entry = s.entryLotEnd it.entry := flag (by decide) closed
  have holds : ((s.closeItem l it .complete).endLot l it.entry).entryHoldAfter it.entry = s.entryHoldAfter it.entry := flag (by decide) quiet
  have held := State.holdAfter_lane ((s.closeItem l it .complete).endLot l it.entry) l it.entry
  have mem := State.holdAfter_mem ((s.closeItem l it .complete).endLot l it.entry) l it.entry
  have lane : (s.completeHead l it).lane l =
      { (((s.closeItem l it .complete).endLot l it.entry).holdAfter l it.entry).lane l with
        openList := ((((s.closeItem l it .complete).endLot l it.entry).holdAfter l it.entry).lane l).openList.tail } :=
    State.modLane_lane_same _ l _
  have word (f : EntryId) {k : Nat} (hk : k < 11) :
      (s.completeHead l it).entryWord f k = (s.writeBackEntry it.entry .complete).entryWord f k :=
    (congrArg (fun m : Mem => m.read (pageBase 4 + (12 * f.val + k))) mem).trans (quiet.entryWord f hk)
  have word0 := word it.entry (k := 0) (by decide)
  have list := quiet.openList l
  have own := quiet.lanes l
  rw [lot, ends] at ended
  generalize (s.closeItem l it .complete).endLot l it.entry = d at *
  have modes : (d.lane l).mode = (s.lane l).mode := (congrArg Lane.mode own).trans rfl
  have pends : (d.lane l).waitPending = (s.lane l).waitPending := (congrArg Lane.waitPending own).trans rfl
  rw [holds, modes, pends] at held
  exact {
    inside := Inside.completeHead l s it
    openList := by rw [lane, held]; exact congrArg List.tail list
    status := (State.entryStatus_of_word word0).trans (State.entryStatus_writeBackEntry_same wf it.entry .complete)
    valid := (congrArg (fun w : Word => w.getLsbD 8) word0).trans (State.entryValid_writeBackEntry_same wf it.entry .complete)
    word := fun f k hk other => (word f hk).trans (State.entryWord_writeBackEntry_other .complete (by omega) other)
    mode := by rw [lane, held]
    waitPending := by rw [lane, held]
    lot := ⟨n, by
      rw [lane, held]
      dsimp only
      rw [ended, show (s.lotWith (s.lotBase l it.entry) it.entry).inProgress = true from State.lotBase_inProgress s l it.entry, Bool.true_and]⟩ }

end Complete

/-! ## The cascade (R132) -/

section Cascade

variable {s : State} {l : LaneId}

/-- The items completed one after another. -/
def State.completeAll (s : State) (l : LaneId) (items : List OpenItem) : State := items.foldl (fun u it => u.completeHead l it) s

theorem State.entryStatus_completeHead_other (wf : s.memWf) {it : OpenItem} {f : EntryId} (other : f ≠ it.entry) :
    (s.completeHead l it).entryStatus f = s.entryStatus f :=
  State.entryStatus_of_word ((State.completed wf l it).word f 0 (by decide) (Or.inl other))

/-- A cascade completes the DRAINED items up to the first other one. -/
theorem State.cascade_eq {waiting items : List OpenItem} {n : Nat} (enough : waiting.length ≤ n) (wf : s.memWf)
    (list : (s.lane l).openList = waiting ++ items) (nodup : ((waiting ++ items).map OpenItem.entry).Nodup)
    (drained : ∀ x ∈ waiting, s.entryStatus x.entry = some .drained)
    (stops : ∀ x, items.head? = some x → s.entryStatus x.entry ≠ some .drained) : State.cascade n l s = s.completeAll l waiting := by
  induction waiting generalizing n s with
  | nil =>
    cases n with
    | zero => rfl
    | succ n =>
      rw [State.cascade, list]
      cases items with
      | nil => rfl
      | cons x items => exact if_neg (stops x rfl)
  | cons it waiting ih =>
    obtain ⟨n, rfl⟩ : ∃ m, n = m + 1 := ⟨n - 1, by rw [List.length_cons] at enough; omega⟩
    have completed := State.completed wf l it
    obtain ⟨fresh, nodup'⟩ := List.nodup_cons.mp nodup
    have other (x : OpenItem) (listed : x ∈ waiting ++ items) : x.entry ≠ it.entry := fun same =>
      fresh (same ▸ List.mem_map_of_mem listed)
    rw [State.cascade, list]
    refine (if_pos (drained it List.mem_cons_self)).trans (ih (by simpa using enough) (completed.inside.wf wf) ?_ nodup' ?_ ?_)
    · rw [completed.openList, list]
      rfl
    · intro x listed
      rw [State.entryStatus_completeHead_other wf (other x (List.mem_append_left _ listed))]
      exact drained x (List.mem_cons_of_mem _ listed)
    · intro x head
      rw [State.entryStatus_completeHead_other wf (other x (List.mem_append_right _ (List.mem_of_head? head)))]
      exact stops x head

/-- The items whose entries have HOLD_AFTER. -/
def State.holds (s : State) (items : List OpenItem) : Nat := (items.filter fun x => s.entryHoldAfter x.entry).length

/-- What the completion of the items at the head leaves. -/
structure CompletedAll (l : LaneId) (done rest : List OpenItem) (s t : State) : Prop where
  inside : Inside l s t
  openList : (t.lane l).openList = rest
  complete : ∀ x ∈ done, t.entryStatus x.entry = some .complete ∧ t.entryValid x.entry = false
  word : ∀ f, (∀ x ∈ done, f ≠ x.entry) → t.entryWord f 0 = s.entryWord f 0
  waits : (s.lane l).mode = .wait → (t.lane l).mode = .wait ∧ (t.lane l).waitPending = ((s.lane l).waitPending || decide (0 < s.holds done))
  runs : (s.lane l).mode = .running →
    (t.lane l).mode = (if s.holds done = 0 then .running else .wait) ∧
    (t.lane l).waitPending = ((s.lane l).waitPending || decide (1 < s.holds done))
  lot : (s.lane l).lot.inProgress = true → (∀ x ∈ done, s.entryLotStart x.entry = false ∧ s.entryLotEnd x.entry = false) →
    (t.lane l).lot.inProgress = true ∧ (t.lane l).lot.entries = (s.lane l).lot.entries + wordOf done.length ∧
    (t.lane l).lot.lastEntry = (done.getLast?.map OpenItem.entry).getD (s.lane l).lot.lastEntry

theorem State.completedAll {done rest : List OpenItem} (wf : s.memWf) (list : (s.lane l).openList = done ++ rest)
    (nodup : (done.map OpenItem.entry).Nodup) : CompletedAll l done rest s (s.completeAll l done) := by
  induction done generalizing s with
  | nil =>
    exact {
      inside := Inside.refl l s
      openList := list
      complete := fun x listed => absurd listed List.not_mem_nil
      word := fun f _ => rfl
      waits := fun wait => ⟨wait, by simp [State.completeAll, State.holds]⟩
      runs := fun running => ⟨running, by simp [State.completeAll, State.holds]⟩
      lot := fun inProgress _ => ⟨inProgress, (BitVec.add_zero _).symm, rfl⟩ }
  | cons it done ih =>
    have first := State.completed wf l it
    obtain ⟨fresh, nodup'⟩ := List.nodup_cons.mp nodup
    have rest' := ih (s := s.completeHead l it) (first.inside.wf wf) (by rw [first.openList, list]; rfl) nodup'
    have other (x : OpenItem) (listed : x ∈ done) : x.entry ≠ it.entry := fun same => fresh (same ▸ List.mem_map_of_mem listed)
    have flags (x : OpenItem) (listed : x ∈ done) : (s.completeHead l it).entryWord x.entry 0 = s.entryWord x.entry 0 :=
      first.word x.entry 0 (by decide) (Or.inl (other x listed))
    have holds : (s.completeHead l it).holds done = s.holds done := by
      unfold State.holds
      refine congrArg List.length (List.filter_congr fun x listed => ?_)
      exact congrArg (fun w : Word => w.getLsbD 12) (flags x listed)
    have total : s.holds (it :: done) = (if s.entryHoldAfter it.entry = true then s.holds done + 1 else s.holds done) := by
      unfold State.holds
      rw [List.filter_cons]
      split <;> rfl
    have all : s.completeAll l (it :: done) = (s.completeHead l it).completeAll l done := rfl
    rw [all]
    generalize (s.completeHead l it).completeAll l done = t at *
    refine {
      inside := first.inside.trans rest'.inside
      openList := rest'.openList
      complete := fun x listed => ?complete
      word := fun f apart => ?word
      waits := fun wait => ?waits
      runs := fun running => ?runs
      lot := fun inProgress flags' => ?lot }
    case complete =>
      rcases List.mem_cons.mp listed with rfl | listed
      · have kept := rest'.word x.entry fun y mem same => other y mem same.symm
        exact ⟨(State.entryStatus_of_word kept).trans first.status, (congrArg (fun w : Word => w.getLsbD 8) kept).trans first.valid⟩
      · exact rest'.complete x listed
    case word =>
      rw [rest'.word f fun x listed => apart x (List.mem_cons_of_mem _ listed)]
      exact first.word f 0 (by decide) (Or.inl (apart it List.mem_cons_self))
    case waits =>
      have mode := first.mode
      have pending := first.waitPending
      rw [wait] at mode pending
      obtain ⟨waits, pends⟩ := rest'.waits (by simpa using mode)
      refine ⟨waits, ?_⟩
      rw [pends, pending, holds, total]
      cases s.entryHoldAfter it.entry <;> simp
    case runs =>
      have mode := first.mode
      have pending := first.waitPending
      rw [running] at mode pending
      rw [total]
      cases flag : s.entryHoldAfter it.entry with
      | false =>
        obtain ⟨runs, pends⟩ := rest'.runs (by simpa [flag] using mode)
        rw [runs, pends, holds, pending]
        simp
      | true =>
        obtain ⟨waits, pends⟩ := rest'.waits (by simpa [flag] using mode)
        rw [waits, pends, holds, pending]
        simp
    case lot =>
      obtain ⟨n, lot⟩ := first.lot
      obtain ⟨noStart, noEnd⟩ := flags' it List.mem_cons_self
      rw [State.lotBase, if_pos ⟨inProgress, noStart⟩, noEnd] at lot
      obtain ⟨stays, entries, last⟩ := rest'.lot (by rw [lot]; rfl) fun x listed =>
        ⟨(congrArg (fun w : Word => w.getLsbD 10) (flags x listed)).trans (flags' x (List.mem_cons_of_mem _ listed)).1,
          (congrArg (fun w : Word => w.getLsbD 11) (flags x listed)).trans (flags' x (List.mem_cons_of_mem _ listed)).2⟩
      refine ⟨stays, ?_, ?_⟩
      · rw [entries, lot]
        show (s.lane l).lot.entries + 1 + wordOf done.length = _
        rw [List.length_cons, wordOf, wordOf, BitVec.ofNat_add, BitVec.add_assoc, BitVec.add_comm 1]
        rfl
      · rw [last]
        cases done with
        | nil => rw [lot]; rfl
        | cons y done => rfl

end Cascade

end Sys2Proof.Machine
end


section
/-!
# The last booking of an entry (R131 to R138)

The reports of a completion, and the loss of an expired token that drains its entry.
-/

namespace Sys2Proof.Machine

/-! ## The reports of a completion (R134, R136, R137) -/

section Reporting

variable {s : State} {l : LaneId} {it : OpenItem}

theorem State.produce_queue (r : Report) (room : s.ring.reportQueue.length < 16) :
    (s.produce r).ring = { s.ring with reportQueue := s.ring.reportQueue ++ [s.reportTelegram r] } := by
  have slot : s.reportRoom = true := decide_eq_true room
  rw [State.produce, if_pos slot]
  rfl

theorem Inside.queueGrows {t : State} (h : Inside l s t) : ∃ more, t.ring.reportQueue = s.ring.reportQueue ++ more := by
  obtain ⟨more, ring⟩ := h.ring
  exact ⟨more, congrArg Ring.reportQueue ring⟩

/-- Writing an entry back leaves what its report carries. -/
theorem State.entryResult_writeBackEntry (s : State) (l : LaneId) (it : OpenItem) (st : EntryStatus) :
    (s.writeBackEntry it.entry st).entryResult l it st = s.entryResult l it st := by
  have word {k : Nat} (hk : k < 12) (planned : k ≠ 0) : (s.writeBackEntry it.entry st).entryWord it.entry k = s.entryWord it.entry k :=
    State.entryWord_writeBackEntry_other st hk (Or.inr planned)
  unfold State.entryResult State.entryCustomer State.entryArticle
  rw [word (by decide) (by decide), word (by decide) (by decide), word (by decide) (by decide), word (by decide) (by decide),
    word (by decide) (by decide), word (by decide) (by decide), word (by decide) (by decide), word (by decide) (by decide),
    word (by decide) (by decide)]

/-- An entry with NOTIFY is reported first. -/
theorem State.completeHead_notifies (wf : s.memWf) (notify : s.entryNotify it.entry = true) (room : s.ring.reportQueue.length < 16) :
    ∃ more, (s.completeHead l it).ring.reportQueue =
      s.ring.reportQueue ++ s.reportTelegram (.entry (s.entryResult l it .complete)) :: more := by
  have flag : (s.writeBackEntry it.entry .complete).entryNotify it.entry = true :=
    (State.entryFlag_writeBackEntry wf it.entry .complete (by decide)).trans notify
  have noted : ((s.writeBackEntry it.entry .complete).notifyEntry l it .complete).ring.reportQueue =
      s.ring.reportQueue ++ [s.reportTelegram (.entry (s.entryResult l it .complete))] := by
    rw [State.notifyEntry, if_pos flag, State.entryResult_writeBackEntry, State.produce_queue (s := s.writeBackEntry it.entry .complete) _ room]
    rfl
  have after : Inside l ((s.writeBackEntry it.entry .complete).notifyEntry l it .complete) (s.completeHead l it) :=
    (Inside.addToLot l _ it.entry).trans ((Inside.endLot l _ it.entry).trans ((Inside.holdAfter l _ it.entry).trans (Inside.dropHead l _)))
  obtain ⟨more, grows⟩ := after.queueGrows
  exact ⟨more, by rw [grows, noted, List.append_assoc]; rfl⟩

theorem Report.body_lot (l : LaneId) (a : Lot) : (Report.lot l a).body = lotBytes l a := rfl

theorem State.addToLot_places (s : State) (l : LaneId) (e : EntryId) : (s.addToLot l e).places = s.places := by
  have cut : (s.cutLot l e).places = s.places := by
    unfold State.cutLot
    split
    · exact (Reports.produce s _).places
    · rfl
  have opened : ((s.cutLot l e).openLot l e).places = (s.cutLot l e).places := by
    unfold State.openLot
    split <;> rfl
  exact opened.trans cut

/-- No FILLING place of the lane has the identity. -/
def State.noPlaceFor (s : State) (l : LaneId) (customer : Word) (article : Nat) : Prop :=
  ∀ p, s.fillingPlace l = some p → (s.place p).customer ≠ customer ∨ (s.place p).article ≠ article

theorem State.closeIdentity_idle {customer : Word} {article : Nat} (none : s.noPlaceFor l customer article) :
    s.closeIdentity l customer article = s := by
  unfold State.closeIdentity
  split
  · next p filling =>
    refine if_neg fun same => ?_
    have same := of_decide_eq_true same
    exact (none p filling).elim (fun h => h same.1) fun h => h same.2
  · rfl

theorem State.noPlaceFor_congr {t : State} (places : t.places = s.places) {customer : Word} {article : Nat}
    (none : s.noPlaceFor l customer article) : t.noPlaceFor l customer article := by
  have place (p : PlaceId) : t.place p = s.place p := congrArg (fun v : Vector Place 8 => v[p]) places
  intro p filling
  unfold State.fillingPlace at filling
  simp only [place] at filling
  rw [place]
  exact none p filling

/-- The reports and the places after an item without NOTIFY is closed: a lot that LOT_START cuts off is reported. -/
theorem State.closeItem_reports (wf : s.memWf) (silent : s.entryNotify it.entry = false) (room : s.ring.reportQueue.length < 16) :
    (s.closeItem l it .complete).ring =
      { s.ring with
        reportQueue := s.ring.reportQueue ++
          if s.entryLotStart it.entry = true ∧ (s.lane l).lot.inProgress = true then
            [s.ownTelegram .lot 0x00#8 (lotBytes l { (s.lane l).lot with unterminated := true })] else [] } ∧
    (s.closeItem l it .complete).places = s.places := by
  have flag {i : Nat} (high : 9 ≤ i) : ((s.writeBackEntry it.entry .complete).entryWord it.entry 0).getLsbD i = (s.entryWord it.entry 0).getLsbD i :=
    State.entryFlag_writeBackEntry wf it.entry .complete high
  have silent' : (s.writeBackEntry it.entry .complete).entryNotify it.entry = false := (flag (by decide)).trans silent
  have start : (s.writeBackEntry it.entry .complete).entryLotStart it.entry = s.entryLotStart it.entry := flag (by decide)
  have lane : (s.writeBackEntry it.entry .complete).lane l = s.lane l := rfl
  obtain ⟨-, -, ring⟩ := State.addToLot_leaves (s.writeBackEntry it.entry .complete) l it.entry
  obtain ⟨-, -, cut⟩ := State.cutLot_leaves (s.writeBackEntry it.entry .complete) l it.entry
  rw [start, lane] at cut
  unfold State.closeItem
  rw [State.notifyEntry, if_neg (by simp [silent'])]
  refine ⟨(ring.trans cut).trans ?_, State.addToLot_places _ l it.entry⟩
  split
  · exact State.produce_queue (s := s.writeBackEntry it.entry .complete) _ room
  · rw [List.append_nil]
    rfl

/-- The lot and the reports of LOT_END where no stack of the identity is to be closed. -/
theorem State.endLot_reports (e : EntryId) (none : s.noPlaceFor l (s.entryCustomer e) (s.entryArticle e))
    (room : s.ring.reportQueue.length < 16) :
    ((s.endLot l e).lane l).lot = { (s.lane l).lot with inProgress := (s.lane l).lot.inProgress && !s.entryLotEnd e } ∧
    (s.endLot l e).ring.reportQueue =
      s.ring.reportQueue ++ if s.entryLotEnd e = true then [s.ownTelegram .lot 0x00#8 (lotBytes l (s.lane l).lot)] else [] := by
  unfold State.endLot
  split
  · next ends =>
    obtain ⟨lot, -, ring⟩ := State.reportLot_leaves s l id
    rw [State.closeIdentity_idle none]
    refine ⟨?_, ?_⟩
    · rw [lot, ends]
      simp
    · rw [ring, State.produce_queue _ room]
      rfl
  · next goesOn => simp [goesOn]

/-- The lot and the reports of the completion of an entry without NOTIFY that closes no stack. -/
theorem State.completeHead_lot (wf : s.memWf) (silent : s.entryNotify it.entry = false) (room : s.ring.reportQueue.length ≤ 14)
    (none : s.noPlaceFor l (s.entryCustomer it.entry) (s.entryArticle it.entry)) :
    ((s.completeHead l it).lane l).lot =
      { s.lotWith (s.lotBase l it.entry) it.entry with inProgress := !s.entryLotEnd it.entry } ∧
    (s.completeHead l it).ring.reportQueue = s.ring.reportQueue ++
      (if s.entryLotStart it.entry = true ∧ (s.lane l).lot.inProgress = true then
        [s.ownTelegram .lot 0x00#8 (lotBytes l { (s.lane l).lot with unterminated := true })] else []) ++
      (if s.entryLotEnd it.entry = true then
        [s.ownTelegram .lot 0x00#8 (lotBytes l (s.lotWith (s.lotBase l it.entry) it.entry))] else []) := by
  have quiet := s.closeItem_quiet l it .complete
  have lot := State.closeItem_lot (l := l) (it := it) wf .complete
  obtain ⟨ring, places⟩ := State.closeItem_reports (l := l) wf silent (Nat.lt_of_le_of_lt room (by decide))
  have word {k : Nat} (hk : k < 11) (planned : k ≠ 0) : (s.closeItem l it .complete).entryWord it.entry k = s.entryWord it.entry k :=
    (quiet.entryWord it.entry hk).trans (State.entryWord_writeBackEntry_other .complete (by omega) (Or.inr planned))
  have ends : (s.closeItem l it .complete).entryLotEnd it.entry = s.entryLotEnd it.entry :=
    (congrArg (fun w : Word => w.getLsbD 11) (quiet.entryWord it.entry (by decide))).trans
      (State.entryFlag_writeBackEntry wf it.entry .complete (by decide))
  have customer : (s.closeItem l it .complete).entryCustomer it.entry = s.entryCustomer it.entry := word (by decide) (by decide)
  have article : (s.closeItem l it .complete).entryArticle it.entry = s.entryArticle it.entry :=
    congrArg BitVec.toNat (word (k := 1) (by decide) (by decide))
  have held := State.holdAfter_lane ((s.closeItem l it .complete).endLot l it.entry) l it.entry
  have after : ((s.completeHead l it).lane l).lot = (((s.closeItem l it .complete).endLot l it.entry).lane l).lot ∧
      (s.completeHead l it).ring = ((s.closeItem l it .complete).endLot l it.entry).ring := by
    have kept : ∀ u : State, (u.holdAfter l it.entry).ring = u.ring := fun u => by
      unfold State.holdAfter
      repeat' split
      all_goals rfl
    unfold State.completeHead State.dropHead
    rw [State.modLane_lane_same, held]
    exact ⟨rfl, kept _⟩
  have telegram (b : List Byte) : (s.closeItem l it .complete).ownTelegram .lot 0x00#8 b = s.ownTelegram .lot 0x00#8 b := by
    unfold State.ownTelegram
    rw [ring]
  obtain ⟨ended, reported⟩ := State.endLot_reports (s := s.closeItem l it .complete) (l := l) it.entry
    (by rw [customer, article]; exact State.noPlaceFor_congr places none) (by
      rw [ring]
      dsimp only
      rw [List.length_append]
      split
      · rw [List.length_singleton]
        omega
      · rw [List.length_nil]
        omega)
  rw [after.1, after.2, ended, reported, ends, lot, telegram, ring]
  refine ⟨?_, rfl⟩
  rw [show (s.lotWith (s.lotBase l it.entry) it.entry).inProgress = true from State.lotBase_inProgress s l it.entry, Bool.true_and]

end Reporting

end Sys2Proof.Machine
end


section
/-!
# The loss that drains an entry (R131, R132)
-/

namespace Sys2Proof.Machine

section Drains

variable {s : State} {l : LaneId} {q : QueuedToken} {rest : List QueuedToken}

/-- The state in which an expired token has left the queue and is counted LOST in its entry. -/
def State.lossCounted (s : State) (l : LaneId) (rest : List QueuedToken) (e : EntryId) : State :=
  (s.modLane l fun L => { L with tokens := rest }).bumpEntry e 10

/-- What it leaves of the state before. -/
structure LossCounted (l : LaneId) (rest : List QueuedToken) (e : EntryId) (s u : State) : Prop where
  wf : u.memWf
  lane : u.lane l = { s.lane l with tokens := rest }
  ring : u.ring = s.ring
  places : u.places = s.places
  lost : u.entryWord e 10 = s.entryWord e 10 + 1
  word : ∀ f k, k < 12 → f ≠ e ∨ k ≠ 10 → u.entryWord f k = s.entryWord f k

theorem State.lossCounted_leaves (wf : s.memWf) (l : LaneId) (rest : List QueuedToken) (e : EntryId) :
    LossCounted l rest e s (s.lossCounted l rest e) where
  wf := State.bumpEntry_memWf (s := s.modLane l _) wf e (by decide)
  lane := State.modLane_lane_same s l fun L => { L with tokens := rest }
  ring := rfl
  places := rfl
  lost := State.entryWord_bumpEntry_same (s := s.modLane l _) wf e 10
  word := fun _ _ hk other => State.entryWord_bumpEntry_other (s := s.modLane l _) hk (by decide) other

/-- The last outstanding token of a CLOSING entry drains it. -/
theorem LossCounted.drained {u : State} {e : EntryId} (h : LossCounted l rest e s u) (closing : s.entryStatus e = some .closing)
    (small : (s.entryWord e 10).toNat + 1 < 65536) (last : s.entryAssigned e = s.entryRetired e + 1) : u.drained e = true := by
  have status : u.entryStatus e = some .closing := (State.entryStatus_of_word (h.word e 0 (by decide) (Or.inr (by decide)))).trans closing
  have lost : (u.entryWord e 10).toNat = (s.entryWord e 10).toNat + 1 := by
    rw [h.lost, BitVec.toNat_add]
    exact Nat.mod_eq_of_lt small
  have same {k : Nat} (hk : k < 10) : u.entryWord e k = s.entryWord e k := h.word e k (by omega) (Or.inr (by omega))
  unfold State.entryAssigned State.entryRetired at last
  unfold State.drained State.entryAssigned State.entryRetired
  rw [lost, same (by decide), same (by decide), same (by decide), same (by decide), decide_eq_true status, Bool.true_and]
  exact decide_eq_true (by omega)

/-- What is left of a state after the lane's counter, the look at SUSPENDING, TOKEN_LOST and the output lines. -/
structure Wound (l : LaneId) (v t : State) : Prop where
  openList : (t.lane l).openList = (v.lane l).openList
  lot : (t.lane l).lot = (v.lane l).lot
  waitPending : (t.lane l).waitPending = (v.lane l).waitPending
  mode : (v.lane l).mode ≠ .suspending → (t.lane l).mode = (v.lane l).mode
  word : ∀ f k, k < 12 → t.entryWord f k = v.entryWord f k
  queue : ∃ more, t.ring.reportQueue = v.ring.reportQueue ++ more

theorem Wound.of (l : LaneId) (v : State) :
    Wound l v ((((v.addLaneCounter l 3 1).examineSuspending l).raise .tokenLost (some l)).settle) := by
  have raised := Reports.raise ((v.addLaneCounter l 3 1).examineSuspending l) .tokenLost (some l)
  obtain ⟨more, ring⟩ := (Inside.raise l ((v.addLaneCounter l 3 1).examineSuspending l) .tokenLost (some l)).ring
  have word (f : EntryId) {k : Nat} (hk : k < 12) : (v.addLaneCounter l 3 1).entryWord f k = v.entryWord f k :=
    State.word_addWord_other v 1 (entryAddress_ne_counter f hk _).symm
  have mem := State.examineSuspending_mem (v.addLaneCounter l 3 1) l
  have lane : ((v.addLaneCounter l 3 1).examineSuspending l).lane l =
      { v.lane l with mode := (((v.addLaneCounter l 3 1).examineSuspending l).lane l).mode } ∧
      ((v.lane l).mode ≠ .suspending → (((v.addLaneCounter l 3 1).examineSuspending l).lane l).mode = (v.lane l).mode) := by
    unfold State.examineSuspending
    split
    · next empties =>
      unfold State.setMode
      rw [State.modLane_lane_same]
      exact ⟨rfl, fun other => absurd empties.1 other⟩
    · exact ⟨rfl, fun _ => rfl⟩
  have examined : ((v.addLaneCounter l 3 1).examineSuspending l).ring = v.ring := by
    unfold State.examineSuspending
    split <;> rfl
  obtain ⟨same, mode⟩ := lane
  generalize (v.addLaneCounter l 3 1).examineSuspending l = w at *
  have own := raised.lane l
  have raised_mem := raised.mem
  generalize w.raise .tokenLost (some l) = x at *
  have settled : x.settle.lane l = (w.lane l).settle := (State.settle_lane x l).trans (congrArg Lane.settle own)
  refine ⟨?_, ?_, ?_, fun other => ?_, fun f k hk => ?_, more, ?_⟩
  · rw [settled, same]; rfl
  · rw [settled, same]; rfl
  · rw [settled, same]; rfl
  · rw [settled]; exact mode other
  · exact (congrArg (fun m : Mem => m.read (pageBase 4 + (12 * f.val + k))) (raised_mem.trans mem)).trans (word f hk)
  · rw [State.settle_ring, ring, examined]

/-- The expiry of the last outstanding token: the entry drains. -/
theorem exec_tokenExpiry_drains (wf : s.memWf) (queue : (s.lane l).tokens = q :: rest) (reach : reached s.track.position q.expiry = true)
    (closing : s.entryStatus q.token.entry = some .closing) (small : (s.entryWord q.token.entry 10).toNat + 1 < 65536)
    (last : s.entryAssigned q.token.entry = s.entryRetired q.token.entry + 1) :
    ∃ t, exec (.tokenExpiry l) s = .next t ∧ Wound l ((s.lossCounted l rest q.token.entry).drain l q.token.entry) t := by
  obtain ⟨due, expired⟩ := State.expireToken_head queue reach
  have drained := (State.lossCounted_leaves wf l rest q.token.entry).drained closing small last
  have booked : (s.modLane l fun L => { L with tokens := rest }).book l .lost q.token.entry =
      (s.lossCounted l rest q.token.entry).drain l q.token.entry := if_pos drained
  have lost : (s.modLane l fun L => { L with tokens := rest }).loseToken l q.token =
      (((s.lossCounted l rest q.token.entry).drain l q.token.entry).addLaneCounter l 3 1).examineSuspending l := by
    rw [State.loseToken, booked]
    rfl
  have outcome : exec (.tokenExpiry l) s = .next (s.expireToken l).settle :=
    exec_of_due (c := .tokenExpiry l) (congrArg Option.isSome due)
  rw [outcome, expired, lost]
  exact ⟨_, rfl, Wound.of l _⟩

theorem Wound.status {v t : State} (h : Wound l v t) (f : EntryId) : t.entryStatus f = v.entryStatus f :=
  State.entryStatus_of_word (h.word f 0 (by decide))

theorem Wound.valid {v t : State} (h : Wound l v t) (f : EntryId) : t.entryValid f = v.entryValid f :=
  congrArg (fun w : Word => w.getLsbD 8) (h.word f 0 (by decide))

/-- A head that drains completes, and the cascade follows. -/
theorem State.drain_head {u : State} {it : OpenItem} {items : List OpenItem} (list : (u.lane l).openList = it :: items) :
    u.drain l it.entry = State.cascade items.length l (u.completeHead l it) := by
  rw [State.drain, list]
  exact if_pos rfl

theorem State.drain_only {u : State} {it : OpenItem} (list : (u.lane l).openList = [it]) : u.drain l it.entry = u.completeHead l it :=
  State.drain_head list

/-- Behind the head it waits DRAINED. -/
theorem State.drain_behind {u : State} {it : OpenItem} {items : List OpenItem} {e : EntryId} (list : (u.lane l).openList = it :: items)
    (behind : e ≠ it.entry) : u.drain l e = u.setEntryStatus e .drained := by
  rw [State.drain, list]
  exact if_neg fun same => behind same.symm

/-- The lot of the entry's completion, in the words from before its last token was lost. -/
theorem LossCounted.lot {u : State} {e : EntryId} (h : LossCounted l rest e s u) :
    u.lotBase l e = s.lotBase l e ∧
    u.lotWith (s.lotBase l e) e = { s.lotWith (s.lotBase l e) e with lost := (s.lotBase l e).lost + (s.entryWord e 10 + 1) } := by
  have same {k : Nat} (hk : k < 12) (other : k ≠ 10) : u.entryWord e k = s.entryWord e k := h.word e k hk (Or.inr other)
  refine ⟨?_, ?_⟩
  · unfold State.lotBase State.entryCustomer State.entryLotStart
    rw [h.lane, same (by decide) (by decide), same (by decide) (by decide)]
  · unfold State.lotWith
    rw [h.lost, same (by decide) (by decide), same (by decide) (by decide), same (by decide) (by decide), same (by decide) (by decide)]

theorem LossCounted.flag {u : State} {e : EntryId} (h : LossCounted l rest e s u) (f : EntryId) (i : Nat) :
    (u.entryWord f 0).getLsbD i = (s.entryWord f 0).getLsbD i :=
  congrArg (fun w : Word => w.getLsbD i) (h.word f 0 (by decide) (Or.inr (by decide)))

theorem LossCounted.status {u : State} {e : EntryId} (h : LossCounted l rest e s u) (f : EntryId) : u.entryStatus f = s.entryStatus f :=
  State.entryStatus_of_word (h.word f 0 (by decide) (Or.inr (by decide)))

end Drains

/-! ## The obligation -/

/-- Settles O41: the one entry, the entry behind the head, the cascade, and the reports of the lot. -/
theorem lastBookingCompletesEntry : Obligations.LastBookingCompletesEntry := by
  refine ⟨?one, ?behind, ?cascade, ?reports⟩
  case one =>
    intro s l q rest it wf queue reach list entry closing small last running
    rw [← entry] at closing small last
    obtain ⟨t, step, wound⟩ := exec_tokenExpiry_drains wf queue reach closing small last
    have loss := State.lossCounted_leaves wf l rest q.token.entry
    rw [entry] at wound loss
    generalize s.lossCounted l rest it.entry = u at *
    have list' : (u.lane l).openList = [it] := by rw [loss.lane]; exact list
    have running' : (u.lane l).mode = .running := by rw [loss.lane]; exact running
    have holds : u.entryHoldAfter it.entry = s.entryHoldAfter it.entry := loss.flag it.entry 12
    rw [State.drain_only list'] at wound
    have completed := State.completed loss.wf l it
    have notified := State.completeHead_notifies (s := u) (l := l) (it := it) loss.wf
    have mode := completed.mode
    rw [running', holds] at mode
    refine ⟨t, step, (wound.status _).trans completed.status, (wound.valid _).trans completed.valid, ?list, ?mode, fun notify room => ?notify,
      fun inProgress start => ?lot⟩
    case list => rw [wound.openList, completed.openList, list']; rfl
    case mode =>
      rw [wound.mode, mode]
      · simp
      · rw [mode]
        split <;> decide
    case notify =>
      obtain ⟨more, reported⟩ := notified ((loss.flag it.entry 13).trans notify) (by rw [loss.ring]; exact room)
      obtain ⟨rest', grows⟩ := wound.queue
      refine ⟨more ++ rest', ?_⟩
      have same {k : Nat} (hk : k < 12) (other : k ≠ 10) : u.entryWord it.entry k = s.entryWord it.entry k :=
        loss.word it.entry k hk (Or.inr other)
      have article : u.entryArticle it.entry = s.entryArticle it.entry := congrArg BitVec.toNat (same (k := 1) (by decide) (by decide))
      have telegram : u.reportTelegram (.entry (u.entryResult l it .complete)) = s.ownTelegram .entry 0x00#8
          ([byteOf l.val, byteOf it.entry.val, 0x05#8] ++ wordBytes (s.entryWord it.entry 2) ++
            [byteOf (s.entryArticle it.entry)] ++ wordBytes (s.entryWord it.entry 3) ++ [byteOf it.target] ++
            wordBytes (s.entryWord it.entry 6) ++ wordBytes (s.entryWord it.entry 7) ++ wordBytes (s.entryWord it.entry 8) ++
            wordBytes (s.entryWord it.entry 9) ++ wordBytes (s.entryWord it.entry 10 + 1) ++ wordBytes (s.entryWord it.entry 11)) := by
        unfold State.reportTelegram State.entryResult State.ownTelegram State.entryCustomer
        rw [loss.ring, loss.lost, article, same (by decide) (by decide), same (by decide) (by decide), same (by decide) (by decide),
          same (by decide) (by decide), same (by decide) (by decide), same (by decide) (by decide), same (by decide) (by decide)]
        rfl
      rw [grows, reported, loss.ring, telegram, List.append_assoc]
      rfl
    case lot =>
      obtain ⟨n, lot⟩ := completed.lot
      obtain ⟨base, added⟩ := loss.lot
      have ends : u.entryLotEnd it.entry = s.entryLotEnd it.entry := loss.flag it.entry 11
      rw [base, added, ends, State.lotBase, if_pos ⟨inProgress, start⟩] at lot
      rw [wound.lot, lot]
      exact ⟨rfl, rfl, rfl, rfl, rfl, rfl, rfl⟩
  case behind =>
    intro s l q rest it items wf queue reach list entry closing small last
    obtain ⟨t, step, wound⟩ := exec_tokenExpiry_drains wf queue reach closing small last
    have loss := State.lossCounted_leaves wf l rest q.token.entry
    generalize s.lossCounted l rest q.token.entry = u at *
    have list' : (u.lane l).openList = it :: items := by rw [loss.lane]; exact list
    rw [State.drain_behind list' entry] at wound
    refine ⟨t, step, (wound.status _).trans (State.entryStatus_setEntryStatus_same loss.wf _ _), ?_, wound.openList.trans list', ?_⟩
    · rw [wound.valid]
      unfold State.entryValid State.setEntryStatus
      rw [State.entryWord_setEntryWord_same loss.wf, getLsbD_withStatus, if_neg (by decide)]
      exact loss.flag q.token.entry 8
    · refine wound.lot.trans ?_
      show (u.lane l).lot = _
      rw [loss.lane]
  case cascade =>
    intro s l q rest it waiting items wf queue reach list nodup entry closing small last drained stops running done holds
    rw [← entry] at closing small last
    obtain ⟨t, step, wound⟩ := exec_tokenExpiry_drains wf queue reach closing small last
    have loss := State.lossCounted_leaves wf l rest q.token.entry
    rw [entry] at wound loss
    generalize s.lossCounted l rest it.entry = u at *
    have list' : (u.lane l).openList = it :: (waiting ++ items) := by rw [loss.lane]; exact list
    have nodup' : ((it :: (waiting ++ items)).map OpenItem.entry).Nodup := by rw [← list]; exact nodup
    obtain ⟨fresh, later⟩ := List.nodup_cons.mp nodup'
    have other (x : OpenItem) (listed : x ∈ waiting ++ items) : x.entry ≠ it.entry := fun same =>
      fresh (same ▸ List.mem_map_of_mem listed)
    have first := State.completed loss.wf l it
    have kept (x : OpenItem) (listed : x ∈ waiting ++ items) : (u.completeHead l it).entryStatus x.entry = s.entryStatus x.entry :=
      (State.entryStatus_completeHead_other loss.wf (other x listed)).trans (loss.status x.entry)
    have cascades : u.drain l it.entry = u.completeAll l done :=
      (State.drain_head list').trans (State.cascade_eq (by simp) (first.inside.wf loss.wf) (by rw [first.openList, list']; rfl) later
        (fun x listed => by rw [kept x (List.mem_append_left _ listed)]; exact drained x listed)
        fun x head => by rw [kept x (List.mem_append_right _ (List.mem_of_head? head))]; exact stops x head)
    have doneNodup : (done.map OpenItem.entry).Nodup := by
      have split : (it :: (waiting ++ items)).map OpenItem.entry = done.map OpenItem.entry ++ items.map OpenItem.entry := by simp [done]
      rw [split] at nodup'
      exact (List.nodup_append.mp nodup').1
    have all : CompletedAll l done items u (u.completeAll l done) := State.completedAll loss.wf list' doneNodup
    rw [cascades] at wound
    have count : u.holds done = holds :=
      congrArg List.length (List.filter_congr fun x _ => loss.flag x.entry 12)
    have running' : (u.lane l).mode = .running := by rw [loss.lane]; exact running
    obtain ⟨mode, pends⟩ := all.runs running'
    rw [count] at mode pends
    have apart (x : OpenItem) (listed : x ∈ items) : ∀ y ∈ done, x.entry ≠ y.entry := by
      have split : (it :: (waiting ++ items)).map OpenItem.entry = done.map OpenItem.entry ++ items.map OpenItem.entry := by simp [done]
      rw [split] at nodup'
      intro y mem same
      exact (List.nodup_append.mp nodup').2.2 _ (List.mem_map_of_mem mem) _ (List.mem_map_of_mem listed) same.symm
    refine ⟨t, step, wound.openList.trans all.openList, fun x listed => ?complete, fun x listed => ?later, ?mode, ?pends,
      fun inProgress flags => ?lot⟩
    case complete =>
      obtain ⟨status, valid⟩ := all.complete x listed
      exact ⟨(wound.status _).trans status, (wound.valid _).trans valid⟩
    case later =>
      rw [wound.status, State.entryStatus_of_word (all.word x.entry (apart x listed)), loss.status]
    case mode =>
      rw [wound.mode, mode]
      rw [mode]
      split <;> decide
    case pends =>
      rw [wound.waitPending, pends, loss.lane]
    case lot =>
      obtain ⟨stays, entries, final⟩ := all.lot (by rw [loss.lane]; exact inProgress) fun x listed =>
        ⟨(loss.flag x.entry 10).trans (flags x listed).1, (loss.flag x.entry 11).trans (flags x listed).2⟩
      rw [loss.lane] at entries
      rw [wound.lot]
      refine ⟨stays, entries, fun x tail => ?_⟩
      rw [final, tail]
      rfl
  case reports =>
    intro s l q rest it wf queue reach list entry closing small last silent room none e lot cut base added
    rw [← entry] at closing small last
    obtain ⟨t, step, wound⟩ := exec_tokenExpiry_drains wf queue reach closing small last
    have loss := State.lossCounted_leaves wf l rest q.token.entry
    rw [entry] at wound loss
    generalize s.lossCounted l rest it.entry = u at *
    have list' : (u.lane l).openList = [it] := by rw [loss.lane]; exact list
    rw [State.drain_only list'] at wound
    have same {k : Nat} (hk : k < 12) (other : k ≠ 10) : u.entryWord it.entry k = s.entryWord it.entry k :=
      loss.word it.entry k hk (Or.inr other)
    have customer : u.entryCustomer it.entry = s.entryCustomer it.entry := same (by decide) (by decide)
    have article : u.entryArticle it.entry = s.entryArticle it.entry := congrArg BitVec.toNat (same (k := 1) (by decide) (by decide))
    obtain ⟨closed, reported⟩ := State.completeHead_lot (s := u) (l := l) (it := it) loss.wf ((loss.flag it.entry 13).trans silent)
      (by rw [loss.ring]; exact room) (by rw [customer, article]; exact State.noPlaceFor_congr loss.places none)
    obtain ⟨base', added'⟩ := loss.lot
    have ends : u.entryLotEnd it.entry = s.entryLotEnd it.entry := loss.flag it.entry 11
    have start : u.entryLotStart it.entry = s.entryLotStart it.entry := loss.flag it.entry 10
    have telegram (b : List Byte) : u.ownTelegram .lot 0x00#8 b = s.ownTelegram .lot 0x00#8 b := by
      unfold State.ownTelegram
      rw [loss.ring]
    obtain ⟨more, grows⟩ := wound.queue
    rw [base', added', ends] at closed reported
    rw [start, telegram, telegram, loss.lane, loss.ring] at reported
    have sum : ({ s.lotWith (s.lotBase l e) e with lost := (s.lotBase l e).lost + (s.entryWord e 10 + 1) } : Lot) = added := by
      have split : added = { (s.lotBase l e) with
          lastEntry := e, entries := (s.lotBase l e).entries + 1, delivered := (s.lotBase l e).delivered + s.entryWord e 7
          rejected := (s.lotBase l e).rejected + s.entryWord e 8, overflowed := (s.lotBase l e).overflowed + s.entryWord e 9
          lost := (s.lotBase l e).lost + (s.entryWord e 10 + 1), stacksClosed := (s.lotBase l e).stacksClosed + s.entryWord e 11 } := by
        by_cases kept : (s.lane l).lot.inProgress = true ∧ s.entryLotStart e = false
        · have same : base = s.lotBase l e := (if_pos kept).trans (if_pos kept).symm
          rw [← same]
        · have fresh : base = _ := if_neg kept
          have opened : s.lotBase l e = _ := if_neg kept
          simp only [added, fresh, opened]
          rfl
      rw [split]
      rfl
    rw [sum] at closed reported
    refine ⟨t, more, step, wound.lot.trans closed, ?_⟩
    have cuts : (s.entryLotStart it.entry = true ∧ (s.lane l).lot.inProgress = true) ↔ cut = true := by
      rw [and_comm, ← Bool.and_eq_true]
    rw [grows, reported, if_congr cuts rfl rfl]

end Sys2Proof.Machine
end


section
/-!
# One record spoiled (R79, R80, R96)

The courses of `spoil`, each as one change of the lane (`State.mark`), and what they leave of the lane (`Lane.Spoils`).
-/

namespace Sys2Proof.Machine

/-! ## The schedule of a lane and the records of one number, changed at once -/

section Mark

variable {s : State} {l : LaneId} {n : RecordNo}

/-- The lane with this schedule, and its record of this number changed. -/
def Lane.marked (L : Lane) (fl : FoldLane) (n : RecordNo) (f : PieceRecord → PieceRecord) : Lane :=
  { L with sched := fl, inFlight := L.inFlight.map fun x => if x.number = n then f x else x }

def State.mark (s : State) (l : LaneId) (fl : FoldLane) (n : RecordNo) (f : PieceRecord → PieceRecord) : State :=
  s.modLane l fun L => L.marked fl n f

theorem State.mark_lane (s : State) (l : LaneId) (fl : FoldLane) (n : RecordNo) (f : PieceRecord → PieceRecord) :
    (s.mark l fl n f).lane l = (s.lane l).marked fl n f := State.modLane_lane_same s l _

theorem State.modRecord_modSched (s : State) (l : LaneId) (n : RecordNo) (h : FoldLane → FoldLane) (f : PieceRecord → PieceRecord) :
    (s.modSched l h).modRecord l n f = s.mark l (h (s.lane l).sched) n f :=
  (State.modLane_modLane s l _ _).trans (State.modLane_congr rfl)

theorem State.modSched_mark (s : State) (l : LaneId) (n : RecordNo) (fl : FoldLane) (f : PieceRecord → PieceRecord) (h : FoldLane → FoldLane) :
    (s.mark l fl n f).modSched l h = s.mark l (h fl) n f := State.modLane_modLane s l _ _

theorem State.modRecord_mark (s : State) (l : LaneId) (n : RecordNo) (fl : FoldLane) {f : PieceRecord → PieceRecord}
    (g : PieceRecord → PieceRecord) (number : ∀ x, (f x).number = x.number) :
    (s.mark l fl n f).modRecord l n g = s.mark l fl n fun x => g (f x) := by
  refine (State.modLane_modLane s l _ _).trans (State.modLane_congr ?_)
  unfold Lane.marked
  dsimp only
  rw [List.map_map]
  refine congrArg (fun rs => ({ s.lane l with sched := fl, inFlight := rs } : Lane)) (List.map_congr_left fun x _ => ?_)
  by_cases same : x.number = n
  · simp [same, number]
  · simp [same]

theorem State.findRecord_mark {r : PieceRecord} (found : s.findRecord l n = some r) (fl : FoldLane) {f : PieceRecord → PieceRecord}
    (number : ∀ x, (f x).number = x.number) : (s.mark l fl n f).findRecord l n = some (f r) := by
  have marked : s.mark l fl n f = (s.modSched l fun _ => fl).modRecord l n f := (State.modRecord_modSched s l n (fun _ => fl) f).symm
  rw [marked, State.findRecord_modRecord _ l n n f number, State.findRecord_modSched, found]
  exact congrArg some (if_pos (State.findRecord_mem found).2)

end Mark

/-! ## The courses of a spoiled record -/

section Courses

variable {s : State} {l : LaneId} {n : RecordNo} {r : PieceRecord}

/-- The record REJECT SPOILED. -/
def PieceRecord.spoiled (r : PieceRecord) : PieceRecord := { r with verdict := some (.reject .spoiled) }

/-- The schedule without the fold windows of the record. -/
def State.swept (s : State) (l : LaneId) (n : RecordNo) : FoldLane := (s.lane l).sched.dropPiece n

theorem State.spoil_atExit (found : s.findRecord l n = some r) (atExit : r.phase = .atExit) :
    s.spoil l n =
      ((s.mark l (s.swept l n) n fun x => { x.spoiled with forceOverflow := true, destination := some .overflow }).modExit l fun x =>
        { x with route := .overflow }).leavePlace r := by
  obtain ⟨-, number⟩ := State.findRecord_mem found
  rw [State.spoil, found]
  dsimp only
  rw [if_pos atExit, State.rerouteAtExit, number, State.setVerdict, State.modRecord_modSched, State.modRecord_mark]
  · rfl
  · exact fun _ => rfl

/-- Away from the exit it is tried for its reject window. -/
theorem State.spoil_away (found : s.findRecord l n = some r) (away : r.phase ≠ .atExit) :
    s.spoil l n =
      (s.mark l (s.swept l n) n PieceRecord.spoiled).tryReject l n s.track.position (s.rejectWindow l r s.track.position) := by
  have found' : (s.mark l (s.swept l n) n PieceRecord.spoiled).findRecord l n = some r.spoiled := State.findRecord_mark found _ fun _ => rfl
  have marked : (s.modSched l fun fl => fl.dropPiece n).setVerdict l n (.reject .spoiled) = s.mark l (s.swept l n) n PieceRecord.spoiled :=
    State.modRecord_modSched s l n _ _
  rw [State.spoil, found]
  dsimp only
  rw [if_neg away, marked, State.giveReject, found']
  rfl

theorem State.spoil_late (found : s.findRecord l n = some r) (away : r.phase ≠ .atExit)
    (late : before (s.rejectWindow l r s.track.position).start (s.earliestStart s.track.position) = true) :
    s.spoil l n = s.mark l (s.swept l n) n fun x => { x.spoiled with forceOverflow := true } := by
  rw [State.spoil_away found away, State.tryReject]
  exact (if_pos late).trans (State.modRecord_mark s l n _ _ fun _ => rfl)

/-- A record gated: retired at once where its retire position is reached. -/
theorem State.gateRecord_mark (s : State) (l : LaneId) (n : RecordNo) (fl : FoldLane) (p : Pos) :
    (s.mark l fl n PieceRecord.spoiled).gateRecord l n p =
      if reached s.track.position p = true then (s.mark l fl n fun x => { x.spoiled with retirePosition := some p }).retire l n .rejected
      else s.mark l fl n fun x => { x.spoiled with retirePosition := some p } := by
  rw [State.gateRecord]
  dsimp only
  rw [State.modRecord_mark s l n fl (f := PieceRecord.spoiled) _ fun _ => rfl]
  rfl

theorem State.spoil_placed (found : s.findRecord l n = some r) (away : r.phase ≠ .atExit)
    (inTime : before (s.rejectWindow l r s.track.position).start (s.earliestStart s.track.position) = false)
    (apart : (s.swept l n).gatesOver (s.rejectWindow l r s.track.position) = []) (room : (s.swept l n).windows.length < 16) :
    s.spoil l n =
      (s.mark l ((s.swept l n).placeGate (s.rejectWindow l r s.track.position)) n PieceRecord.spoiled).gateRecord l n
        (s.rejectWindow l r s.track.position).stop := by
  have sched : ((s.mark l (s.swept l n) n PieceRecord.spoiled).lane l).sched = s.swept l n := congrArg Lane.sched (State.mark_lane s l _ n _)
  rw [State.spoil_away found away, State.tryReject]
  refine (if_neg (ne_true_of_eq_false inTime)).trans ?_
  rw [sched, apart]
  dsimp only
  rw [State.modSched_mark]
  exact if_pos room

theorem State.spoil_merged {first : Window} {more : List Window} (found : s.findRecord l n = some r) (away : r.phase ≠ .atExit)
    (inTime : before (s.rejectWindow l r s.track.position).start (s.earliestStart s.track.position) = false)
    (met : (s.swept l n).gatesOver (s.rejectWindow l r s.track.position) = first :: more) :
    s.spoil l n =
      (s.mark l ((s.swept l n).mergeGate s.track.position (s.rejectWindow l r s.track.position) first more) n
        PieceRecord.spoiled).gateRecord l n (s.rejectWindow l r s.track.position).stop := by
  have sched : ((s.mark l (s.swept l n) n PieceRecord.spoiled).lane l).sched = s.swept l n := congrArg Lane.sched (State.mark_lane s l _ n _)
  rw [State.spoil_away found away, State.tryReject]
  refine (if_neg (ne_true_of_eq_false inTime)).trans ?_
  rw [sched, met]
  dsimp only
  rw [State.modSched_mark]

end Courses

/-! ## The windows after a sweep -/

/-- The fold windows of the record gone and no other, what stays of the gate windows without a piece, and room. -/
structure Swept (n : RecordNo) (fl gl : FoldLane) : Prop where
  fires : ∀ w ∈ gl.windows, ∀ m, w.piece = some m → w ∈ fl.windows ∧ m ≠ n
  others : ∀ w ∈ fl.windows, ∀ m, w.piece = some m → m ≠ n → w ∈ gl.windows
  gates : ∀ w ∈ gl.windows, w.output = .gate → w.piece = none
  room : gl.windows.length ≤ 16

namespace Swept

variable {n : RecordNo} {fl gl : FoldLane}

theorem mem_dropPiece {w : Window} : w ∈ (fl.dropPiece n).windows ↔ w ∈ fl.windows ∧ w.piece ≠ some n := by
  show w ∈ fl.windows.filter (fun w => !w.folds n) ↔ _
  rw [List.mem_filter]
  exact and_congr_right fun _ => by simp [Window.folds]

theorem drop (gates : ∀ w ∈ fl.windows, w.output = .gate → w.piece = none) (room : fl.windows.length ≤ 16) : Swept n fl (fl.dropPiece n) where
  fires := fun w listed m piece => ⟨(mem_dropPiece.mp listed).1, fun same => (mem_dropPiece.mp listed).2 (by rw [piece, same])⟩
  others := fun w listed m piece other => mem_dropPiece.mpr ⟨listed, by rw [piece]; exact fun same => other (Option.some.inj same)⟩
  gates := fun w listed => gates w (mem_dropPiece.mp listed).1
  room := (List.length_filter_le ..).trans room

/-- A record with a fold window frees a slot. -/
theorem slot (room : fl.windows.length ≤ 16) {w : Window} (listed : w ∈ fl.windows) (piece : w.piece = some n) :
    (fl.dropPiece n).windows.length < 16 := by
  have shorter : (fl.dropPiece n).windows.length < fl.windows.length :=
    List.length_filter_lt_length_iff_exists.mpr ⟨w, listed, by simp [Window.folds, piece]⟩
  omega

theorem place (h : Swept n fl gl) {w : Window} (piece : w.piece = none) (slot : gl.windows.length < 16) : Swept n fl (gl.placeGate w) where
  fires := fun x listed m own => by
    rcases List.mem_append.mp listed with listed | last
    · exact h.fires x listed m own
    · rw [List.mem_singleton.mp last, piece] at own
      cases own
  others := fun x listed m own other => List.mem_append_left _ (h.others x listed m own other)
  gates := fun x listed gate => by
    rcases List.mem_append.mp listed with listed | last
    · exact h.gates x listed gate
    · rw [List.mem_singleton.mp last, piece]
  room := by
    show (gl.windows ++ [w]).length ≤ 16
    rw [List.length_append]
    exact slot

theorem merge (h : Swept n fl gl) {w first : Window} {more : List Window} (met : gl.gatesOver w = first :: more) (now : Pos) :
    Swept n fl (gl.mergeGate now w first more) := by
  obtain ⟨target, gate, -⟩ := FoldLane.earliest_gatesOver met
  obtain ⟨m, left, made, absorbed⟩ := FoldLane.mergeGate_absorbed gl now w first more
  have shorter := FoldLane.mergeGate_length met now
  have none : m.piece = none := absorbed.piece.trans (h.gates (earliestOf first more) target gate)
  have sub (x : Window) (listed : x ∈ left) : x ∈ gl.windows := List.mem_of_mem_erase (absorbed.sublist.subset listed)
  rw [made] at shorter ⊢
  refine {
    fires := fun x listed k own => ?fires
    others := fun x listed k own other => ?others
    gates := fun x listed isGate => ?gates
    room := shorter.trans h.room }
  case fires =>
    rcases List.mem_append.mp listed with listed | last
    · exact h.fires x (sub x listed) k own
    · rw [List.mem_singleton.mp last, none] at own
      cases own
  case others =>
    have kept := h.others x listed k own other
    have fold : x.output ≠ .gate := fun isGate => by
      rw [h.gates x kept isGate] at own
      cases own
    have stays : x ∈ gl.windows.erase (earliestOf first more) := (List.mem_erase_of_ne fun same => fold (by rw [same]; exact gate)).mpr kept
    exact List.mem_append_left _ ((absorbed.kept x stays).resolve_right fun merged => fold merged.1)
  case gates =>
    rcases List.mem_append.mp listed with listed | last
    · exact h.gates x (sub x listed) isGate
    · rw [List.mem_singleton.mp last, none]

/-- The record's windows gone twice are gone. -/
theorem again (h : Swept n fl gl) : Swept n fl (gl.dropPiece n) where
  fires := fun w listed => h.fires w (mem_dropPiece.mp listed).1
  others := fun w listed m piece other =>
    mem_dropPiece.mpr ⟨h.others w listed m piece other, by rw [piece]; exact fun same => other (Option.some.inj same)⟩
  gates := fun w listed => h.gates w (mem_dropPiece.mp listed).1
  room := (List.length_filter_le ..).trans h.room

end Swept

end Sys2Proof.Machine
end


section
/-!
# The stop notice (R79, R80, R96)

Each record that an OPEN window folds is spoiled, one after another; `SpoiledSo` says how a lane stands when those of a list are.
-/

namespace Sys2Proof.Machine

/-! ## The lane after one record is spoiled -/

/-- What becomes of a spoiled record that does not retire at once. -/
structure PieceRecord.Spoiled (r x : PieceRecord) : Prop where
  tokens : x.tokens = r.tokens
  verdict : x.verdict = some (.reject .spoiled)
  settled : x.forceOverflow = true ∨ x.retirePosition.isSome = true
  atExit : r.phase = .atExit → x.forceOverflow = true ∧ x.destination = some .overflow

/-- The record `r` of number `n` spoiled on the lane `L`: `M` is the lane after. -/
structure Lane.Spoils (n : RecordNo) (r : PieceRecord) (L M : Lane) : Prop where
  faulted : M.mode = .faulted ↔ L.mode = .faulted
  code : M.faultCode = L.faultCode
  swept : Swept n L.sched M.sched
  route : M.exit.route = .overflow ∨ M.exit.route = L.exit.route
  inFlight : ∃ f : PieceRecord → PieceRecord, (∀ x, (f x).number = x.number) ∧
    (M.inFlight = (L.inFlight.map fun x => if x.number = n then f x else x).eraseP (fun x => decide (x.number = n)) ∨
      r.Spoiled (f r) ∧ (r.phase = .atExit → M.exit.route = .overflow) ∧ M.inFlight = L.inFlight.map fun x => if x.number = n then f x else x)

namespace Lane.Spoils

variable {n : RecordNo} {r : PieceRecord} {L B M : Lane}

theorem books (h : L.Spoils n r B) (booked : B.Books M) : L.Spoils n r M := by
  have inFlight : M.inFlight = B.inFlight := booked.inFlight
  have sched : M.sched = B.sched := (congrArg Lane.sched booked.same).trans rfl
  have exit : M.exit = B.exit := (congrArg Lane.exit booked.same).trans rfl
  have code : M.faultCode = B.faultCode := (congrArg Lane.faultCode booked.same).trans rfl
  exact {
    faulted := (booked.mode_iff (Or.inl rfl)).trans h.faulted
    code := code.trans h.code
    swept := by rw [sched]; exact h.swept
    route := by rw [exit]; exact h.route
    inFlight := by rw [inFlight, exit]; exact h.inFlight }

theorem ofMarked {fl : FoldLane} (swept : Swept n L.sched fl) (away : r.phase ≠ .atExit) (f : PieceRecord → PieceRecord)
    (number : ∀ x, (f x).number = x.number) (spoiled : r.Spoiled (f r)) : L.Spoils n r (L.marked fl n f) where
  faulted := Iff.rfl
  code := rfl
  swept := swept
  route := Or.inr rfl
  inFlight := ⟨f, number, Or.inr ⟨spoiled, fun atExit => absurd atExit away, rfl⟩⟩

theorem ofFreed {fl : FoldLane} (swept : Swept n L.sched fl) (f : PieceRecord → PieceRecord) (number : ∀ x, (f x).number = x.number) :
    L.Spoils n r ((L.marked fl n f).freed n) where
  faulted := Iff.rfl
  code := rfl
  swept := swept.again
  route := Or.inr rfl
  inFlight := ⟨f, number, Or.inl rfl⟩

end Lane.Spoils

section Spoil

variable {s : State} {l : LaneId} {n : RecordNo} {r : PieceRecord}

theorem PieceRecord.Spoiled.gated (away : r.phase ≠ .atExit) (p : Pos) : r.Spoiled { r.spoiled with retirePosition := some p } :=
  ⟨rfl, rfl, Or.inr rfl, fun atExit => absurd atExit away⟩

theorem State.gateRecord_spoils (found : s.findRecord l n = some r) (away : r.phase ≠ .atExit) {fl : FoldLane}
    (swept : Swept n (s.lane l).sched fl) (p : Pos) :
    (s.lane l).Spoils n r (((s.mark l fl n PieceRecord.spoiled).gateRecord l n p).lane l) := by
  rw [State.gateRecord_mark]
  split
  · have found' : (s.mark l fl n fun x => { x.spoiled with retirePosition := some p }).findRecord l n =
        some { r.spoiled with retirePosition := some p } := State.findRecord_mark found fl fun _ => rfl
    obtain ⟨books, -⟩ := State.retire_leaves found' .rejected
    have number : r.number = n := (State.findRecord_mem found).2
    have freed : { r.spoiled with retirePosition := some p }.number = n := number
    rw [State.mark_lane, freed] at books
    exact (Lane.Spoils.ofFreed swept (fun x => { x.spoiled with retirePosition := some p }) fun _ => rfl).books books
  · rw [State.mark_lane]
    exact .ofMarked swept away _ (fun _ => rfl) (.gated away p)

/-- A record under a fold window spoiled. -/
theorem State.spoil_spoils (found : s.findRecord l n = some r) (gates : ∀ w ∈ (s.lane l).sched.windows, w.output = .gate → w.piece = none)
    (room : (s.lane l).sched.windows.length ≤ 16) {w : Window} (listed : w ∈ (s.lane l).sched.windows) (piece : w.piece = some n) :
    (s.lane l).Spoils n r ((s.spoil l n).lane l) := by
  have swept : Swept n (s.lane l).sched (s.swept l n) := .drop gates room
  by_cases atExit : r.phase = .atExit
  · rw [State.spoil_atExit found atExit]
    refine Lane.Spoils.books ?_ ((BooksAll.leavePlace _ r).lanes l)
    rw [State.modExit, State.modLane_lane_same, State.mark_lane]
    exact {
      faulted := Iff.rfl
      code := rfl
      swept := swept
      route := Or.inl rfl
      inFlight := ⟨fun x => { x.spoiled with forceOverflow := true, destination := some .overflow }, fun _ => rfl,
        Or.inr ⟨⟨rfl, rfl, Or.inl rfl, fun _ => ⟨rfl, rfl⟩⟩, fun _ => rfl, rfl⟩⟩ }
  · cases late : before (s.rejectWindow l r s.track.position).start (s.earliestStart s.track.position) with
    | true =>
      rw [State.spoil_late found atExit late, State.mark_lane]
      exact .ofMarked swept atExit _ (fun _ => rfl) ⟨rfl, rfl, Or.inl rfl, fun leaves => absurd leaves atExit⟩
    | false =>
      cases met : (s.swept l n).gatesOver (s.rejectWindow l r s.track.position) with
      | nil =>
        have slot := Swept.slot room listed piece
        rw [State.spoil_placed found atExit late met slot]
        exact State.gateRecord_spoils found atExit (swept.place rfl slot) _
      | cons first more =>
        rw [State.spoil_merged found atExit late met]
        exact State.gateRecord_spoils found atExit (swept.merge met _) _

end Spoil

/-! ## The lane while its records are spoiled one after another -/

/-- The records `done` of the lane `L` are spoiled and no other: `M` is the lane after. -/
structure SpoiledSo (done : List RecordNo) (L M : Lane) : Prop where
  faulted : M.mode = .faulted ↔ L.mode = .faulted
  code : M.faultCode = L.faultCode
  numbers : M.numbers.Sublist L.numbers
  fires : ∀ w ∈ M.sched.windows, ∀ n, w.piece = some n → w ∈ L.sched.windows ∧ n ∉ done
  gates : ∀ w ∈ M.sched.windows, w.output = .gate → w.piece = none
  room : M.sched.windows.length ≤ 16
  others : ∀ r ∈ L.inFlight, r.number ∉ done →
    r ∈ M.inFlight ∧ ∀ w ∈ L.sched.windows, w.piece = some r.number → w ∈ M.sched.windows
  spoiled : ∀ r ∈ L.inFlight, r.number ∈ done → r.number ∉ M.numbers ∨
    ∃ x ∈ M.inFlight, x.number = r.number ∧ r.Spoiled x ∧ (r.phase = .atExit → M.exit.route = .overflow)

namespace SpoiledSo

variable {done : List RecordNo} {n : RecordNo} {r : PieceRecord} {L M N : Lane}

theorem start (gates : ∀ w ∈ L.sched.windows, w.output = .gate → w.piece = none) (room : L.sched.windows.length ≤ 16) : SpoiledSo [] L L where
  faulted := Iff.rfl
  code := rfl
  numbers := List.Sublist.refl _
  fires := fun _ listed _ _ => ⟨listed, List.not_mem_nil⟩
  gates := gates
  room := room
  others := fun _ listed _ => ⟨listed, fun _ scheduled _ => scheduled⟩
  spoiled := fun _ _ listed => absurd listed List.not_mem_nil

theorem spared (h : SpoiledSo done L M) (k : M.Spared N) : SpoiledSo done L N := by
  rw [k.same]
  exact ⟨h.faulted, h.code, h.numbers, h.fires, h.gates, h.room, h.others, h.spoiled⟩

theorem mem_numbers {x : PieceRecord} (listed : x ∈ M.inFlight) : x.number ∈ M.numbers := List.mem_map_of_mem listed

/-- A record of another number stays on the lane, as it was. -/
theorem mem_of_spoils (k : M.Spoils n r N) {x : PieceRecord} (other : x.number ≠ n) (listed : x ∈ M.inFlight) : x ∈ N.inFlight := by
  obtain ⟨f, number, course⟩ := k.inFlight
  have mapped : x ∈ M.inFlight.map fun x => if x.number = n then f x else x := List.mem_map.mpr ⟨x, listed, if_neg other⟩
  rcases course with erased | ⟨-, -, kept⟩
  · rw [erased]
    exact (List.mem_eraseP_of_neg (by simpa using other)).mpr mapped
  · rw [kept]
    exact mapped

theorem numbers_map (f : PieceRecord → PieceRecord) (number : ∀ x, (f x).number = x.number) (rs : List PieceRecord) :
    (rs.map fun x => if x.number = n then f x else x).map PieceRecord.number = rs.map PieceRecord.number := by
  rw [List.map_map]
  refine List.map_congr_left fun x _ => ?_
  by_cases same : x.number = n <;> simp [same, number]

/-- A number held once is gone with its record. -/
theorem number_not_mem_eraseP {rs : List PieceRecord} (once : (rs.map PieceRecord.number).Nodup) :
    n ∉ (rs.eraseP fun x => decide (x.number = n)).map PieceRecord.number := by
  induction rs with
  | nil => exact List.not_mem_nil
  | cons z rs ih =>
    obtain ⟨fresh, once⟩ := List.nodup_cons.mp once
    by_cases head : z.number = n
    · rw [List.eraseP_cons_of_pos (by simpa using head), ← head]
      exact fresh
    · rw [List.eraseP_cons_of_neg (by simpa using head), List.map_cons, List.mem_cons, not_or]
      exact ⟨fun same => head same.symm, ih once⟩

theorem numbers_of_spoils (k : M.Spoils n r N) : N.numbers.Sublist M.numbers := by
  obtain ⟨f, number, course⟩ := k.inFlight
  unfold Lane.numbers
  rw [← numbers_map (n := n) f number M.inFlight]
  rcases course with erased | ⟨-, -, kept⟩
  · rw [erased]
    exact List.eraseP_sublist.map _
  · rw [kept]

/-- One more record spoiled. -/
theorem step (h : SpoiledSo done L M) (nodup : L.numbers.Nodup) (listed : r ∈ L.inFlight) (fresh : r.number ∉ done)
    (k : M.Spoils r.number r N) : SpoiledSo (done ++ [r.number]) L N := by
  have fewer := numbers_of_spoils k
  refine {
    faulted := k.faulted.trans h.faulted
    code := k.code.trans h.code
    numbers := fewer.trans h.numbers
    fires := fun w scheduled m piece => ?fires
    gates := k.swept.gates
    room := k.swept.room
    others := fun x onLane rests => ?others
    spoiled := fun x onLane chosen => ?spoiled }
  case fires =>
    obtain ⟨before, other⟩ := k.swept.fires w scheduled m piece
    obtain ⟨first, rests⟩ := h.fires w before m piece
    exact ⟨first, fun chosen => (List.mem_append.mp chosen).elim rests fun last => other (List.mem_singleton.mp last)⟩
  case others =>
    have other : x.number ≠ r.number := fun same => rests (List.mem_append_right _ (List.mem_singleton.mpr same))
    obtain ⟨stays, windows⟩ := h.others x onLane fun chosen => rests (List.mem_append_left _ chosen)
    exact ⟨mem_of_spoils k other stays, fun w scheduled piece => k.swept.others w (windows w scheduled piece) _ piece other⟩
  case spoiled =>
    rcases List.mem_append.mp chosen with earlier | last
    · have other : x.number ≠ r.number := fun same => fresh (same ▸ earlier)
      rcases h.spoiled x onLane earlier with gone | ⟨y, stays, number, spoiled, route⟩
      · exact Or.inl fun back => gone (fewer.subset back)
      · refine Or.inr ⟨y, mem_of_spoils k (number ▸ other) stays, number, spoiled, fun atExit => ?_⟩
        rcases k.route with overflow | same
        · exact overflow
        · rw [same]
          exact route atExit
    · obtain rfl : x = r := List.inj_on_of_nodup_map nodup onLane listed (List.mem_singleton.mp last)
      obtain ⟨f, number, course⟩ := k.inFlight
      have present := (h.others x listed fresh).1
      rcases course with erased | ⟨spoiled, route, kept⟩
      · refine Or.inl ?_
        rw [Lane.numbers, erased]
        refine number_not_mem_eraseP ?_
        rw [numbers_map f number]
        exact h.numbers.nodup nodup
      · refine Or.inr ⟨f x, ?_, number x, spoiled, route⟩
        rw [kept]
        exact List.mem_map.mpr ⟨x, present, if_pos rfl⟩

end SpoiledSo

end Sys2Proof.Machine
end


section
/-!
# The whole stop notice (R79, R80)
-/

namespace Sys2Proof.Machine

/-! ## Every lane and every record -/

section StopNotice

variable {s : State} {l : LaneId}

theorem State.mem_toSpoil {n : RecordNo} : n ∈ s.toSpoil l ↔
    ∃ r ∈ (s.lane l).inFlight, r.number = n ∧ ∃ w ∈ (s.lane l).sched.windows, w.state = .opened ∧ w.piece = some n := by
  unfold State.toSpoil
  rw [List.mem_map]
  refine exists_congr fun r => ?_
  rw [List.mem_filter, List.any_eq_true, and_assoc]
  refine and_congr_right fun _ => ⟨?_, ?_⟩
  · rintro ⟨⟨w, listed, drives⟩, rfl⟩
    obtain ⟨opened, piece⟩ := Bool.and_eq_true _ _ ▸ drives
    exact ⟨rfl, w, listed, of_decide_eq_true opened, of_decide_eq_true piece⟩
  · rintro ⟨rfl, w, listed, opened, piece⟩
    exact ⟨⟨w, listed, by rw [Window.isOpen, Window.folds, decide_eq_true opened, decide_eq_true piece]; rfl⟩, rfl⟩

theorem State.toSpoil_nodup (nodup : (s.lane l).numbers.Nodup) : (s.toSpoil l).Nodup := nodup.sublist (List.filter_sublist.map _)

theorem State.findRecord_of_nodup {r : PieceRecord} (nodup : (s.lane l).numbers.Nodup) (listed : r ∈ (s.lane l).inFlight) :
    s.findRecord l r.number = some r := by
  cases found : s.findRecord l r.number with
  | none => exact absurd (List.find?_eq_none.mp found r listed) (by simp)
  | some x =>
    obtain ⟨present, same⟩ := State.findRecord_mem found
    rw [List.inj_on_of_nodup_map nodup present listed same]

/-- The records of a list spoiled one after another. -/
def State.spoilAll (s : State) (l : LaneId) (ns : List RecordNo) : State := ns.foldl (fun t n => t.spoil l n) s

theorem SpoiledSo.spoilAll {L : Lane} (nodup : L.numbers.Nodup) {ns done : List RecordNo} {t : State} (h : SpoiledSo done L (t.lane l))
    (once : (done ++ ns).Nodup)
    (folded : ∀ n ∈ ns, ∃ r ∈ L.inFlight, r.number = n ∧ ∃ w ∈ L.sched.windows, w.state = .opened ∧ w.piece = some n) :
    SpoiledSo (done ++ ns) L ((t.spoilAll l ns).lane l) := by
  induction ns generalizing done t with
  | nil => rw [List.append_nil]; exact h
  | cons n ns ih =>
    obtain ⟨r, listed, rfl, w, scheduled, -, piece⟩ := folded n List.mem_cons_self
    have fresh : r.number ∉ done := fun earlier => (List.nodup_append.mp once).2.2 _ earlier _ List.mem_cons_self rfl
    obtain ⟨stays, windows⟩ := h.others r listed fresh
    have found := State.findRecord_of_nodup (h.numbers.nodup nodup) stays
    have spoils := State.spoil_spoils found h.gates h.room (windows w scheduled piece) piece
    have split : done ++ r.number :: ns = (done ++ [r.number]) ++ ns := (List.append_assoc done [r.number] ns).symm
    rw [split] at once ⊢
    exact ih (h.step nodup listed fresh spoils) once fun n mem => folded n (List.mem_cons_of_mem _ mem)

/-- What is spoiled on other lanes spares this one. -/
theorem SpoiledSo.elsewhere {L : Lane} {done : List RecordNo} {ls : List LaneId} {t : State} (h : SpoiledSo done L (t.lane l)) (other : l ∉ ls)
    (chosen : LaneId → List RecordNo) : SpoiledSo done L ((ls.foldl (fun t k => t.spoilAll k (chosen k)) t).lane l) := by
  induction ls generalizing t with
  | nil => exact h
  | cons k ls ih =>
    have apart : l ≠ k := fun same => other (same ▸ List.mem_cons_self)
    have inside : Inside k t (t.spoilAll k (chosen k)) := Inside.foldl (fun v n => Inside.spoil k v n) (chosen k) t
    exact ih (h.spared (inside.others l apart)) fun mem => other (List.mem_cons_of_mem _ mem)

theorem State.stopNotice_eq (s : State) :
    s.stopNotice = s.spoilOrder.foldl (fun t k => t.spoilAll k (s.toSpoil k)) { s with freeCount := s.freeCount + 1 } := rfl

theorem State.mem_spoilOrder : l ∈ s.spoilOrder ↔ s.toSpoil l ≠ [] := by
  rw [s.spoilOrder_perm.mem_iff, List.mem_filter]
  simp [mem_allLanes]

theorem State.spoilOrder_nodup (s : State) : s.spoilOrder.Nodup :=
  s.spoilOrder_perm.nodup_iff.mpr (List.Nodup.filter _ (by decide))

/-- A lane after the stop notice. -/
theorem State.stopNotice_spoiled (nodup : (s.lane l).numbers.Nodup)
    (gates : ∀ w ∈ (s.lane l).sched.windows, w.output = .gate → w.piece = none) (room : (s.lane l).sched.windows.length ≤ 16) :
    SpoiledSo (s.toSpoil l) (s.lane l) (s.stopNotice.lane l) := by
  have start : SpoiledSo [] (s.lane l) (({ s with freeCount := s.freeCount + 1 } : State).lane l) := SpoiledSo.start gates room
  rw [State.stopNotice_eq]
  by_cases listed : l ∈ s.spoilOrder
  · obtain ⟨front, back, split⟩ := List.append_of_mem listed
    have once := s.spoilOrder_nodup
    rw [split] at once ⊢
    have apart : l ∉ front ++ back := (List.nodup_middle.mp once |> List.nodup_cons.mp).1
    rw [List.foldl_append, List.foldl_cons]
    have before := start.elsewhere (fun mem => apart (List.mem_append_left _ mem)) s.toSpoil
    have own := before.spoilAll nodup (ns := s.toSpoil l) (by rw [List.nil_append]; exact State.toSpoil_nodup nodup) fun n mem =>
      State.mem_toSpoil.mp mem
    exact own.elsewhere (fun mem => apart (List.mem_append_right _ mem)) s.toSpoil
  · have none : s.toSpoil l = [] := by
      by_contra some
      exact listed (State.mem_spoilOrder.mpr some)
    rw [none]
    exact start.elsewhere listed s.toSpoil

/-! ## One record -/

theorem State.spoilOrder_single (chosen : s.toSpoil l ≠ []) (others : ∀ m, m ≠ l → s.toSpoil m = []) : s.spoilOrder = [l] := by
  refine List.perm_singleton.mp ((List.perm_ext_iff_of_nodup s.spoilOrder_nodup (List.nodup_singleton l)).mpr fun m => ?_)
  rw [State.mem_spoilOrder, List.mem_singleton]
  exact ⟨fun some => by_contra fun other => some (others m other), fun same => same ▸ chosen⟩

theorem State.stopNotice_single {n : RecordNo} (one : s.toSpoil l = [n]) (others : ∀ m, m ≠ l → s.toSpoil m = []) :
    s.stopNotice = ({ s with freeCount := s.freeCount + 1 } : State).spoil l n := by
  rw [State.stopNotice_eq, State.spoilOrder_single (by rw [one]; exact List.cons_ne_nil _ _) others, List.foldl_cons, List.foldl_nil, one]
  rfl

end StopNotice

/-- Settles O10: every move keeps the outputs driven; a lane after a stop notice, and the whole of one with a single record. -/
theorem outputsDrivenKept : Obligations.OutputsDrivenKept := by
  refine ⟨kept_of_moves fun _ _ move => outputsDriven_move move, ?every, ?single⟩
  case every =>
    intro s l whole driven bounded u
    have nodup := whole.numbers_nodup l
    obtain ⟨-, -, gates⟩ := driven l
    obtain ⟨-, room, -⟩ := bounded l
    have spoiled : SpoiledSo (s.toSpoil l) (s.lane l) (u.lane l) := State.stopNotice_spoiled nodup gates room
    refine ⟨spoiled.faulted, spoiled.code, fun w listed opened n piece onLane => ?_, fun r listed folded => ?_⟩
    · obtain ⟨scheduled, rests⟩ := spoiled.fires w listed n piece
      obtain ⟨r, mem, number⟩ := List.mem_map.mp (spoiled.numbers.subset onLane)
      exact rests (State.mem_toSpoil.mpr ⟨r, mem, number, w, scheduled, opened, piece⟩)
    · have chosen : r.number ∈ s.toSpoil l := State.mem_toSpoil.mpr ⟨r, listed, rfl, folded⟩
      refine (spoiled.spoiled r listed chosen).imp_right fun ⟨x, stays, number, was, route⟩ => ?_
      refine ⟨x, stays, number, was.tokens, was.verdict, was.settled, fun w scheduled piece => (spoiled.fires w scheduled _ piece).2 chosen,
        fun atExit => ?_⟩
      obtain ⟨force, destination⟩ := was.atExit atExit
      exact ⟨force, destination, route atExit⟩
  case single =>
    intro s l r whole listed one others fl left folds changed
    have found : ({ s with freeCount := s.freeCount + 1 } : State).findRecord l r.number = some r := whole.findRecord listed
    have swept : State.swept { s with freeCount := s.freeCount + 1 } l r.number = { fl with windows := left, folds := folds } := by
      show fl.dropPiece r.number = _
      unfold FoldLane.dropPiece
      have keeps : (fl.windows.filter fun w => !w.folds r.number) = left :=
        List.filter_congr fun w _ => by simp [Window.folds]
      rw [keeps]
      rfl
    have notice := State.stopNotice_single one others
    refine ⟨fun atExit => ?_, fun away => ?_⟩
    · intro rerouted
      rw [notice, State.spoil_atExit found atExit, swept, State.leavePlace, atExit]
      cases r.destination with
      | none => rfl
      | some d => cases d <;> rfl
    · intro start stop opened w
      refine ⟨fun late => ?_, fun inTime apart room ahead => ?_⟩
      · rw [notice, State.spoil_late found away late, swept]
        rfl
      · have idle : (State.swept { s with freeCount := s.freeCount + 1 } l r.number).gatesOver
            (State.rejectWindow { s with freeCount := s.freeCount + 1 } l r s.track.position) = [] := by
          rw [swept]
          exact FoldLane.gatesOver_nil fun g listed met => by
            have clear := apart g listed met.1
            have meets : w.overlaps g = true := met.2
            rw [clear] at meets
            cases meets
        have opens : w.isOpen = opened := by
          show decide ((if opened = true then WindowState.opened else .waiting) = .opened) = _
          cases opened <;> rfl
        rw [notice, State.spoil_placed found away inTime idle (by rw [swept]; exact room), State.gateRecord_mark, swept]
        refine (if_neg (ne_true_of_eq_false ahead)).trans ?_
        have placed : FoldLane.placeGate { fl with windows := left, folds := folds } w =
            { fl with windows := left ++ [w], folds := folds, gate := fl.gate || opened } := by
          rw [FoldLane.placeGate, opens]
        exact (congrArg (fun gl => State.mark { s with freeCount := s.freeCount + 1 } l gl r.number fun x =>
          { x.spoiled with retirePosition := some stop }) placed).trans rfl

end Sys2Proof.Machine
end


section
/-!
# The law of the lot ring, with tokens in hand (R127, R130, R131)

Between the moment that a token leaves a lane's queue or a record and its booking, it is in hand. `State.Balances` is the law with the entries
of such tokens counted in; a booking takes one of them (`State.Balances.book`).
-/

namespace Sys2Proof.Machine

/-! ## The entries of the tokens that a lane holds -/

/-- The entries of the lane's tokens, queued and on records. -/
def Lane.tokenEntries (L : Lane) : List EntryId :=
  L.tokens.map (fun q => q.token.entry) ++ (L.inFlight.flatMap PieceRecord.tokens).map Token.entry

theorem Lane.outstanding_eq (L : Lane) (e : EntryId) : L.outstanding e = L.tokenEntries.count e := by
  have count {α : Type} (f : α → EntryId) (xs : List α) : (xs.filter fun x => decide (f x = e)).length = (xs.map f).count e := by
    rw [List.count, List.countP_map, List.countP_eq_length_filter]
    exact congrArg List.length (List.filter_congr fun x _ => rfl)
  unfold Lane.outstanding Lane.tokenEntries
  rw [List.count_append, count, count]

/-! ## The law -/

/-- The law of the lot ring, where the tokens of the entries `es` of lane `l` are in hand. -/
structure State.Balances (s : State) (l : LaneId) (es : List EntryId) : Prop where
  nodup : ∀ m, (s.lane m).openEntries.Nodup
  apart : ∀ m n e, e ∈ (s.lane m).openEntries → e ∈ (s.lane n).openEntries → m = n
  listed : ∀ e, isClaimed (s.entryStatus e) = true → ∃ m, e ∈ (s.lane m).openEntries
  items : ∀ m, ∀ e ∈ (s.lane m).openEntries, s.itemCoherent m e
  held : ∀ m, ∀ e ∈ (s.lane m).tokenEntries, e ∈ (s.lane m).openEntries
  inHand : ∀ e ∈ es, e ∈ (s.lane l).openEntries
  balance : ∀ m, ∀ e ∈ (s.lane m).openEntries,
    s.entryAssigned e = s.entryRetired e + (s.lane m).tokenEntries.count e + if m = l then es.count e else 0

theorem State.lotRingBalances_iff {s : State} (l : LaneId) : s.lotRingBalances ↔ s.Balances l [] := by
  have once : (allLanes.flatMap fun l => (s.lane l).openEntries).Nodup ↔
      (∀ m, (s.lane m).openEntries.Nodup) ∧ ∀ m n e, e ∈ (s.lane m).openEntries → e ∈ (s.lane n).openEntries → m = n := by
    rw [List.nodup_flatMap]
    refine and_congr ⟨fun each m => each m (mem_allLanes m), fun each m _ => each m⟩ ⟨fun pairs m n e first second => ?_, fun apart => ?_⟩
    · by_contra other
      have symm : Std.Symm (Function.onFun List.Disjoint fun l => (s.lane l).openEntries) := ⟨fun _ _ disjoint => disjoint.symm⟩
      exact pairs.forall (mem_allLanes m) (mem_allLanes n) other first second
    · have distinct : allLanes.Nodup := by decide
      exact distinct.imp fun {m n} other e first second => other (apart m n e first second)
  have outstanding (m : LaneId) (e : EntryId) : (s.lane m).outstanding e ≠ 0 ↔ e ∈ (s.lane m).tokenEntries := by
    rw [Lane.outstanding_eq, ← Nat.pos_iff_ne_zero, List.count_pos_iff]
  constructor
  · rintro ⟨nodup, listed, items, held, balance⟩
    obtain ⟨each, apart⟩ := once.mp nodup
    refine ⟨each, apart, listed, items, fun m e out => held m e ((outstanding m e).mpr out), fun e none => absurd none List.not_mem_nil,
      fun m e mem => ?_⟩
    obtain ⟨it, present, rfl⟩ := List.mem_map.mp mem
    rw [balance m it present, Lane.outstanding_eq]
    simp
  · intro h
    refine ⟨once.mpr ⟨h.nodup, h.apart⟩, h.listed, h.items, fun m e out => h.held m e ((outstanding m e).mp out), fun m it present => ?_⟩
    rw [h.balance m it.entry (List.mem_map_of_mem present), Lane.outstanding_eq]
    simp

/-- The words of an entry but the stacks-closed count. -/
def WordsKept (s t : State) (e : EntryId) : Prop := ∀ k, k < 11 → t.entryWord e k = s.entryWord e k

section Words

variable {s t : State} {e : EntryId}

theorem WordsKept.status (h : WordsKept s t e) : t.entryStatus e = s.entryStatus e := State.entryStatus_of_word (h 0 (by decide))

theorem WordsKept.assigned (h : WordsKept s t e) : t.entryAssigned e = s.entryAssigned e := congrArg BitVec.toNat (h 6 (by decide))

theorem WordsKept.quota (h : WordsKept s t e) : t.entryQuota e = s.entryQuota e := congrArg BitVec.toNat (h 3 (by decide))

theorem WordsKept.retired (h : WordsKept s t e) : t.entryRetired e = s.entryRetired e := by
  unfold State.entryRetired
  rw [h 7 (by decide), h 8 (by decide), h 9 (by decide), h 10 (by decide)]

theorem WordsKept.item (h : WordsKept s t e) {l : LaneId} (item : s.itemCoherent l e) : t.itemCoherent l e := by
  unfold State.itemCoherent at item ⊢
  rw [h.status, h 5 (by decide), h.quota, h.assigned, h.retired]
  exact item

end Words

/-! ## Tokens taken in hand and put back -/

/-- The entries and their lists stay, and the tokens of lane `l` are regrouped: `es` in hand before, `fs` after. -/
structure Regroups (l : LaneId) (es fs : List EntryId) (s t : State) : Prop where
  words : ∀ e, WordsKept s t e
  lists : ∀ m, (t.lane m).openEntries = (s.lane m).openEntries
  others : ∀ m, m ≠ l → (t.lane m).tokenEntries = (s.lane m).tokenEntries
  own : (es ++ (s.lane l).tokenEntries).Perm (fs ++ (t.lane l).tokenEntries)

theorem State.Balances.regroup {s t : State} {l : LaneId} {es fs : List EntryId} (h : s.Balances l es) (k : Regroups l es fs s t) :
    t.Balances l fs := by
  have own (e : EntryId) (mem : e ∈ fs ++ (t.lane l).tokenEntries) : e ∈ (t.lane l).openEntries := by
    rw [k.lists l]
    rcases List.mem_append.mp (k.own.mem_iff.mpr mem) with inHand | held
    · exact h.inHand e inHand
    · exact h.held l e held
  refine {
    nodup := fun m => by rw [k.lists m]; exact h.nodup m
    apart := fun m n e => by rw [k.lists m, k.lists n]; exact h.apart m n e
    listed := fun e => by simp only [(k.words e).status, k.lists]; exact h.listed e
    items := fun m e mem => (k.words e).item (h.items m e (k.lists m ▸ mem))
    held := fun m e mem => ?held
    inHand := fun e mem => own e (List.mem_append_left _ mem)
    balance := fun m e mem => ?balance }
  case held =>
    by_cases same : m = l
    · rw [same] at mem ⊢
      exact own e (List.mem_append_right _ mem)
    · rw [k.others m same] at mem
      rw [k.lists m]
      exact h.held m e mem
  case balance =>
    rw [k.lists m] at mem
    have before := h.balance m e mem
    rw [(k.words e).assigned, (k.words e).retired, before]
    by_cases same : m = l
    · have total := k.own.count_eq e
      rw [List.count_append, List.count_append] at total
      rw [if_pos same, if_pos same, same]
      omega
    · rw [if_neg same, if_neg same, k.others m same]

end Sys2Proof.Machine
end


section
/-!
# Bookings keep the law of the lot ring (R130 to R132)
-/

namespace Sys2Proof.Machine

section Booking

variable {s t : State} {l : LaneId} {es : List EntryId} {e : EntryId}

/-! ## What the law says of an entry with tokens out -/

theorem State.Balances.own (h : s.Balances l es) {m : LaneId} (listed : e ∈ (s.lane l).openEntries) (also : e ∈ (s.lane m).openEntries) : m = l :=
  h.apart m l e also listed

theorem State.Balances.atLane (h : s.Balances l es) (listed : e ∈ (s.lane l).openEntries) :
    s.entryAssigned e = s.entryRetired e + (s.lane l).tokenEntries.count e + es.count e := by
  rw [h.balance l e listed, if_pos rfl]

/-- An entry whose tokens are all retired has none in hand and none on its lane. -/
theorem State.Balances.empty (h : s.Balances l es) (listed : e ∈ (s.lane l).openEntries) (none : s.entryAssigned e = s.entryRetired e) :
    e ∉ es ∧ e ∉ (s.lane l).tokenEntries := by
  have balance := h.atLane listed
  rw [← List.count_eq_zero, ← List.count_eq_zero]
  omega

/-! ## A word of one entry written -/

/-- Only words of the entry `e` differ, and no list and no token does. -/
structure EntryWritten (e : EntryId) (s t : State) : Prop where
  others : ∀ f, f ≠ e → WordsKept s t f
  lists : ∀ m, (t.lane m).openEntries = (s.lane m).openEntries
  tokens : ∀ m, (t.lane m).tokenEntries = (s.lane m).tokenEntries

theorem EntryWritten.setEntryWord (s : State) (e : EntryId) {k : Nat} (hk : k < 12) (w : Word) : EntryWritten e s (s.setEntryWord e k w) where
  others := fun _ other _ hj => State.entryWord_setEntryWord_other w (by omega) hk (Or.inl other)
  lists := fun _ => rfl
  tokens := fun _ => rfl

/-- The law after the words of one claimed entry are written, when the entry itself is as it should be. -/
theorem State.Balances.written {fs : List EntryId} (h : s.Balances l es) (k : EntryWritten e s t) (listed : e ∈ (s.lane l).openEntries)
    (hand : ∀ f, f ≠ e → fs.count f = es.count f) (item : t.itemCoherent l e)
    (balance : t.entryAssigned e = t.entryRetired e + (s.lane l).tokenEntries.count e + fs.count e) : t.Balances l fs where
  nodup := fun m => by rw [k.lists m]; exact h.nodup m
  apart := fun m n f => by rw [k.lists m, k.lists n]; exact h.apart m n f
  listed := fun f claimed => by
    simp only [k.lists]
    by_cases same : f = e
    · exact ⟨l, same ▸ listed⟩
    · rw [(k.others f same).status] at claimed
      exact h.listed f claimed
  items := fun m f mem => by
    rw [k.lists m] at mem
    by_cases same : f = e
    · rw [same] at mem ⊢
      rw [h.own listed mem]
      exact item
    · exact (k.others f same).item (h.items m f mem)
  held := fun m f mem => by
    rw [k.tokens m] at mem
    rw [k.lists m]
    exact h.held m f mem
  inHand := fun f mem => by
    rw [k.lists l]
    by_cases same : f = e
    · exact same ▸ listed
    · have out := List.count_pos_iff.mpr mem
      rw [hand f same] at out
      exact h.inHand f (List.count_pos_iff.mp out)
  balance := fun m f mem => by
    rw [k.lists m] at mem
    rw [k.tokens m]
    by_cases same : f = e
    · rw [same] at mem ⊢
      rw [h.own listed mem, if_pos rfl]
      exact balance
    · rw [(k.others f same).assigned, (k.others f same).retired, h.balance m f mem, hand f same]

/-! ## The count (R131) -/

theorem State.toNat_bump {k : Nat} (small : (s.entryWord e k).toNat < 9999) : (s.entryWord e k + 1).toNat = (s.entryWord e k).toNat + 1 := by
  rw [BitVec.toNat_add]
  exact Nat.mod_eq_of_lt (show (s.entryWord e k).toNat + 1 < 65536 by omega)

/-- A token in hand counted in its entry. -/
theorem State.Balances.bumpRetired (h : s.Balances l (e :: es)) (wf : s.memWf) (o : Retirement) : (s.bumpEntry e o.entryIndex).Balances l es := by
  have listed := h.inHand e List.mem_cons_self
  obtain ⟨claimed, owner, plan, quota, active, drained⟩ := h.items l e listed
  have balance := h.atLane listed
  rw [List.count_cons_self] at balance
  have range : 7 ≤ o.entryIndex ∧ o.entryIndex ≤ 10 := by cases o <;> decide
  have same {k : Nat} (hk : k < 11) (other : k ≠ o.entryIndex) : (s.bumpEntry e o.entryIndex).entryWord e k = s.entryWord e k :=
    State.entryWord_bumpEntry_other (by omega) (by omega) (Or.inr other)
  have retired : (s.bumpEntry e o.entryIndex).entryRetired e = s.entryRetired e + 1 := by
    have small : (s.entryWord e o.entryIndex).toNat ≤ s.entryRetired e := by
      unfold State.entryRetired
      cases o <;> simp only [Retirement.entryIndex] <;> omega
    have bumped : ((s.bumpEntry e o.entryIndex).entryWord e o.entryIndex).toNat = (s.entryWord e o.entryIndex).toNat + 1 := by
      rw [State.entryWord_bumpEntry_same wf]
      exact State.toNat_bump (by omega)
    unfold State.entryRetired
    cases o <;> simp only [Retirement.entryIndex] at bumped same ⊢
    · rw [bumped, same (k := 8) (by decide) (by decide), same (k := 9) (by decide) (by decide), same (k := 10) (by decide) (by decide)]
      omega
    · rw [bumped, same (k := 7) (by decide) (by decide), same (k := 9) (by decide) (by decide), same (k := 10) (by decide) (by decide)]
      omega
    · rw [bumped, same (k := 7) (by decide) (by decide), same (k := 8) (by decide) (by decide), same (k := 10) (by decide) (by decide)]
      omega
    · rw [bumped, same (k := 7) (by decide) (by decide), same (k := 8) (by decide) (by decide), same (k := 9) (by decide) (by decide)]
      omega
  have assigned : (s.bumpEntry e o.entryIndex).entryAssigned e = s.entryAssigned e :=
    congrArg BitVec.toNat (same (k := 6) (by decide) (by omega))
  have status : (s.bumpEntry e o.entryIndex).entryStatus e = s.entryStatus e := State.entryStatus_of_word (same (by decide) (by omega))
  have quotas : (s.bumpEntry e o.entryIndex).entryQuota e = s.entryQuota e := congrArg BitVec.toNat (same (k := 3) (by decide) (by omega))
  refine h.written (EntryWritten.setEntryWord s e (by omega) _) listed (fun f other => ?hand) ?item ?balance
  case hand => rw [List.count_cons_of_ne other.symm]
  case item =>
    refine ⟨?_, ?_, ?_, ?_, ?_, fun now => ?_⟩
    · exact (congrArg isClaimed status).trans claimed
    · exact (same (by decide) (by omega)).trans owner
    · exact (le_of_eq quotas).trans plan
    · exact (le_of_eq assigned).trans (quota.trans (ge_of_eq quotas))
    · show (s.bumpEntry e o.entryIndex).entryStatus e = _ ↔ (s.bumpEntry e o.entryIndex).entryAssigned e < (s.bumpEntry e o.entryIndex).entryQuota e
      rw [status, assigned, quotas]
      exact active
    · have before := drained (status.symm.trans now)
      omega
  case balance =>
    show (s.bumpEntry e o.entryIndex).entryAssigned e = (s.bumpEntry e o.entryIndex).entryRetired e + _ + _
    rw [assigned, retired]
    omega

end Booking

end Sys2Proof.Machine
end


section
/-!
# Completions keep the law of the lot ring (R131, R132)
-/

namespace Sys2Proof.Machine

section Completing

variable {s t : State} {l : LaneId} {es : List EntryId} {e : EntryId}

/-- Bookings move no token. -/
theorem Loose.tokenEntries (h : Loose s t) (m : LaneId) : (t.lane m).tokenEntries = (s.lane m).tokenEntries := by
  rw [(h.lanes m).same]
  rfl

/-- The head of the list is written back and leaves the list. -/
structure HeadLeaves (l : LaneId) (e : EntryId) (s t : State) : Prop where
  head : (s.lane l).openEntries = e :: (t.lane l).openEntries
  lists : ∀ m, m ≠ l → (t.lane m).openEntries = (s.lane m).openEntries
  tokens : ∀ m, (t.lane m).tokenEntries = (s.lane m).tokenEntries
  unclaimed : isClaimed (t.entryStatus e) = false
  words : ∀ f, f ≠ e → WordsKept s t f

theorem HeadLeaves.listed (k : HeadLeaves l e s t) : e ∈ (s.lane l).openEntries := by rw [k.head]; exact List.mem_cons_self

/-- An entry with no token out leaves the list. -/
theorem State.Balances.headLeaves (h : s.Balances l es) (k : HeadLeaves l e s t) (noneInHand : e ∉ es)
    (noneHeld : e ∉ (s.lane l).tokenEntries) : t.Balances l es := by
  have once := h.nodup l
  rw [k.head, List.nodup_cons] at once
  obtain ⟨fresh, nodup⟩ := once
  have sub (m : LaneId) (f : EntryId) (mem : f ∈ (t.lane m).openEntries) : f ∈ (s.lane m).openEntries ∧ f ≠ e := by
    by_cases same : m = l
    · rw [same] at mem ⊢
      rw [k.head]
      exact ⟨List.mem_cons_of_mem _ mem, fun first => fresh (first ▸ mem)⟩
    · rw [k.lists m same] at mem
      exact ⟨mem, fun first => same (h.own k.listed (first ▸ mem))⟩
  have stays (m : LaneId) (f : EntryId) (mem : f ∈ (s.lane m).openEntries) (other : f ≠ e) : f ∈ (t.lane m).openEntries := by
    by_cases same : m = l
    · rw [same] at mem ⊢
      rw [k.head] at mem
      exact (List.mem_cons.mp mem).resolve_left other
    · rw [k.lists m same]
      exact mem
  exact {
    nodup := fun m => by
      by_cases same : m = l
      · rw [same]
        exact nodup
      · rw [k.lists m same]
        exact h.nodup m
    apart := fun m n f first second => h.apart m n f (sub m f first).1 (sub n f second).1
    listed := fun f claimed => by
      by_cases same : f = e
      · rw [same, k.unclaimed] at claimed
        cases claimed
      · rw [(k.words f same).status] at claimed
        obtain ⟨m, mem⟩ := h.listed f claimed
        exact ⟨m, stays m f mem same⟩
    items := fun m f mem => (k.words f (sub m f mem).2).item (h.items m f (sub m f mem).1)
    held := fun m f mem => by
      rw [k.tokens m] at mem
      have listed := h.held m f mem
      refine stays m f listed fun same => ?_
      rw [same] at mem listed
      rw [h.own k.listed listed] at mem
      exact noneHeld mem
    inHand := fun f mem => stays l f (h.inHand f mem) fun same => noneInHand (same ▸ mem)
    balance := fun m f mem => by
      obtain ⟨before, other⟩ := sub m f mem
      rw [k.tokens m, (k.words f other).assigned, (k.words f other).retired]
      exact h.balance m f before }

/-- An entry that drains with no token out completes at the head of the list. -/
theorem State.Balances.completeHead (h : s.Balances l es) (wf : s.memWf) {it : OpenItem} {rest : List OpenItem}
    (list : (s.lane l).openList = it :: rest) (done : s.entryAssigned it.entry = s.entryRetired it.entry) :
    (s.completeHead l it).Balances l es := by
  have completed := State.completed wf l it
  have leaves : HeadLeaves l it.entry s (s.completeHead l it) := {
    head := by rw [Lane.openEntries, Lane.openEntries, completed.openList, list]; rfl
    lists := fun m other => by rw [(completed.inside.others m other).same]; rfl
    tokens := (Loose.completeHead s l it).tokenEntries
    unclaimed := by rw [completed.status]; rfl
    words := fun f other k hk => completed.word f k hk (Or.inl other) }
  obtain ⟨noneInHand, noneHeld⟩ := h.empty leaves.listed done
  exact h.headLeaves leaves noneInHand noneHeld

theorem State.completeHead_memWf (wf : s.memWf) (l : LaneId) (it : OpenItem) : (s.completeHead l it).memWf :=
  (Inside.completeHead l s it).wf wf

theorem State.Balances.cascade (h : s.Balances l es) (wf : s.memWf) (n : Nat) : (State.cascade n l s).Balances l es := by
  induction n generalizing s with
  | zero => exact h
  | succ n ih =>
    unfold State.cascade
    split
    · exact h
    · next it rest list =>
      split
      · next drained =>
        have head : it.entry ∈ (s.lane l).openEntries := List.mem_map_of_mem (by rw [list]; exact List.mem_cons_self)
        obtain ⟨-, -, -, -, -, done⟩ := h.items l it.entry head
        exact ih (h.completeHead wf list (done drained)) (State.completeHead_memWf wf l it)
      · exact h

/-- A CLOSING entry whose tokens are all retired drains. -/
theorem State.Balances.drain (h : s.Balances l es) (wf : s.memWf) (listed : e ∈ (s.lane l).openEntries) (drained : s.drained e = true) :
    (s.drain l e).Balances l es := by
  have closing : s.entryStatus e = some .closing := of_decide_eq_true (Bool.and_eq_true _ _ ▸ drained).1
  have done : s.entryAssigned e = s.entryRetired e := of_decide_eq_true (Bool.and_eq_true _ _ ▸ drained).2
  have waits : (s.setEntryStatus e .drained).Balances l es := by
    obtain ⟨-, owner, plan, quota, active, -⟩ := h.items l e listed
    have same {k : Nat} (hk : k < 11) (other : k ≠ 0) : (s.setEntryStatus e .drained).entryWord e k = s.entryWord e k :=
      State.entryWord_setEntryStatus_other .drained (by omega) (Or.inr other)
    have assigned : (s.setEntryStatus e .drained).entryAssigned e = s.entryAssigned e := congrArg BitVec.toNat (same (k := 6) (by decide) (by decide))
    have quotas : (s.setEntryStatus e .drained).entryQuota e = s.entryQuota e := congrArg BitVec.toNat (same (k := 3) (by decide) (by decide))
    have retired : (s.setEntryStatus e .drained).entryRetired e = s.entryRetired e := by
      unfold State.entryRetired
      rw [same (by decide) (by decide), same (by decide) (by decide), same (by decide) (by decide), same (by decide) (by decide)]
    have status := State.entryStatus_setEntryStatus_same wf e .drained
    have full : ¬ s.entryAssigned e < s.entryQuota e := fun below => by
      rw [active.mpr below] at closing
      cases closing
    refine h.written (EntryWritten.setEntryWord s e (by decide) _) listed (fun _ _ => rfl) ?_ ?_
    · show (s.setEntryStatus e .drained).itemCoherent l e
      unfold State.itemCoherent
      rw [status, same (by decide) (by decide), quotas, assigned, retired]
      exact ⟨rfl, owner, plan, quota, ⟨nofun, fun below => absurd below full⟩, fun _ => done⟩
    · show (s.setEntryStatus e .drained).entryAssigned e = (s.setEntryStatus e .drained).entryRetired e + _ + _
      rw [assigned, retired]
      exact h.atLane listed
  unfold State.drain
  split
  · exact waits
  · next it rest list =>
    split
    · next head => exact (h.completeHead wf list (head ▸ done)).cascade (State.completeHead_memWf wf l it) _
    · exact waits

/-- A booking takes one token from the hand. -/
theorem State.Balances.book (h : s.Balances l (e :: es)) (wf : s.memWf) (o : Retirement) : (s.book l o e).Balances l es := by
  have counted := h.bumpRetired wf o
  have listed : e ∈ ((s.bumpEntry e o.entryIndex).lane l).openEntries := h.inHand e List.mem_cons_self
  have wf' : (s.bumpEntry e o.entryIndex).memWf := State.bumpEntry_memWf wf e (by cases o <;> decide)
  unfold State.book
  dsimp only
  split
  · next drained => exact counted.drain wf' listed drained
  · exact counted

theorem State.Balances.bookTokens {ts : List Token} (h : s.Balances l (ts.map Token.entry)) (wf : s.memWf) (o : Retirement) :
    (s.bookTokens l o ts).Balances l [] := by
  induction ts generalizing s with
  | nil => exact h
  | cons k ts ih => exact ih (s := s.book l o k.entry) (State.Balances.book h wf o) ((Loose.book s l o k.entry).wf wf)

end Completing

end Sys2Proof.Machine
end


section
/-!
# Claims and assignments keep the law of the lot ring (R123, R125, R129)
-/

namespace Sys2Proof.Machine

/-! ## What leaves entries, lists and tokens alone -/

/-- The words of the entries but the stacks-closed counts, the lists and the tokens stay. -/
structure Unmoved (s t : State) : Prop where
  words : ∀ e, WordsKept s t e
  lists : ∀ m, (t.lane m).openEntries = (s.lane m).openEntries
  tokens : ∀ m, (t.lane m).tokenEntries = (s.lane m).tokenEntries

namespace Unmoved

variable {s t u : State}

theorem refl (s : State) : Unmoved s s := ⟨fun _ _ _ => rfl, fun _ => rfl, fun _ => rfl⟩

theorem trans (h : Unmoved s t) (k : Unmoved t u) : Unmoved s u :=
  ⟨fun e j hj => (k.words e j hj).trans (h.words e j hj), fun m => (k.lists m).trans (h.lists m), fun m => (k.tokens m).trans (h.tokens m)⟩

theorem regroups (h : Unmoved s t) (l : LaneId) (es : List EntryId) : Regroups l es es s t :=
  ⟨h.words, h.lists, fun m _ => h.tokens m, by rw [h.tokens l]⟩

theorem ofInert (h : Inert s t) : Unmoved s t :=
  ⟨fun e k hk => h.entries e k hk, fun m => by rw [h.lanes m]; rfl, fun m => by rw [h.lanes m]; rfl⟩

theorem ofQuiet (h : Quiet s t) : Unmoved s t := ofInert h.inert

/-- The same lanes and the same memory. -/
theorem ofSame (lanes : t.lanes = s.lanes) (mem : t.mem = s.mem) : Unmoved s t := by
  have lane (m : LaneId) : t.lane m = s.lane m := congrArg (fun v : Vector Lane 4 => v[m]) lanes
  exact ⟨fun e k _ => congrArg (fun w : Mem => w.read (pageBase 4 + (12 * e.val + k))) mem, fun m => by rw [lane], fun m => by rw [lane]⟩

/-- A change of one lane that leaves its list and its tokens. -/
theorem modLane (s : State) (l : LaneId) (f : Lane → Lane) (lists : (f (s.lane l)).openEntries = (s.lane l).openEntries)
    (tokens : (f (s.lane l)).tokenEntries = (s.lane l).tokenEntries) : Unmoved s (s.modLane l f) := by
  refine ⟨fun _ _ _ => rfl, fun m => ?_, fun m => ?_⟩
  · rw [State.modLane_lane]
    split
    · next same => rw [same]; exact lists
    · rfl
  · rw [State.modLane_lane]
    split
    · next same => rw [same]; exact tokens
    · rfl

end Unmoved

theorem State.Balances.unmoved {s t : State} {l : LaneId} {es : List EntryId} (h : s.Balances l es) (k : Unmoved s t) : t.Balances l es :=
  h.regroup (k.regroups l es)

section Claiming

variable {s : State} {l : LaneId} {es : List EntryId} {c e : EntryId}

/-- A waiting entry stands on no list. -/
theorem State.Balances.unlisted (h : s.Balances l es) (waits : s.entryStatus c = some .pending) (m : LaneId) : c ∉ (s.lane m).openEntries := by
  intro mem
  obtain ⟨claimed, -⟩ := h.items m c mem
  rw [waits] at claimed
  cases claimed

/-- A claimed entry joins the list with no token out. -/
theorem State.Balances.takeEntry (h : s.Balances l es) (wf : s.memWf) (claimable : s.claimable c = true) :
    (s.takeEntry l c).Balances l es := by
  obtain ⟨waits, plan⟩ := Bool.and_eq_true _ _ ▸ claimable
  have pending : s.entryStatus c = some .pending := of_decide_eq_true (Bool.and_eq_true _ _ ▸ waits).2
  have quota : 1 ≤ s.entryQuota c ∧ s.entryQuota c ≤ 9999 := by
    unfold State.planValid at plan
    simp only [Bool.and_eq_true, decide_eq_true_eq] at plan
    exact plan.1.2
  have fresh (m : LaneId) : c ∉ (s.lane m).openEntries := h.unlisted pending m
  have own : ((s.takeEntry l c).lane l).openEntries = (s.lane l).openEntries ++ [c] := by
    rw [State.takeEntry_lane_same]
    exact List.map_append
  have lists (m : LaneId) (other : m ≠ l) : ((s.takeEntry l c).lane m).openEntries = (s.lane m).openEntries := by
    rw [State.takeEntry_lane_other s c other]
  have tokens (m : LaneId) : ((s.takeEntry l c).lane m).tokenEntries = (s.lane m).tokenEntries := by
    by_cases same : m = l
    · rw [same, State.takeEntry_lane_same]
      rfl
    · rw [State.takeEntry_lane_other s c same]
  have words (f : EntryId) (other : f ≠ c) : WordsKept s (s.takeEntry l c) f := fun k hk => by
    rw [State.entryWord_takeEntry wf l c f (by omega), if_neg other]
  have word {k : Nat} (hk : k < 12) : (s.takeEntry l c).entryWord c k =
      if k = 0 then withStatus (s.entryWord c 0) .active else if k = 5 then wordOf l.val else if 6 ≤ k then 0 else s.entryWord c k := by
    rw [State.entryWord_takeEntry wf l c c hk, if_pos rfl]
  have status : (s.takeEntry l c).entryStatus c = some .active := by rw [State.entryStatus_takeEntry wf, if_pos rfl]
  have assigned : (s.takeEntry l c).entryAssigned c = 0 := congrArg BitVec.toNat (word (k := 6) (by decide))
  have quotas : (s.takeEntry l c).entryQuota c = s.entryQuota c := congrArg BitVec.toNat (word (k := 3) (by decide))
  have retired : (s.takeEntry l c).entryRetired c = 0 := by
    unfold State.entryRetired
    rw [word (by decide), word (by decide), word (by decide), word (by decide)]
    rfl
  generalize s.takeEntry l c = t at *
  have cases' (m : LaneId) (f : EntryId) (mem : f ∈ (t.lane m).openEntries) : (f ∈ (s.lane m).openEntries ∧ f ≠ c) ∨ (m = l ∧ f = c) := by
    by_cases same : m = l
    · rw [same] at mem ⊢
      rw [own] at mem
      rcases List.mem_append.mp mem with old | new
      · exact Or.inl ⟨old, fun first => fresh l (first ▸ old)⟩
      · exact Or.inr ⟨rfl, List.mem_singleton.mp new⟩
    · rw [lists m same] at mem
      exact Or.inl ⟨mem, fun first => fresh m (first ▸ mem)⟩
  have stays (m : LaneId) (f : EntryId) (mem : f ∈ (s.lane m).openEntries) : f ∈ (t.lane m).openEntries := by
    by_cases same : m = l
    · rw [same] at mem ⊢
      rw [own]
      exact List.mem_append_left _ mem
    · rw [lists m same]
      exact mem
  exact {
    nodup := fun m => by
      by_cases same : m = l
      · rw [same, own]
        exact List.nodup_append.mpr ⟨h.nodup l, List.nodup_singleton c, fun x old y new clash =>
          fresh l (List.mem_singleton.mp new ▸ clash ▸ old)⟩
      · rw [lists m same]
        exact h.nodup m
    apart := fun m n f first second => by
      rcases cases' m f first with ⟨old, other⟩ | ⟨rfl, rfl⟩
      · rcases cases' n f second with ⟨old', -⟩ | ⟨-, rfl⟩
        · exact h.apart m n f old old'
        · exact absurd rfl other
      · rcases cases' n f second with ⟨-, other⟩ | ⟨rfl, -⟩
        · exact absurd rfl other
        · rfl
    listed := fun f claimed => by
      by_cases same : f = c
      · exact ⟨l, by rw [own, same]; exact List.mem_append_right _ (List.mem_singleton.mpr rfl)⟩
      · rw [(words f same).status] at claimed
        obtain ⟨m, mem⟩ := h.listed f claimed
        exact ⟨m, stays m f mem⟩
    items := fun m f mem => by
      rcases cases' m f mem with ⟨old, other⟩ | ⟨rfl, rfl⟩
      · exact (words f other).item (h.items m f old)
      · unfold State.itemCoherent
        rw [status, quotas, assigned, retired, word (by decide)]
        exact ⟨rfl, rfl, quota.2, Nat.zero_le _, ⟨fun _ => quota.1, fun _ => rfl⟩, nofun⟩
    held := fun m f mem => stays m f (h.held m f (tokens m ▸ mem))
    inHand := fun f mem => stays l f (h.inHand f mem)
    balance := fun m f mem => by
      rw [tokens m]
      rcases cases' m f mem with ⟨old, other⟩ | ⟨rfl, rfl⟩
      · rw [(words f other).assigned, (words f other).retired]
        exact h.balance m f old
      · have none : (s.lane m).tokenEntries.count f = 0 := List.count_eq_zero.mpr fun out => fresh m (h.held m f out)
        have noHand : es.count f = 0 := List.count_eq_zero.mpr fun out => fresh m (h.inHand f out)
        rw [assigned, retired, none, noHand, if_pos rfl] }

theorem State.Balances.claim (h : s.Balances l es) (wf : s.memWf) : (s.claim l).Balances l es := by
  by_cases can : s.canClaim l = true
  · rw [State.claim_of_can can]
    exact h.takeEntry wf (State.canClaim_iff.mp can).1
  · exact h.unmoved (.ofQuiet (State.claim_quiet (Bool.eq_false_iff.mpr can)))

/-- The claim of the quota step. -/
theorem State.Balances.stepClaim (h : s.Balances l es) (wf : s.memWf) : (s.stepClaim l).Balances l es := by
  have claimed := h.claim wf
  unfold State.stepClaim
  split
  · exact claimed
  · split
    · exact claimed.unmoved (.modLane _ l _ rfl rfl)
    · exact claimed

/-- A token assigned to the ACTIVE entry is in hand. -/
theorem State.Balances.assign (h : s.Balances l es) (wf : s.memWf) (listed : e ∈ (s.lane l).openEntries)
    (active : s.entryStatus e = some .active) : (s.assign l e).Balances l (e :: es) := by
  obtain ⟨counts, steps⟩ := State.assign_cases wf l e
  obtain ⟨claimed, owner, plan, quota, below, -⟩ := h.items l e listed
  have room := below.mp active
  have bumped : ∀ t : State, t.entryWord e 6 = s.entryWord e 6 + 1 → t.entryAssigned e = s.entryAssigned e + 1 := fun t word =>
    (congrArg BitVec.toNat word).trans (State.toNat_bump (Nat.lt_of_lt_of_le room plan))
  have hand (f : EntryId) (other : f ≠ e) : (e :: es).count f = es.count f := List.count_cons_of_ne other.symm
  have balance := h.atLane listed
  by_cases full : s.entryWord e 6 + 1 = s.entryWord e 3
  · rw [steps full]
    refine State.Balances.stepClaim ?_ (State.atQuota_memWf wf)
    have same {k : Nat} (hk : k < 12) (other : k ≠ 0 ∧ k ≠ 6) : (s.atQuota l e).entryWord e k = s.entryWord e k :=
      State.entryWord_atQuota hk (Or.inr other)
    have retired : (s.atQuota l e).entryRetired e = s.entryRetired e := by
      unfold State.entryRetired
      rw [same (by decide) (by decide), same (by decide) (by decide), same (by decide) (by decide), same (by decide) (by decide)]
    have quotas : (s.atQuota l e).entryQuota e = s.entryQuota e := congrArg BitVec.toNat (same (k := 3) (by decide) (by decide))
    have assigned := bumped _ (State.entryWord_atQuota_count (l := l) wf)
    have reached : s.entryAssigned e + 1 = s.entryQuota e :=
      (State.toNat_bump (Nat.lt_of_lt_of_le room plan)).symm.trans (congrArg BitVec.toNat full)
    have written : EntryWritten e s (s.atQuota l e) := by
      have lane := Unmoved.modLane ((s.bumpEntry e 6).setEntryStatus e .closing) l (fun L => { L with cursor := s.nextIndex l e }) rfl rfl
      exact ⟨fun f other k hk => State.entryWord_atQuota (by omega) (Or.inl other), lane.lists, lane.tokens⟩
    refine h.written written listed hand ?_ ?_
    · unfold State.itemCoherent
      rw [State.entryStatus_atQuota wf, same (by decide) (by decide), quotas, assigned, retired]
      exact ⟨rfl, owner, plan, le_of_eq reached, ⟨nofun, fun less => absurd less (by omega)⟩, nofun⟩
    · rw [assigned, retired, List.count_cons_self, balance]
      omega
  · rw [counts full]
    have same {k : Nat} (hk : k < 12) (other : k ≠ 6) : (s.bumpEntry e 6).entryWord e k = s.entryWord e k :=
      State.entryWord_bumpEntry_other hk (by decide) (Or.inr other)
    have retired : (s.bumpEntry e 6).entryRetired e = s.entryRetired e := by
      unfold State.entryRetired
      rw [same (by decide) (by decide), same (by decide) (by decide), same (by decide) (by decide), same (by decide) (by decide)]
    have quotas : (s.bumpEntry e 6).entryQuota e = s.entryQuota e := congrArg BitVec.toNat (same (k := 3) (by decide) (by decide))
    have assigned := bumped _ (State.entryWord_count wf e)
    have status : (s.bumpEntry e 6).entryStatus e = some .active := (State.entryStatus_of_word (same (by decide) (by decide))).trans active
    have short : s.entryAssigned e + 1 ≠ s.entryQuota e := fun same =>
      full (BitVec.eq_of_toNat_eq ((State.toNat_bump (Nat.lt_of_lt_of_le room plan)).trans same))
    refine h.written (EntryWritten.setEntryWord s e (by decide) _) listed hand ?_ ?_
    · show (s.bumpEntry e 6).itemCoherent l e
      unfold State.itemCoherent
      rw [status, same (by decide) (by decide), quotas, assigned, retired]
      exact ⟨rfl, owner, plan, by omega, ⟨fun _ => by omega, fun _ => rfl⟩, nofun⟩
    · show (s.bumpEntry e 6).entryAssigned e = (s.bumpEntry e 6).entryRetired e + _ + _
      rw [assigned, retired, List.count_cons_self, balance]
      omega

end Claiming

end Sys2Proof.Machine
end


section
/-!
# Retirements, lost tokens and the purge keep the law of the lot ring (R60, R63, R157)

`Rebalances` is one step of the law: the tokens of `es` in hand before, those of `fs` after.
-/

namespace Sys2Proof.Machine

/-! ## More operations that leave entries, lists and tokens alone -/

namespace Unmoved

theorem setMode (s : State) (l : LaneId) (m : LaneMode) : Unmoved s (s.setMode l m) := modLane s l _ rfl rfl

theorem modExit (s : State) (l : LaneId) (f : ExitUnit → ExitUnit) : Unmoved s (s.modExit l f) := modLane s l _ rfl rfl

theorem modSched (s : State) (l : LaneId) (f : FoldLane → FoldLane) : Unmoved s (s.modSched l f) := modLane s l _ rfl rfl

theorem modPlace (s : State) (p : PlaceId) (f : Place → Place) : Unmoved s (s.modPlace p f) := ofSame rfl rfl

theorem clearInbound (s : State) (p : PlaceId) : Unmoved s (s.clearInbound p) := by
  unfold State.clearInbound
  split
  · dsimp only
    split
    · exact (modPlace s p _).trans (ofQuiet (Quiet.shortClose _ p))
    · exact modPlace s p _
  · exact refl s

theorem leavePlace (s : State) (r : PieceRecord) : Unmoved s (s.leavePlace r) := by
  unfold State.leavePlace
  split
  · exact clearInbound s _
  · exact refl s

theorem countRetirement (s : State) (l : LaneId) (r : PieceRecord) (o : Retirement) : Unmoved s (s.countRetirement l r o) := by
  have counted : Unmoved s (s.addLaneCounter l o.laneIndex r.bookings) := ofInert (Inert.addLaneCounter s l (by cases o <;> decide) _)
  unfold State.countRetirement
  dsimp only
  split
  · next why _ => exact counted.trans (ofInert (Inert.addLaneCounter _ l (by cases why <;> decide) _))
  · exact counted

theorem examineSuspending (s : State) (l : LaneId) : Unmoved s (s.examineSuspending l) := by
  unfold State.examineSuspending
  split
  · exact setMode s l _
  · exact refl s

theorem wakeSuspended (s : State) (l : LaneId) : Unmoved s (s.wakeSuspended l) := by
  unfold State.wakeSuspended
  split
  · exact setMode s l _
  · exact refl s

theorem wakeDry (s : State) (l : LaneId) : Unmoved s (s.wakeDry l) := by
  unfold State.wakeDry
  split
  · exact setMode s l _
  · exact refl s

/-- A change of records that keeps their tokens. -/
theorem modRecord (s : State) (l : LaneId) (n : RecordNo) {f : PieceRecord → PieceRecord} (tokens : ∀ r, (f r).tokens = r.tokens) :
    Unmoved s (s.modRecord l n f) := by
  refine modLane s l _ rfl ?_
  unfold Lane.tokenEntries
  have same : ((s.lane l).inFlight.map fun r => if r.number = n then f r else r).flatMap PieceRecord.tokens =
      (s.lane l).inFlight.flatMap PieceRecord.tokens := by
    rw [List.flatMap_map]
    refine List.flatMap_congr fun r _ => ?_
    split
    · exact tokens r
    · rfl
  rw [same]

/-- What a destination does concerns places and the starved mark. -/
theorem destinationFor (s : State) (l : LaneId) (r : PieceRecord) : Unmoved s (s.destinationFor l r).1 := by
  have starve (t : State) : Unmoved t (t.starve l) := (ofQuiet (Quiet.raise t .overflow (some l))).trans (modLane _ l _ rfl rfl)
  have place (t : State) (customer : Word) (article target : Nat) : Unmoved t (t.placeFor l customer article target).1 := by
    unfold State.placeFor
    split
    · exact ofSame rfl rfl
    · split
      · exact ofSame rfl rfl
      · exact starve t
  unfold State.destinationFor
  split
  · split
    · exact ofQuiet (Quiet.raise s _ _)
    · split
      · exact refl s
      · exact (ofQuiet (Quiet.closeOtherIdentity s l _ _)).trans (place _ _ _ _)
  · exact refl s

theorem countIfDelivered (s : State) (r : PieceRecord) : Unmoved s (s.countIfDelivered r) := by
  have full (s : State) (p : PlaceId) (short : Bool) : Unmoved s (s.makeFull p short) := by
    rw [State.makeFull_eq]
    exact trans (t := s.joinQueue p short) (ofSame rfl rfl)
      ((ofQuiet (Quiet.tellStackClosed _ p)).trans (ofQuiet (Quiet.tryDischarge _)))
  have counted (s : State) (p : PlaceId) (t : Option Token) : Unmoved s (s.countDelivery p t) := by
    have piece : Unmoved s (s.modPlace p fun pl => pl.counted t) := modPlace s p _
    unfold State.countDelivery
    dsimp only
    split
    · exact piece.trans (full _ p false)
    · split
      · exact piece.trans (ofQuiet (Quiet.shortClose _ p))
      · exact piece
  unfold State.countIfDelivered
  split
  · exact counted s _ _
  · exact refl s

theorem setDestination (s : State) (l : LaneId) (n : RecordNo) (d : Destination) (target : Pos) :
    Unmoved s (s.setDestination l n d target) := (modRecord s l n (f := fun r => { r with destination := some d }) fun _ => rfl).trans (modExit _ l _)

theorem matchArrival (s : State) (l : LaneId) (r : PieceRecord) (p : Pos) : Unmoved s (s.matchArrival l r p) := by
  have marked : Unmoved s (s.markMatched l r.number) :=
    (modRecord s l r.number (f := fun r => { r with phase := .atExit }) fun _ => rfl).trans (modExit _ l _)
  unfold State.matchArrival
  exact marked.trans ((destinationFor _ l r).trans (setDestination _ l _ _ _))

theorem phantomArrival (s : State) (l : LaneId) (p : Pos) : Unmoved s (s.phantomArrival l p) := by
  have counted := ofInert (Inert.addLaneCounter s l (k := phantomIndex) (by decide) 1)
  unfold State.phantomArrival
  exact counted.trans ((ofQuiet (Quiet.raise _ _ _)).trans (modExit _ l _))

theorem rerouteAtExit (s : State) (l : LaneId) (r : PieceRecord) : Unmoved s (s.rerouteAtExit l r) := by
  have rerouted : Unmoved s (s.modRecord l r.number fun x => { x with forceOverflow := true, destination := some .overflow }) :=
    modRecord s l r.number fun _ => rfl
  unfold State.rerouteAtExit
  exact rerouted.trans ((modExit _ l _).trans (leavePlace _ r))

theorem holdEdges (s : State) (l : LaneId) : Unmoved s (s.holdEdges l) := modLane s l _ rfl rfl

theorem enterFaulted (s : State) (l : LaneId) (f : LaneFault) : Unmoved s (s.enterFaulted l f) :=
  (modLane s l _ rfl rfl).trans (holdEdges _ l)

theorem enterIdle (s : State) (l : LaneId) : Unmoved s (s.enterIdle l) := (modLane s l _ rfl rfl).trans (holdEdges _ l)

end Unmoved

/-! ## The law from step to step -/

/-- The step keeps the law, with the tokens of `es` in hand before it and those of `fs` after. -/
structure Rebalances (l : LaneId) (es fs : List EntryId) (s t : State) : Prop where
  wf : s.memWf → t.memWf
  balances : s.memWf → s.Balances l es → t.Balances l fs

namespace Rebalances

variable {l : LaneId} {es fs gs : List EntryId} {s t u : State}

theorem refl (l : LaneId) (es : List EntryId) (s : State) : Rebalances l es es s s := ⟨id, fun _ => id⟩

theorem trans (h : Rebalances l es fs s t) (k : Rebalances l fs gs t u) : Rebalances l es gs s u where
  wf := fun wf => k.wf (h.wf wf)
  balances := fun wf balances => k.balances (h.wf wf) (h.balances wf balances)

theorem unmoved (steady : Steady s t) (h : Unmoved s t) : Rebalances l es es s t := ⟨steady.wf, fun _ balances => balances.unmoved h⟩

theorem regroup (steady : Steady s t) (h : Regroups l es fs s t) : Rebalances l es fs s t := ⟨steady.wf, fun _ balances => balances.regroup h⟩

/-- A step repeated along a list. -/
theorem foldl {α : Type} {f : State → α → State} (h : ∀ s a, Rebalances l es es s (f s a)) (xs : List α) (s : State) :
    Rebalances l es es s (xs.foldl f s) := by
  induction xs generalizing s with
  | nil => exact refl l es s
  | cons x xs ih => exact (h s x).trans (ih _)

end Rebalances

/-- One lane changed: its list stays and its tokens are regrouped. -/
theorem Regroups.ofLane {l : LaneId} {es fs : List EntryId} {s t : State} (mem : t.mem = s.mem)
    (others : ∀ m, m ≠ l → t.lane m = s.lane m) (list : (t.lane l).openEntries = (s.lane l).openEntries)
    (own : (es ++ (s.lane l).tokenEntries).Perm (fs ++ (t.lane l).tokenEntries)) : Regroups l es fs s t where
  words := fun e k _ => congrArg (fun w : Mem => w.read (pageBase 4 + (12 * e.val + k))) mem
  lists := fun m => by
    by_cases same : m = l
    · rw [same, list]
    · rw [others m same]
  others := fun m other => by rw [others m other]
  own := own

namespace Rebalances

variable {l : LaneId} {s : State}

/-! ## Retirements (R60, R131) -/

/-- The tokens of a freed record are in hand. -/
theorem freeRecord {n : RecordNo} {r : PieceRecord} (found : s.findRecord l n = some r) :
    Rebalances l [] (r.tokens.map Token.entry) s (s.freeRecord l r) := by
  refine regroup (Steady.freeRecord s l r) (.ofLane rfl (fun m other => State.freeRecord_lane_other s r other) ?_ ?_)
  · rw [State.freeRecord_lane_same]
    rfl
  · obtain ⟨front, back, split, -, -, erased⟩ := split_of_find? found
    have number : r.number = n := (State.findRecord_mem found).2
    rw [State.freeRecord_lane_same]
    unfold Lane.freed Lane.tokenEntries
    dsimp only
    rw [number, erased, split, List.perm_iff_count]
    intro e
    simp only [List.nil_append, List.count_append, List.map_append, List.flatMap_append, List.flatMap_cons]
    omega

theorem bookTokens (l : LaneId) (ts : List Token) (s : State) (o : Retirement) :
    Rebalances l (ts.map Token.entry) [] s (s.bookTokens l o ts) where
  wf := (Loose.bookTokens s l o ts).wf
  balances := fun wf balances => balances.bookTokens wf o

theorem retire (l : LaneId) (s : State) (n : RecordNo) (o : Retirement) : Rebalances l [] [] s (s.retire l n o) := by
  unfold State.retire
  split
  · exact refl l [] s
  · next r found =>
    exact (freeRecord found).trans ((unmoved (Steady.leavePlace _ r) (Unmoved.leavePlace _ r)).trans
      ((bookTokens l r.tokens _ o).trans ((unmoved (Steady.countRetirement _ l r o) (Unmoved.countRetirement _ l r o)).trans
        (unmoved (Steady.examineSuspending _ l) (Unmoved.examineSuspending _ l)))))

/-! ## Lost tokens (R63) -/

theorem loseToken (l : LaneId) (s : State) (t : Token) : Rebalances l [t.entry] [] s (s.loseToken l t) := by
  have counted (u : State) := Inert.addLaneCounter u l (k := Retirement.lost.laneIndex) (by decide) 1
  have booked : Rebalances l [t.entry] [] s (s.book l .lost t.entry) :=
    ⟨(Loose.book s l .lost t.entry).wf, fun wf balances => balances.book wf .lost⟩
  unfold State.loseToken
  exact booked.trans ((unmoved (counted _).steady (Unmoved.ofInert (counted _))).trans
    (unmoved (Steady.examineSuspending _ l) (Unmoved.examineSuspending _ l)))

/-- A queued token taken from the queue is in hand. -/
theorem takeToken {q : QueuedToken} {front rest : List QueuedToken} (queue : (s.lane l).tokens = front ++ q :: rest) :
    Rebalances l [] [q.token.entry] s (s.modLane l fun L => { L with tokens := front ++ rest }) := by
  refine regroup (Steady.modLane s l _) (.ofLane rfl (fun m other => State.modLane_lane_other s _ other) ?_ ?_)
  · rw [State.modLane_lane_same]
    rfl
  · rw [State.modLane_lane_same]
    unfold Lane.tokenEntries
    dsimp only
    rw [queue, List.perm_iff_count]
    intro e
    simp only [List.nil_append, List.count_append, List.map_append, List.map_cons, List.count_cons, List.count_nil]
    omega

theorem loseQueued {q : QueuedToken} {front rest : List QueuedToken} (queue : (s.lane l).tokens = front ++ q :: rest) :
    Rebalances l [] [] s ((s.modLane l fun L => { L with tokens := front ++ rest }).loseToken l q.token) :=
  (takeToken queue).trans (loseToken l _ q.token)

/-! ## The purge (R157) -/

theorem purgeRecords (l : LaneId) (s : State) : Rebalances l [] [] s (s.purgeRecords l) := by
  unfold State.purgeRecords
  exact foldl (fun t n => retire l t n .lost) _ s

theorem purgeTokens (l : LaneId) (s : State) : Rebalances l [] [] s (s.purgeTokens l) := by
  unfold State.purgeTokens
  generalize queue : (s.lane l).tokens = qs
  induction qs generalizing s with
  | nil => exact refl l [] s
  | cons q qs ih =>
    have popped : s.popToken l = s.modLane l fun L => { L with tokens := [] ++ qs } :=
      State.modLane_congr (by rw [queue]; rfl)
    have left : (((s.popToken l).loseToken l q.token).lane l).tokens = qs := by
      rw [((BooksAll.loseToken (s.popToken l) l q.token).lanes l).same, popped, State.modLane_lane_same]
      rfl
    rw [List.foldl_cons]
    refine trans ?_ (ih _ left)
    rw [popped]
    exact loseQueued (front := []) queue

theorem purge (l : LaneId) (s : State) (f : LaneFault) : Rebalances l [] [] s (s.purge l f) := by
  have entered : Rebalances l [] [] s (s.enterFaulted l f) := unmoved (.ofSame rfl rfl rfl) (Unmoved.enterFaulted s l f)
  have held (t : State) : Rebalances l [] [] t (t.holdGate l) := unmoved (.ofSame rfl rfl rfl) (Unmoved.modSched t l _)
  have quiet {t u : State} (h : Quiet t u) : Rebalances l [] [] t u := unmoved h.steady (Unmoved.ofQuiet h)
  unfold State.purge
  exact entered.trans ((purgeRecords l _).trans ((purgeTokens l _).trans ((held _).trans
    ((quiet (Quiet.freeEmptyFilling _ l)).trans (quiet (Quiet.produce _ _))))))

end Rebalances

end Sys2Proof.Machine
end


section
/-!
# The events of a lane keep the law of the lot ring (R32, R51, R104)
-/

namespace Sys2Proof.Machine

section Lanes

variable {l : LaneId} {s : State}

/-- The head token, when there is one, leaves the queue. -/
theorem State.count_headToken (s : State) (l : LaneId) (e : EntryId) :
    ((s.headToken l).toList.map Token.entry).count e + ((s.lane l).tokens.tail.map fun q => q.token.entry).count e =
      ((s.lane l).tokens.map fun q => q.token.entry).count e := by
  unfold State.headToken
  cases (s.lane l).tokens with
  | nil => rfl
  | cons q qs =>
    show [q.token.entry].count e + _ = (q.token.entry :: _).count e
    rw [List.count_cons, List.count_cons, List.count_nil]
    simp only [List.tail_cons]
    omega

/-- Tokens put on the one record of their number. -/
theorem count_modNumber {r : PieceRecord} {rs : List PieceRecord} (ts : List Token) (once : (rs.map PieceRecord.number).Nodup) (mem : r ∈ rs)
    (e : EntryId) :
    (((modNumber r.number (fun x => { x with tokens := x.tokens ++ ts }) rs).flatMap PieceRecord.tokens).map Token.entry).count e =
      ((rs.flatMap PieceRecord.tokens).map Token.entry).count e + (ts.map Token.entry).count e := by
  induction rs with
  | nil => cases mem
  | cons x rs ih =>
    obtain ⟨fresh, once'⟩ := List.nodup_cons.mp once
    unfold modNumber at ih ⊢
    rw [List.map_cons, List.flatMap_cons, List.flatMap_cons, List.map_append, List.map_append, List.count_append, List.count_append]
    by_cases same : x.number = r.number
    · have rest : (rs.map fun y => if y.number = r.number then { y with tokens := y.tokens ++ ts } else y) = rs := by
        refine (List.map_congr_left fun y listed => if_neg fun clash => fresh ?_).trans (List.map_id rs)
        rw [same, ← clash]
        exact List.mem_map_of_mem listed
      rw [rest, if_pos same, List.map_append, List.count_append]
      omega
    · have later : r ∈ rs := (List.mem_cons.mp mem).resolve_left fun first => same (first ▸ rfl)
      rw [if_neg same, ih once' later]
      omega

namespace Rebalances

theorem append (l : LaneId) (s : State) (n : RecordNo) (lead : Pos) : Rebalances l [] [] s (s.appendRecord l n lead) := by
  refine regroup (Steady.appendRecord s l n lead) (.ofLane ?_ (fun m other => ?_) ?_ ?_)
  · unfold State.appendRecord State.wakeSuspended
    split <;> rfl
  · exact (State.appendRecord_lane s l m n lead).trans (if_neg other)
  · rw [State.appendRecord_lane, if_pos rfl]
    rfl
  · rw [State.appendRecord_lane, if_pos rfl, List.perm_iff_count]
    intro e
    have head := State.count_headToken s l e
    unfold Lane.entered Lane.tokenEntries State.newRecord
    simp only [List.nil_append, List.count_append, List.map_append, List.flatMap_append, List.flatMap_cons, List.flatMap_nil, List.append_nil]
    omega

theorem double {r : PieceRecord} (whole : s.poolWhole) (found : s.findRecord l r.number = some r) :
    Rebalances l [] [] s (s.takeDouble l r) := by
  refine regroup (Steady.takeDouble s l r) ?_
  unfold State.takeDouble
  split
  · let doubled : State := (s.modRecord l r.number fun x => { x with tokens := x.tokens ++ (s.headToken l).toList }).popToken l
    have own : doubled.lane l = { s.lane l with
        inFlight := modNumber r.number (fun x => { x with tokens := x.tokens ++ (s.headToken l).toList }) (s.lane l).inFlight
        tokens := (s.lane l).tokens.tail } := by
      unfold doubled State.popToken State.modRecord
      rw [State.modLane_lane_same, State.modLane_lane_same]
      rfl
    have others (m : LaneId) (other : m ≠ l) : doubled.lane m = s.lane m := by
      unfold doubled State.popToken State.modRecord
      rw [State.modLane_lane_other _ _ other, State.modLane_lane_other _ _ other]
    refine Regroups.ofLane (t := doubled) rfl others (by rw [own]; rfl) ?_
    rw [own, List.perm_iff_count]
    intro e
    have head := State.count_headToken s l e
    have records := count_modNumber (s.headToken l).toList (whole.numbers_nodup l) (State.findRecord_mem found).1 e
    unfold Lane.tokenEntries
    simp only [List.nil_append, List.count_append]
    omega
  · exact (Unmoved.refl s).regroups l []

theorem exitTrailing (l : LaneId) (s : State) : Rebalances l [] [] s (s.exitTrailing l) := by
  have cleared (t : State) : Rebalances l [] [] t (t.clearArrival l) :=
    unmoved (.ofSame rfl rfl rfl) (Unmoved.modExit t l fun x => { x with arrival := .absent, blockedTarget := none, route := .overflow })
  have passed (n : RecordNo) : Rebalances l [] [] s (s.passExit l n) := by
    unfold State.passExit
    split
    · next r _ =>
      have steady : Steady s (s.countIfDelivered r) := by
        unfold State.countIfDelivered
        split
        · exact Steady.countDelivery s _ _
        · exact Steady.refl s
      exact (unmoved steady (Unmoved.countIfDelivered s r)).trans (retire l _ n _)
    · exact refl l [] s
  unfold State.exitTrailing
  split
  · exact (passed _).trans (cleared _)
  · exact unmoved (Steady.modLane s l _) (Unmoved.modExit s l _)
  · exact refl l [] s

theorem ofLaneMove {t : State} (h : LaneMove l s t) (whole : s.poolWhole) : Rebalances l [] [] s t := by
  have exit (u : State) (f : ExitUnit → ExitUnit) : Rebalances l [] [] u (u.modExit l f) :=
    unmoved (Steady.modLane u l _) (Unmoved.modExit u l f)
  cases h with
  | inert h => exact unmoved h.steady (.ofInert h)
  | retire n o => exact retire l s n o
  | loseToken q front rest queue => exact loseQueued queue
  | purge f => exact purge l s f
  | append n lead => exact append l s n lead
  | record n f _ _ tokens => exact unmoved (Steady.modLane s l _) (Unmoved.modRecord s l n tokens)
  | double r _ found => exact double whole found
  | sched f => exact unmoved (Steady.modLane s l _) (Unmoved.modSched s l f)
  | windows f => exact unmoved (Steady.modLane s l _) (Unmoved.modSched s l f)
  | exitLevel f => exact exit s f
  | arrive r p => exact (exit s _).trans (unmoved (Steady.matchArrival _ l r p) (Unmoved.matchArrival _ l r p))
  | phantom p => exact (exit s _).trans (unmoved (Steady.phantomArrival _ l p) (Unmoved.phantomArrival _ l p))
  | depart => exact (exit s _).trans (exitTrailing l _)
  | reroute r => exact unmoved (Steady.rerouteAtExit s l r) (Unmoved.rerouteAtExit s l r)

end Rebalances

end Lanes

end Sys2Proof.Machine
end


section
/-!
# Tokens accepted, lanes stopped, words written and resets keep the law of the lot ring (R10, R32, R37, R139, R140, R179)
-/

namespace Sys2Proof.Machine

section Station

variable {s t : State} {l : LaneId} {e : EntryId}

/-! ## Tokens accepted and written off (R32, R37) -/

/-- The ACTIVE entry of a lane is on its list. -/
theorem State.activeEntry_listed (active : s.activeEntry l = some e) : e ∈ (s.lane l).openEntries := by
  unfold State.activeEntry at active
  split at active
  · next it last =>
    split at active
    · injection active with same
      exact same ▸ List.mem_map_of_mem (List.mem_of_getLast? last)
    · cases active
  · cases active

/-- A token in hand joins the queue. -/
theorem Rebalances.queueToken (l : LaneId) (s : State) (t : Token) : Rebalances l [t.entry] [] s (s.queueToken l t) := by
  refine regroup (.ofSame rfl rfl rfl) (.ofLane rfl (fun m other => State.modLane_lane_other s _ other) ?_ ?_)
  · unfold State.queueToken
    rw [State.modLane_lane_same]
    rfl
  · unfold State.queueToken
    rw [State.modLane_lane_same, List.perm_iff_count]
    intro e
    unfold Lane.tokenEntries
    simp only [List.nil_append, List.count_append, List.map_append, List.map_cons, List.map_nil, List.count_cons, List.count_nil]
    omega

theorem State.Balances.acceptToken {a : Announcement} (h : s.Balances a.lane []) (wf : s.memWf) (listed : e ∈ (s.lane a.lane).openEntries)
    (active : s.entryStatus e = some .active) : (s.acceptToken a e).Balances a.lane [] := by
  have queued := Rebalances.queueToken a.lane (s.assign a.lane e) (s.tokenFor a e)
  have woken (u : State) : Rebalances a.lane [] [] u (u.wakeSuspended a.lane) :=
    .unmoved (Steady.wakeSuspended u a.lane) (Unmoved.wakeSuspended u a.lane)
  unfold State.acceptToken
  exact (queued.trans (woken _)).balances ((Steady.assign s a.lane e).wf wf) (h.assign wf listed active)

theorem State.Balances.writeOff {t : Token} (h : s.Balances l []) (wf : s.memWf) (active : s.activeEntry l = some t.entry) :
    ((s.assign l t.entry).loseToken l t).Balances l [] :=
  (Rebalances.loseToken l (s.assign l t.entry) t).balances ((Steady.assign s l t.entry).wf wf)
    (h.assign wf (State.activeEntry_listed active) (State.activeEntry_status active))

/-- A token for which the lane's next entry is claimed. -/
theorem State.Balances.adopt {a : Announcement} (h : s.Balances a.lane []) (wf : s.memWf) (can : s.canClaim a.lane = true) :
    (((s.claim a.lane).wakeDry a.lane).acceptToken a (s.lane a.lane).cursor).Balances a.lane [] := by
  have claimed := h.claim wf
  have wf' := (Steady.claim s a.lane).wf wf
  have woken := Unmoved.wakeDry (s.claim a.lane) a.lane
  have listed : (s.lane a.lane).cursor ∈ ((s.claim a.lane).lane a.lane).openEntries := by
    rw [State.claim_of_can can, State.takeEntry_lane_same]
    exact List.mem_map_of_mem (f := OpenItem.entry) (List.mem_append_right _ (List.mem_singleton.mpr rfl))
  have active : (s.claim a.lane).entryStatus (s.lane a.lane).cursor = some .active := by
    rw [State.claim_of_can can, State.entryStatus_takeEntry wf, if_pos rfl]
  refine (claimed.unmoved woken).acceptToken ((Steady.wakeDry _ a.lane).wf wf') ?_ ?_
  · rw [woken.lists]
    exact listed
  · rw [(woken.words _).status]
    exact active

/-! ## A lane stopped (R139) -/

theorem HeadLeaves.abortHead (wf : s.memWf) {it : OpenItem} {rest : List OpenItem} (list : (s.lane l).openList = it :: rest) :
    HeadLeaves l it.entry s (s.abortHead l it) := by
  have quiet := s.closeItem_quiet l it .aborted
  have unmoved := Unmoved.ofQuiet quiet
  have own : ((s.abortHead l it).lane l).openList = rest := by
    unfold State.abortHead State.dropHead
    rw [State.modLane_lane_same]
    dsimp only
    rw [quiet.openList l]
    exact congrArg List.tail list
  have others (m : LaneId) (other : m ≠ l) : (s.abortHead l it).lane m = (s.closeItem l it .aborted).lane m := State.modLane_lane_other _ _ other
  have tokens (m : LaneId) : ((s.abortHead l it).lane m).tokenEntries = ((s.closeItem l it .aborted).lane m).tokenEntries := by
    by_cases same : m = l
    · unfold State.abortHead State.dropHead
      rw [same, State.modLane_lane_same]
      rfl
    · rw [others m same]
  exact {
    head := by rw [Lane.openEntries, Lane.openEntries, own, list]; rfl
    lists := fun m other => by rw [others m other]; exact unmoved.lists m
    tokens := fun m => (tokens m).trans (unmoved.tokens m)
    unclaimed := by
      have status : (s.abortHead l it).entryStatus it.entry = (s.writeBackEntry it.entry .aborted).entryStatus it.entry :=
        (unmoved.words it.entry).status
      rw [status, State.entryStatus_writeBackEntry_same wf]
      rfl
    words := fun f other k hk =>
      (unmoved.words f k hk).trans (State.entryWord_writeBackEntry_other .aborted (by omega) (Or.inl other)) }

/-- Items aborted with no token of the lane out. -/
theorem State.Balances.abortItems {items : List OpenItem} (h : s.Balances l []) (wf : s.memWf) (list : (s.lane l).openList = items)
    (none : (s.lane l).tokenEntries = []) : (items.foldl (fun s it => s.abortHead l it) s).Balances l [] := by
  induction items generalizing s with
  | nil => exact h
  | cons it items ih =>
    have leaves := HeadLeaves.abortHead wf list
    have quiet := s.closeItem_quiet l it .aborted
    refine ih (s := s.abortHead l it) (h.headLeaves leaves List.not_mem_nil ?_) ?_ ?_ ((leaves.tokens l).trans none)
    · rw [none]
      exact List.not_mem_nil
    · exact quiet.wf (State.writeBackEntry_memWf wf it.entry .aborted)
    · unfold State.abortHead State.dropHead
      rw [State.modLane_lane_same]
      dsimp only
      rw [quiet.openList l]
      exact congrArg List.tail list

theorem State.Balances.abortLane (h : s.Balances l []) (wf : s.memWf) (none : (s.lane l).tokenEntries = []) :
    (s.abortLane l).Balances l [] := by
  have aborted := h.abortItems wf rfl none
  have pending (u : State) : Unmoved u (u.setWaitPending l false) := Unmoved.modLane u l _ rfl rfl
  unfold State.abortLane
  dsimp only
  split
  · exact (aborted.unmoved (Unmoved.ofQuiet (Quiet.reportLot _ l _))).unmoved (pending _)
  · exact aborted.unmoved (pending _)

/-! ## Words written (R179) -/

/-- A write right leaves every word of a claimed entry. -/
theorem State.wordsKept_setWord {p : Pointer} {w : Word} (right : s.writable p w = true) (claimed : isClaimed (s.entryStatus e) = true) :
    WordsKept s (s.setWord p.page.val p.offset.val w) e := by
  intro k hk
  refine State.word_setWord_other s w fun same => ?_
  have inPage := p.offset.isLt
  have := e.isLt
  unfold pageBase at same
  have page : p.page = 4 := Fin.ext (show p.page.val = 4 by omega)
  have offset : p.offset.val = 12 * e.val + k := by
    rw [page] at same
    exact (Nat.add_left_cancel same).symm
  rw [State.writable_ring page, State.ringWritable_iff] at right
  rw [(right e (by omega) (by omega)).1] at claimed
  cases claimed

theorem State.Balances.wrote {p : Pointer} {w : Word} (h : s.Balances l []) (wf : s.memWf) (right : s.writable p w = true) :
    (s.setWord p.page.val p.offset.val w).Balances l [] := by
  have words (m : LaneId) (f : EntryId) (mem : f ∈ (s.lane m).openEntries) : WordsKept s (s.setWord p.page.val p.offset.val w) f := by
    obtain ⟨claimed, -⟩ := h.items m f mem
    exact State.wordsKept_setWord right claimed
  exact {
    nodup := h.nodup
    apart := h.apart
    listed := fun f claimed => h.listed f ((State.isClaimed_setWord wf right f).symm.trans claimed)
    items := fun m f mem => (words m f mem).item (h.items m f mem)
    held := h.held
    inHand := h.inHand
    balance := fun m f mem => by
      rw [(words m f mem).assigned, (words m f mem).retired]
      exact h.balance m f mem }

/-! ## The resets (R10, R140) -/

/-- Lanes at their reset values and no claimed entry. -/
theorem State.Balances.ofReset (lanes : ∀ m, t.lane m = (s.lane m).toReset) (unclaimed : ∀ f, isClaimed (t.entryStatus f) = false) :
    t.Balances l [] := by
  have noEntries (m : LaneId) : (t.lane m).openEntries = [] := by rw [lanes m]; rfl
  have noTokens (m : LaneId) : (t.lane m).tokenEntries = [] := by rw [lanes m]; rfl
  have absurdity (m : LaneId) {P : EntryId → Prop} : ∀ f ∈ (t.lane m).openEntries, P f := fun f mem => by rw [noEntries m] at mem; cases mem
  exact {
    nodup := fun m => by rw [noEntries m]; exact List.nodup_nil
    apart := fun m _ f first => by rw [noEntries m] at first; cases first
    listed := fun f claimed => by rw [unclaimed f] at claimed; cases claimed
    items := fun m => absurdity m
    held := fun m f mem => by rw [noTokens m] at mem; cases mem
    inHand := fun f mem => by cases mem
    balance := fun m => absurdity m }

/-- The step claims no entry. -/
structure ClaimsNone (s t : State) : Prop where
  wf : s.memWf → t.memWf
  claimed : s.memWf → ∀ f, isClaimed (t.entryStatus f) = true → isClaimed (s.entryStatus f) = true

namespace ClaimsNone

variable {u : State}

theorem refl (s : State) : ClaimsNone s s := ⟨id, fun _ _ => id⟩

theorem trans (h : ClaimsNone s t) (k : ClaimsNone t u) : ClaimsNone s u :=
  ⟨fun wf => k.wf (h.wf wf), fun wf f claimed => h.claimed wf f (k.claimed (h.wf wf) f claimed)⟩

theorem foldl {α : Type} {f : State → α → State} (h : ∀ s a, ClaimsNone s (f s a)) (xs : List α) (s : State) :
    ClaimsNone s (xs.foldl f s) := by
  induction xs generalizing s with
  | nil => exact refl s
  | cons x xs ih => exact (h s x).trans (ih _)

theorem loseTokens (s : State) (ts : List Token) : ClaimsNone s (s.loseTokens ts) := by
  unfold State.loseTokens
  refine foldl (f := fun (s : State) (t : Token) => s.bumpEntry t.entry Retirement.lost.entryIndex) (fun u t => ?_) ts s
  refine ⟨(Steady.bumpEntry u t.entry (by decide)).wf, fun _ f claimed => ?_⟩
  have word : (u.bumpEntry t.entry Retirement.lost.entryIndex).entryWord f 0 = u.entryWord f 0 :=
    State.entryWord_bumpEntry_other (by decide) (by decide) (Or.inr (by decide))
  rw [State.entryStatus_of_word word] at claimed
  exact claimed

theorem loseRecords (s : State) (l : LaneId) : ClaimsNone s (s.loseRecords l) := by
  unfold State.loseRecords
  refine foldl (f := fun (s : State) (r : PieceRecord) => { s.loseTokens r.tokens with free := s.free ++ [r.number] }) (fun u r => ?_) _ s
  exact trans (loseTokens u r.tokens) ⟨id, fun _ _ => id⟩

theorem abortAtReset (s : State) (l : LaneId) : ClaimsNone s (s.abortAtReset l) := by
  unfold State.abortAtReset
  refine foldl (f := fun (s : State) (it : OpenItem) => s.writeBackEntry it.entry .aborted) (fun u it => ?_) _ s
  refine ⟨fun wf => State.writeBackEntry_memWf wf it.entry .aborted, fun wf f claimed => ?_⟩
  by_cases same : f = it.entry
  · rw [same, State.entryStatus_writeBackEntry_same wf] at claimed
    cases claimed
  · rw [State.entryStatus_of_word (State.entryWord_writeBackEntry_other .aborted (by decide) (Or.inl same))] at claimed
    exact claimed

theorem writeOff (s : State) : ClaimsNone s s.writeOff := by
  have queue (t : State) (l : LaneId) : ClaimsNone t (t.loseQueue l) := loseTokens t _
  unfold State.writeOff
  exact (foldl loseRecords allLanes s).trans ((foldl queue allLanes _).trans (foldl abortAtReset allLanes _))

theorem warmReset (s : State) : ClaimsNone s s.warmReset := by
  have cleared (u : State) (f : EntryId) : u.clearCounterPage.toReset.entryWord f 0 = u.entryWord f 0 := by
    refine (Mem.read_clearPage u.mem 7 _).trans (if_neg ?_)
    unfold pageBase
    omega
  refine ⟨(Steady.warmReset s).wf, fun wf f claimed => (writeOff s).claimed wf f ?_⟩
  unfold State.warmReset at claimed
  rw [State.entryStatus_of_word (cleared _ f)] at claimed
  exact claimed

end ClaimsNone

/-- A warm reset aborts every claimed entry, since each is on a list. -/
theorem State.Balances.warmReset (h : s.Balances l []) (wf : s.memWf) : s.warmReset.Balances l [] := by
  refine .ofReset s.warmReset_lane fun f => Bool.eq_false_iff.mpr fun claimed => ?_
  obtain ⟨m, mem⟩ := h.listed f ((ClaimsNone.warmReset s).claimed wf f claimed)
  obtain ⟨it, listed, rfl⟩ := List.mem_map.mp mem
  obtain ⟨aborted, -⟩ := State.writtenBackAborted_warmReset wf listed
  rw [aborted] at claimed
  cases claimed

theorem State.Balances.powerOnReset (l : LaneId) (s : State) : s.powerOnReset.Balances l [] := by
  refine .ofReset s.powerOnReset_lane fun f => ?_
  have word : s.powerOnReset.entryWord f 0 = State.reset.entryWord f 0 := rfl
  rw [State.entryStatus_of_word word, State.reset_entryStatus]
  rfl

end Station

/-! ## Every move -/

theorem lotRingBalances_move {s t : State} (move : Move s t) (wf : s.memWf) (whole : s.poolWhole) (rests : s.restCoherent)
    (bal : s.lotRingBalances) : t.lotRingBalances := by
  have before (l : LaneId) : s.Balances l [] := (State.lotRingBalances_iff l).mp bal
  have after (l : LaneId) (h : t.Balances l []) : t.lotRingBalances := (State.lotRingBalances_iff l).mpr h
  have unmoved (h : Unmoved s t) : t.lotRingBalances := after 0 ((before 0).unmoved h)
  cases move with
  | lane l h => exact after l ((Rebalances.ofLaneMove h whole).balances wf (before l))
  | inert h => exact unmoved (.ofInert h)
  | accept a e active => exact after a.lane ((before a.lane).acceptToken wf (State.activeEntry_listed active) (State.activeEntry_status active))
  | adopt a can => exact after a.lane ((before a.lane).adopt wf can)
  | writeOff l t active => exact after l ((before l).writeOff wf active)
  | claim l => exact after l ((before l).claim wf)
  | turn l f turns =>
    obtain ⟨tokens, inFlight, -⟩ := turns.kept
    refine unmoved (.modLane s l f ?_ ?_)
    · exact (congrArg Lane.openEntries turns.same).trans rfl
    · rw [Lane.tokenEntries, Lane.tokenEntries, tokens, inFlight]
  | abort l suspended =>
    obtain ⟨tokens, inFlight⟩ := rests l (Or.inr suspended)
    exact after l ((before l).abortLane wf (by rw [Lane.tokenEntries, tokens, inFlight]; rfl))
  | idle l => exact unmoved (.enterIdle s l)
  | clearFault l => exact unmoved (.modLane s l _ rfl rfl)
  | wrote p w right => exact after 0 ((before 0).wrote wf right)
  | warmReset => exact after 0 ((before 0).warmReset wf)
  | powerOn => exact after 0 (State.Balances.powerOnReset 0 s)

/-- Settles O11: every move keeps the law of the lot ring, with a whole pool for records and no token in a SUSPENDED lane. -/
theorem lotRingBalanceKept : Obligations.LotRingBalanceKept :=
  ⟨State.reset_lotRingBalances, kept_of_moves fun _ _ move ⟨bal, wf, whole, faults, rests⟩ =>
    ⟨lotRingBalances_move move wf whole rests bal, (Steady.ofMove move).wf wf, poolWhole_move move whole, faultsCoherent_move move faults,
      restCoherent_move move faults rests⟩⟩

end Sys2Proof.Machine
end
